-- ==== Sys2Proof/Word.lean ====
section
/-! DEFINITION. The bytes the supervisor link carries, and tables of a fixed size. -/

namespace Sys2Proof

/-- A character of the supervisor link: 8 data bits (R162). -/
abbrev Byte := BitVec 8

/-- The running value of the frame CRC (R164). -/
abbrev Crc := BitVec 16

/-- The same function applied to every entry of a table of fixed size. -/
def mapTable {α β : Type} {n : Nat} (f : α → β) (v : Vector α n) : Vector β n :=
  ⟨⟨v.toList.map f⟩, by simp⟩

/-- One entry of a table of fixed size replaced. -/
def setTable {α : Type} {n : Nat} (v : Vector α n) (i : Fin n) (x : α) : Vector α n :=
  v.set i x

/-- One entry of a table of fixed size. -/
def getTable {α : Type} {n : Nat} (v : Vector α n) (i : Fin n) : α :=
  v[i]

@[simp] theorem getTable_setTable_self {α : Type} {n : Nat} (v : Vector α n) (i : Fin n) (x : α) :
    getTable (setTable v i x) i = x := by
  simp [getTable, setTable]

theorem getTable_setTable_ne {α : Type} {n : Nat} (v : Vector α n) (i j : Fin n) (x : α)
    (h : i ≠ j) : getTable (setTable v i x) j = getTable v j := by
  have : i.val ≠ j.val := fun e => h (Fin.ext e)
  simp [getTable, setTable, this]

@[simp] theorem getTable_mapTable {α β : Type} {n : Nat} (f : α → β) (v : Vector α n) (i : Fin n) :
    getTable (mapTable f v) i = f (getTable v i) := by
  simp [getTable, mapTable]

end Sys2Proof
end

