-- ==== Sys2Proof/Config.lean ====
section
/-! DEFINITION. What an implementation fixes, and the free values and orders the manual leaves open. None of these
constants has a body: a claim about the model holds whatever they are. -/

namespace Sys2Proof.Config

/-- R167: the silicon revision, 1 byte, 1 to 255, fixed for each revision of the part; the revision is one more than
this constant. Left open by the manual (log 7). -/
opaque siliconRevisionLessOne : Fin 255

/-- R147: the Run Controller and the Fan Sequencer take the signal of one FAN_RUN latch in either order. True: the Fan
Sequencer first. The argument is the number of choices drawn before (log 4). -/
opaque fanSequencerFirst : Nat → Bool

/-- R140, R142: when the Run Controller takes the signal of a level-3 FAN_RUN latch first, the Fan Sequencer takes the latch
and the signal of SAFE in either order. True: the latch first. The argument is the number of choices drawn before (log 4). -/
opaque fanLatchBeforeSafe : Nat → Bool

/-- R148, R171: the trips at READY, the scan start and the fan start are taken in any order. At a draw, with so many
actions left, the action at this position modulo that number is taken next (log 4). -/
opaque readyPick : Nat → Nat → Nat

/-- R143: whether the contact of an input, by its number, is closed as it stands at a restart. The part knows only its
level filtered over 20 ms (R144), from which the contact may just have moved. The first argument is the number of choices
drawn before (log 6). -/
opaque contactAtRestart : Nat → Nat → Bool

/-- The step running minutes after a minute event that finds them at 4294967295, the top of their range (R82); the
manual states no value. The argument is the uptime minute (log 7). -/
opaque stepMinutesPastTop : Nat → Fin 4294967296

/-- The run total minutes after a minute event that finds them at 4294967295 (R82), but that they are then raised to the
step running minutes, which never exceed them (R87); the manual states no value (log 7). -/
opaque totalMinutesPastTop : Nat → Fin 4294967296

end Sys2Proof.Config
end

