-- ==== Sys2Proof/Syntax.lean ====
section
/-! DEFINITION. The commands of the part: one constructor for each row of spec/opcode_table.json, with the row's operands,
and the types those operands are made of. -/

namespace Sys2Proof

/-- The four climate zones, numbered 1 to 4. -/
inductive ZoneId
  | z1 | z2 | z3 | z4
  deriving DecidableEq, Repr

/-- One thing for each zone. -/
structure Zones (α : Type) where
  z1 : α
  z2 : α
  z3 : α
  z4 : α
  deriving DecidableEq, Repr

/-- The eight interlock inputs of R143, in the order of their numbers 1 to 8. -/
inductive Input
  | door | fanRun | heatSupply | spraySupply | estop | overtemp | aux1 | aux2
  deriving DecidableEq, Repr

/-- One thing for each interlock input. -/
structure Inputs (α : Type) where
  door : α
  fanRun : α
  heatSupply : α
  spraySupply : α
  estop : α
  overtemp : α
  aux1 : α
  aux2 : α
  deriving DecidableEq, Repr

/-- The two kinds of valve of a zone (R127). -/
inductive ValveKind
  | heat | spray
  deriving DecidableEq, Repr

/-- One sample of a temperature element (R109): a temperature in tenths of °C, or an element that reads open or
shorted. -/
inductive Sample
  | value (tenths : Int)
  | readsOpen
  | readsShorted
  deriving DecidableEq, Repr

/-- The samples of one zone's three channels at one sample set. -/
structure ZoneSamples where
  db : Sample
  wb : Sample
  wood : Sample
  deriving DecidableEq, Repr

/-- The straps latched at power-on (R171). -/
structure Straps where
  /-- the five address straps; the link address is this value plus 1 (R162) -/
  address : BitVec 5
  /-- the two baud straps (R162) -/
  baud : BitVec 2
  /-- the SKIP_SETTINGS strap -/
  skipSettings : Bool
  deriving DecidableEq, Repr

/-- How a checkpoint write and its read-back end (R175). A write that does not end well leaves the region as the
memory has it; the manual does not say how, so the command says it. -/
inductive CheckpointEnd
  | agrees
  /-- the read-back disagrees or the memory does not answer, and the region holds the new checkpoint all the same -/
  | failsAsWritten
  /-- … and the region reads as it did before the write started -/
  | failsAsBefore
  /-- … and the region reads as one with no header -/
  | failsNoHeader
  /-- … and the header's condition reads WRITING -/
  | failsWriting
  /-- … and the condition reads RUN with a CRC that disagrees -/
  | failsCrc
  deriving DecidableEq, Repr

/-- How a save write and its read-back end (R175). -/
inductive SaveEnd
  | agrees
  /-- the read-back disagrees, and the region holds the new image all the same -/
  | failsAsWritten
  /-- … and the region reads as it did before the write -/
  | failsAsBefore
  /-- … and the marker is not that of a settings image -/
  | failsUnmarked
  /-- … and the version is not the one this part writes -/
  | failsVersion
  /-- … and the CRC over the body disagrees -/
  | failsCrc
  deriving DecidableEq, Repr

/-- What a power loss during a checkpoint write leaves in the region (R175): WRITING, or a disagreeing CRC. -/
inductive Tear
  | writing
  | crcDisagrees
  deriving DecidableEq, Repr

/-- The commands. Rows that are requests of the host carry the tag and the payload of their frame; a row that fixes the
first payload byte (SCHED_ADOPT by its field `when`, RESET_BLOCK by its target) carries the bytes after it. -/
inductive Instr
  | powerOn (straps : Straps) (contacts : Inputs Bool)
  | loadEnd (settingsReads checkpointReads : Bool)
  | secondEvent
  | minuteEvent
  | sampleSet (samples : Zones ZoneSamples)
  | scanTimerExpiry
  | settleEnd
  | thresholdCrossed (n : Nat)
  | counterFull
  | hoursTestPass
  | settleTimerPass
  | stepTimeout
  | runHourCheckpoint
  | liveLevelChange (input : Input) (closed : Bool)
  | startConfirmExpiry
  | reversalDue
  | coastEnd
  | valveOnTimeReached (zone : ZoneId) (kind : ValveKind)
  | valveCycleEnd (zone : ZoneId) (kind : ValveKind)
  | checkpointWriteEnd (result : CheckpointEnd)
  | saveWriteEnd (result : SaveEnd)
  | gapTimeout
  | frameLengthInvalid (length : Byte)
  | frameSkipped
  | frameCrcFail (crcLow : Byte)
  | unknownRequest (kind tag : Byte) (payload : List Byte)
  | replyEnd
  | partRestart
  | identify (tag : Byte) (payload : List Byte)
  | status (tag : Byte) (payload : List Byte)
  | probeSet (tag : Byte) (payload : List Byte)
  | probeGet (tag : Byte) (payload : List Byte)
  | probeBlock (tag : Byte) (payload : List Byte)
  | probeUnblock (tag : Byte) (payload : List Byte)
  | probeReadmit (tag : Byte) (payload : List Byte)
  | probeConfig (tag : Byte) (payload : List Byte)
  | statsGet (tag : Byte) (payload : List Byte)
  | scanConfig (tag : Byte) (payload : List Byte)
  | scanNow (tag : Byte) (payload : List Byte)
  | curvePut (tag : Byte) (payload : List Byte)
  | curveGet (tag : Byte) (payload : List Byte)
  | curveClear (tag : Byte) (payload : List Byte)
  | schedClear (tag : Byte) (payload : List Byte)
  | schedPutStep (tag : Byte) (payload : List Byte)
  | schedTruncate (tag : Byte) (payload : List Byte)
  | schedCopyActive (tag : Byte) (payload : List Byte)
  | schedGetStep (tag : Byte) (payload : List Byte)
  | schedAdoptNow (tag : Byte) (rest : List Byte)
  | schedAdoptAtStepEnd (tag : Byte) (rest : List Byte)
  | schedAdoptCancel (tag : Byte) (payload : List Byte)
  | runStart (tag : Byte) (payload : List Byte)
  | runHold (tag : Byte) (payload : List Byte)
  | runResume (tag : Byte) (payload : List Byte)
  | runRestart (tag : Byte) (payload : List Byte)
  | runAbort (tag : Byte) (payload : List Byte)
  | runGet (tag : Byte) (payload : List Byte)
  | zoneConfig (tag : Byte) (payload : List Byte)
  | zoneGet (tag : Byte) (payload : List Byte)
  | loopMode (tag : Byte) (payload : List Byte)
  | fanConfig (tag : Byte) (payload : List Byte)
  | interlockConfig (tag : Byte) (payload : List Byte)
  | interlockGet (tag : Byte) (payload : List Byte)
  | interlockClear (tag : Byte) (payload : List Byte)
  | historyRead (tag : Byte) (payload : List Byte)
  | historyLatest (tag : Byte) (payload : List Byte)
  | noticeFetch (tag : Byte) (payload : List Byte)
  | settingsSave (tag : Byte) (payload : List Byte)
  | restartPart (tag : Byte) (payload : List Byte)
  | scannerBlockReset (tag : Byte) (rest : List Byte)
  | probesBlockReset (tag : Byte) (rest : List Byte)
  | zoneBlockReset (tag : Byte) (rest : List Byte)
  | historyBlockReset (tag : Byte) (rest : List Byte)
  | noticesBlockReset (tag : Byte) (rest : List Byte)
  | characterReceived (byte : Byte)
  | replyFirstCharacter
  | powerLoss (tear : Tear)
  deriving DecidableEq, Repr

/-- The zones in ascending number. -/
def ZoneId.all : List ZoneId := [.z1, .z2, .z3, .z4]

/-- The number of a zone, 1 to 4. -/
def ZoneId.number : ZoneId → Nat
  | .z1 => 1
  | .z2 => 2
  | .z3 => 3
  | .z4 => 4

/-- The inputs in ascending number. -/
def Input.all : List Input :=
  [.door, .fanRun, .heatSupply, .spraySupply, .estop, .overtemp, .aux1, .aux2]

/-- The number of an input (R143). -/
def Input.number : Input → Nat
  | .door => 1
  | .fanRun => 2
  | .heatSupply => 3
  | .spraySupply => 4
  | .estop => 5
  | .overtemp => 6
  | .aux1 => 7
  | .aux2 => 8

/-- What a zone holds. -/
def Zones.get {α : Type} (x : Zones α) : ZoneId → α
  | .z1 => x.z1
  | .z2 => x.z2
  | .z3 => x.z3
  | .z4 => x.z4

/-- A zone's entry replaced. -/
def Zones.set {α : Type} (x : Zones α) (z : ZoneId) (a : α) : Zones α :=
  match z with
  | .z1 => { x with z1 := a }
  | .z2 => { x with z2 := a }
  | .z3 => { x with z3 := a }
  | .z4 => { x with z4 := a }

/-- Every zone's entry replaced by a function of the zone and the entry. -/
def Zones.map {α β : Type} (f : ZoneId → α → β) (x : Zones α) : Zones β :=
  ⟨f .z1 x.z1, f .z2 x.z2, f .z3 x.z3, f .z4 x.z4⟩

/-- The same thing in every zone. -/
def Zones.replicate {α : Type} (a : α) : Zones α := ⟨a, a, a, a⟩

/-- What an input holds. -/
def Inputs.get {α : Type} (x : Inputs α) : Input → α
  | .door => x.door
  | .fanRun => x.fanRun
  | .heatSupply => x.heatSupply
  | .spraySupply => x.spraySupply
  | .estop => x.estop
  | .overtemp => x.overtemp
  | .aux1 => x.aux1
  | .aux2 => x.aux2

/-- An input's entry replaced. -/
def Inputs.set {α : Type} (x : Inputs α) (i : Input) (a : α) : Inputs α :=
  match i with
  | .door => { x with door := a }
  | .fanRun => { x with fanRun := a }
  | .heatSupply => { x with heatSupply := a }
  | .spraySupply => { x with spraySupply := a }
  | .estop => { x with estop := a }
  | .overtemp => { x with overtemp := a }
  | .aux1 => { x with aux1 := a }
  | .aux2 => { x with aux2 := a }

/-- Every input's entry replaced by a function of the input and the entry. -/
def Inputs.map {α β : Type} (f : Input → α → β) (x : Inputs α) : Inputs β :=
  ⟨f .door x.door, f .fanRun x.fanRun, f .heatSupply x.heatSupply, f .spraySupply x.spraySupply,
    f .estop x.estop, f .overtemp x.overtemp, f .aux1 x.aux1, f .aux2 x.aux2⟩

end Sys2Proof
end

