-- ==== Sys2Proof/WellFormed.lean ====
section
/-! DEFINITION. Which commands can be sent: the bounds the spec puts on a command's operands. A frame's payload is at
most 248 bytes (10.2); a count ended by the threshold is at most 65534 (R1); an unknown request has a kind outside the
catalogue of 10.5; an invalid length byte is 0, 1 or above 250 (R163). -/

namespace Sys2Proof

/-- The request kinds of the catalogue of 10.5. -/
def catalogue : List Nat :=
  [0x01, 0x02, 0x10, 0x11, 0x12, 0x13, 0x14, 0x15, 0x16, 0x17, 0x18, 0x1A, 0x1B, 0x1C,
   0x20, 0x21, 0x22, 0x23, 0x24, 0x25, 0x26, 0x28, 0x29, 0x2A, 0x2B, 0x2C, 0x2D,
   0x30, 0x31, 0x32, 0x33, 0x38, 0x39, 0x3A, 0x40, 0x41, 0x42, 0x48, 0x49, 0x4A]

/-- A payload a frame can carry. -/
def payloadFits (payload : List Byte) : Bool := payload.length ≤ 248

/-- The bytes after a fixed first payload byte that a frame can carry. -/
def restFits (rest : List Byte) : Bool := rest.length ≤ 247

/-- A command that can be sent. -/
def wellFormed : Instr → Bool
  | .powerOn _ _ => true
  | .loadEnd _ _ => true
  | .secondEvent => true
  | .minuteEvent => true
  | .sampleSet _ => true
  | .scanTimerExpiry => true
  | .settleEnd => true
  | .thresholdCrossed n => n ≤ 65534
  | .counterFull => true
  | .hoursTestPass => true
  | .settleTimerPass => true
  | .stepTimeout => true
  | .runHourCheckpoint => true
  | .liveLevelChange _ _ => true
  | .startConfirmExpiry => true
  | .reversalDue => true
  | .coastEnd => true
  | .valveOnTimeReached _ _ => true
  | .valveCycleEnd _ _ => true
  | .checkpointWriteEnd _ => true
  | .saveWriteEnd _ => true
  | .gapTimeout => true
  | .frameLengthInvalid b => b.toNat < 2 || 250 < b.toNat
  | .frameSkipped => true
  | .frameCrcFail _ => true
  | .unknownRequest k _ p => !catalogue.contains k.toNat && payloadFits p
  | .replyEnd => true
  | .partRestart => true
  | .identify _ p => payloadFits p
  | .status _ p => payloadFits p
  | .probeSet _ p => payloadFits p
  | .probeGet _ p => payloadFits p
  | .probeBlock _ p => payloadFits p
  | .probeUnblock _ p => payloadFits p
  | .probeReadmit _ p => payloadFits p
  | .probeConfig _ p => payloadFits p
  | .statsGet _ p => payloadFits p
  | .scanConfig _ p => payloadFits p
  | .scanNow _ p => payloadFits p
  | .curvePut _ p => payloadFits p
  | .curveGet _ p => payloadFits p
  | .curveClear _ p => payloadFits p
  | .schedClear _ p => payloadFits p
  | .schedPutStep _ p => payloadFits p
  | .schedTruncate _ p => payloadFits p
  | .schedCopyActive _ p => payloadFits p
  | .schedGetStep _ p => payloadFits p
  | .schedAdoptNow _ r => restFits r
  | .schedAdoptAtStepEnd _ r => restFits r
  | .schedAdoptCancel _ p => payloadFits p
  | .runStart _ p => payloadFits p
  | .runHold _ p => payloadFits p
  | .runResume _ p => payloadFits p
  | .runRestart _ p => payloadFits p
  | .runAbort _ p => payloadFits p
  | .runGet _ p => payloadFits p
  | .zoneConfig _ p => payloadFits p
  | .zoneGet _ p => payloadFits p
  | .loopMode _ p => payloadFits p
  | .fanConfig _ p => payloadFits p
  | .interlockConfig _ p => payloadFits p
  | .interlockGet _ p => payloadFits p
  | .interlockClear _ p => payloadFits p
  | .historyRead _ p => payloadFits p
  | .historyLatest _ p => payloadFits p
  | .noticeFetch _ p => payloadFits p
  | .settingsSave _ p => payloadFits p
  | .restartPart _ p => payloadFits p
  | .scannerBlockReset _ r => restFits r
  | .probesBlockReset _ r => restFits r
  | .zoneBlockReset _ r => restFits r
  | .historyBlockReset _ r => restFits r
  | .noticesBlockReset _ r => restFits r
  | .characterReceived _ => true
  | .replyFirstCharacter => true
  | .powerLoss _ => true

end Sys2Proof
end

