-- ==== Sys2Proof/Decode.lean ====
section
/-! DEFINITION. The decoder over the bits of spec/opcode_table.json. The table gives no row any bits (the part has no
instruction encoding; its commands are requests and events), so no word spells a command. The byte forms of the
requests on the link are in Machine/Link.lean. -/

namespace Sys2Proof

/-- The command a word spells by the table's bits: no row has bits, so none. -/
def decodeTableWord (_nbits _w : Nat) : Option Instr := none

end Sys2Proof
end

