-- ==== Sys2Proof/Machine/State.lean ====
section
/-! DEFINITION. The state of the part, block by block as section 2 of the introduction lists them, its reasons to stop
(there is none), and the state right after power-on. -/

namespace Sys2Proof.Machine

/-! ### Probe Scanner and Moisture Arithmetic (chapters 1 and 2) -/

/-- The scanner's states (1.6). -/
inductive ScannerState
  | off | waiting | scanning
  deriving DecidableEq, Repr

/-- The excitation level (R2). -/
inductive Excitation
  | off | low | high
  deriving DecidableEq, Repr

/-- The excitation polarity (R3). -/
inductive Polarity
  | positive | negative
  deriving DecidableEq, Repr

/-- The settle that runs before a count may start (R2, R3, R5, R6): a channel settle (60 ms), a channel settle with an
excitation settle at the same time (400 ms), an excitation settle (400 ms), a polarity settle (60 ms). -/
inductive Settle
  | channel | channelAndExcitation | excitation | polarity
  deriving DecidableEq, Repr

/-- What the measurement in progress is doing. -/
inductive MeasurePhase
  | settling (kind : Settle)
  | counting
  deriving DecidableEq, Repr

/-- The measurement in progress: the probe selected, the range and attempt of the count (R4), N+ once the positive part
has ended (R6), and the phase. -/
structure Measurement where
  probe : Fin 48
  range : Fin 4
  attempt : Nat
  nPlus : Option Nat
  phase : MeasurePhase
  deriving DecidableEq, Repr

/-- The Probe Scanner's state (R22's table), but for the range memories, which are in the probe records (R8). -/
structure Scanner where
  state : ScannerState
  excitation : Excitation
  polarity : Polarity
  measurement : Option Measurement
  scanNumber : Nat
  timer : Nat
  startDue : Bool
  deriving DecidableEq, Repr

/-- One point of a species curve (R31). -/
structure CurvePoint where
  lc : Nat
  mc : Nat
  deriving DecidableEq, Repr

/-- A loaded species group (R31). -/
structure Curve where
  coefficient : Nat
  points : List CurvePoint
  deriving DecidableEq, Repr

/-! ### Probe Table (chapter 3) -/

/-- A probe's part (R41). -/
inductive Role
  | control | watch
  deriving DecidableEq, Repr

/-- A probe's assignment (R41). -/
structure Assignment where
  zone : ZoneId
  group : Fin 8
  role : Role
  deriving DecidableEq, Repr

/-- The health states (3.1.1). -/
inductive Health
  | unassigned | new | good | suspect | faulted | blocked
  deriving DecidableEq, Repr

/-- The fault kinds of a FAULTED probe (R41). -/
inductive FaultKind
  | short | polarized | unstable | erratic
  deriving DecidableEq, Repr

/-- The kinds of a reading (R24). -/
inductive ReadingKind
  | valid | dryLimit | short | polarized | unstable | noTemperature
  deriving DecidableEq, Repr

/-- The clamp flag of a reading (R24, R38). -/
inductive Clamp
  | none | wetClamp | dryClamp
  deriving DecidableEq, Repr

/-- A reading's figures, as the last reading of a probe record keeps them (R24, R41). -/
structure Reading where
  kind : ReadingKind
  l : Option Nat
  lc : Option Int
  mc : Option Nat
  clamp : Clamp
  minute : Nat
  deriving DecidableEq, Repr

/-- A probe record (R41). The filtered MC is a view of the value list (R45). -/
structure ProbeRecord where
  assignment : Option Assignment
  state : Health
  values : List Nat
  faultCount : Nat
  jumpCount : Nat
  faultKind : Option FaultKind
  rangeMemory : Fin 4
  last : Option Reading
  deriving DecidableEq, Repr

/-- The quorum flag of a publication (R56). -/
inductive Quorum
  | held | lost
  deriving DecidableEq, Repr

/-- The figures a publication carries when quorum is HELD (R57). -/
structure McFigures where
  controllingSet : List (Fin 48)
  controlling : Nat
  wettest : Nat
  driest : Nat
  mean : Nat
  deriving DecidableEq, Repr

/-- A per-probe entry of a publication (R56) or of a history frame (R154). -/
structure ProbeEntry where
  probe : Fin 48
  state : Health
  filtered : Option Nat
  deriving DecidableEq, Repr

/-- A publication of the controlling statistics (R56). -/
structure Publication where
  scanNumber : Nat
  minute : Nat
  w : Nat
  q : Nat
  eligible : Nat
  quorum : Quorum
  figures : Option McFigures
  entries : List ProbeEntry
  deriving DecidableEq, Repr

/-- The Probe Table's latest publication and kept quorum flag (R56, R58). -/
structure Statistics where
  latest : Option Publication
  keptQuorum : Quorum
  deriving DecidableEq, Repr

/-- The quorum action (R59). -/
inductive QuorumAction
  | hold | continue
  deriving DecidableEq, Repr

/-! ### Schedule Store (chapter 4) -/

/-- Step kinds (R63), in the order of their codes. -/
inductive StepKind
  | heatup | dry | equalize | condition | cool
  deriving DecidableEq, Repr

/-- The fan speed (R63, R134). -/
inductive Speed
  | low | high
  deriving DecidableEq, Repr

/-- Advance tests (R63), in the order of their codes. -/
inductive StepTest
  | settled | cooled | mc | hours | mcOrHours | mcAndHours
  deriving DecidableEq, Repr

/-- The statistic an MC test compares (R63). -/
inductive Statistic
  | controlling | driest | mean
  deriving DecidableEq, Repr

/-- What a timeout does (R63, R93). -/
inductive TimeoutAction
  | advance | hold
  deriving DecidableEq, Repr

/-- A step record (R63). -/
structure StepRecord where
  kind : StepKind
  dbTarget : Nat
  depression : Nat
  rampRate : Nat
  reversalInterval : Nat
  speed : Speed
  test : StepTest
  statistic : Option Statistic
  mcThreshold : Option Nat
  testHours : Option Nat
  settleMinutes : Option Nat
  minHours : Option Nat
  maxHours : Option Nat
  timeoutAction : Option TimeoutAction
  deriving DecidableEq, Repr

/-- The two schedule buffers (R65). -/
inductive Buffer
  | a | b
  deriving DecidableEq, Repr

/-- The pending adoption record (R65). -/
structure Adoption where
  target : Nat
  restart : Bool
  deriving DecidableEq, Repr

/-- The Schedule Store (R65): the two buffers, which of them is ACTIVE (the other is EDIT), the pending adoption. -/
structure ScheduleStore where
  bufferA : List StepRecord
  bufferB : List StepRecord
  active : Buffer
  adoption : Option Adoption
  deriving DecidableEq, Repr

/-! ### Run Controller (chapter 5) -/

/-- Run states, in the order of their codes (R166). -/
inductive RunState
  | idle | running | held | safe | complete | aborted
  deriving DecidableEq, Repr

/-- Hold reasons (R82). -/
inductive HoldReason
  | host | timeout | quorum | sensor | interlock | restored
  deriving DecidableEq, Repr

/-- The hold-reason set (R82): whether each reason is a member. -/
structure HoldSet where
  host : Bool
  timeout : Bool
  quorum : Bool
  sensor : Bool
  interlock : Bool
  restored : Bool
  deriving DecidableEq, Repr

/-- The completion record (R82, R96). -/
structure Completion where
  totalMinutes : Nat
  controlling : Option Nat
  driest : Option Nat
  mean : Option Nat
  deriving DecidableEq, Repr

/-- The run record (R82). -/
structure Run where
  state : RunState
  reasons : HoldSet
  stepIndex : Option Nat
  stepMinutes : Nat
  totalMinutes : Nat
  mcMet : Bool
  timeoutTaken : Bool
  settleTimer : Nat
  inBand : Bool
  equalizeEntered : Bool
  spread : Option Nat
  completion : Option Completion
  restored : Bool
  deriving DecidableEq, Repr

/-! ### Temperature Sampler and Zone Loops (chapter 6) -/

/-- The cause of a bad sample (R108, R110). -/
inductive BadCause
  | outOfRange | readsOpen | readsShorted
  deriving DecidableEq, Repr

/-- A channel's state (R108). -/
inductive ChannelState
  | ok | fault
  deriving DecidableEq, Repr

/-- A temperature channel record (R108); its zone and role are its place, its fitted setting is a zone setting. -/
structure Channel where
  last : Option Int
  published : Option Int
  state : ChannelState
  badCount : Nat
  goodCount : Nat
  cause : Option BadCause
  deriving DecidableEq, Repr

/-- The three channels of a zone (R108). -/
structure ZoneChannels where
  db : Channel
  wb : Channel
  wood : Channel
  deriving DecidableEq, Repr

/-- MODEL's own: how the sample set stands to the tenth second event that brings it (log 2). `due`: the second event is
past and its set not taken. `early`: the set was taken just before its second event. -/
inductive SampleMark
  | none | due | early
  deriving DecidableEq, Repr

/-- The Temperature Sampler: second events since READY modulo 10 (R109), and the channel records. -/
structure Sampler where
  timer : Nat
  mark : SampleMark
  channels : Zones ZoneChannels
  deriving DecidableEq, Repr

/-- What a zone follows during a run (R114): the step's targets, the ramp origin and the working setpoint SP. SP_WB is
SP less the depression. -/
structure Ramp where
  dbTarget : Nat
  depression : Nat
  rampRate : Nat
  kind : StepKind
  origin : Int
  setpoint : Int
  deriving DecidableEq, Repr

/-- The conditions a loop shows (R117), in the order of its table. -/
inductive LoopCondition
  | inactive | noRun | safeHold | cool | manual | fanHold | sensorHold | evaluated
  deriving DecidableEq, Repr

/-- A loop's integrator, demand and condition (R114). The humidity loop's demand is u. -/
structure Loop where
  integrator : Int
  demand : Int
  condition : LoopCondition
  deriving DecidableEq, Repr

/-- A zone's loops (R114). -/
structure ZoneLoops where
  ramp : Option Ramp
  heat : Loop
  humidity : Loop
  sprayDemand : Nat
  ventDemand : Nat
  deriving DecidableEq, Repr

/-- A loop's mode (R121). -/
inductive LoopMode
  | auto | manual
  deriving DecidableEq, Repr

/-! ### Output Driver and Fan Sequencer (chapter 7) -/

/-- A valve's forcing set (R127, R128). -/
structure Forcing where
  released : Bool
  safe : Bool
  fans : Bool
  dbFault : Bool
  deriving DecidableEq, Repr

/-- The cycle in progress (R127, R129): the period in seconds, the elapsed time and the latched on-time in tenths of a
second. -/
structure Cycle where
  period : Nat
  elapsed : Nat
  onTime : Nat
  deriving DecidableEq, Repr

/-- A valve record (R127). Its cycle state is FORCED exactly when the forcing set is not empty. -/
structure Valve where
  output : Bool
  forcing : Forcing
  demand : Nat
  cycle : Option Cycle
  deriving DecidableEq, Repr

/-- A vent's condition (R132). -/
inductive VentCondition
  | released | safe | following
  deriving DecidableEq, Repr

/-- A vent record (R132); the current is in µA. -/
structure Vent where
  demand : Nat
  condition : VentCondition
  current : Nat
  deriving DecidableEq, Repr

/-- The outputs of a zone. -/
structure ZoneOutputs where
  heat : Valve
  spray : Valve
  vent : Vent
  deriving DecidableEq, Repr

/-- The Fan Sequencer's states, in the order of their codes (R168). -/
inductive FanState
  | stopped | starting | runningFwd | runningRev | coasting | failed
  deriving DecidableEq, Repr

/-- The DIRECTION output (R134). -/
inductive Direction
  | fwd | rev
  deriving DecidableEq, Repr

/-- The Fan Sequencer (R134). `expectRunning` and `compareActive` are the FAN_RUN expectation. -/
structure Fans where
  state : FanState
  direction : Direction
  speed : Speed
  reversalInterval : Nat
  reversalTimer : Nat
  coastTimer : Nat
  confirmTimer : Nat
  confirmed : Bool
  expectRunning : Bool
  compareActive : Bool
  deriving DecidableEq, Repr

/-! ### Interlock Monitor (chapter 8) -/

/-- What an interlock record holds beside its settings (R143): the live level (true: closed), the trip latch and the
minute of the trip that set it. -/
structure InputRecord where
  live : Bool
  latch : Bool
  trippedAt : Option Nat
  deriving DecidableEq, Repr

/-- The settings of an interlock input (R143). For FAN_RUN only the level is used. -/
structure InputSettings where
  expectedClosed : Bool
  compare : Bool
  level : Nat
  deriving DecidableEq, Repr

/-! ### Settings (the tables of R14, R32, R59, R91, R123, R141, R143) -/

/-- A zone's settings (R123). -/
structure ZoneSettings where
  active : Bool
  woodFitted : Bool
  heatKp : Nat
  heatKi : Nat
  humidityKp : Nat
  humidityKi : Nat
  heatMode : LoopMode
  humidityMode : LoopMode
  heatManual : Int
  humidityManual : Int
  deriving DecidableEq, Repr

/-- Every setting of the part but the probe assignments and blocked marks, which are in the probe records. -/
structure Settings where
  scanInterval : Nat
  scanEnable : Bool
  polarityTolerance : Nat
  curves : Vector (Option Curve) 8
  w : Nat
  q : Nat
  jumpLimit : Nat
  quorumAction : QuorumAction
  zones : Zones ZoneSettings
  settleBand : Nat
  startConfirmWindow : Nat
  coastTime : Nat
  heatPeriod : Nat
  sprayPeriod : Nat
  ventSafePosition : Nat
  interlocks : Inputs InputSettings
  deriving DecidableEq, Repr

/-! ### History and notices (chapter 9) -/

/-- A zone entry of a history frame (R154). -/
structure ZoneEntry where
  zone : ZoneId
  db : Option Int
  wb : Option Int
  deriving DecidableEq, Repr

/-- The four MC fields of a frame, all present or all absent (R154). -/
structure FrameFigures where
  controlling : Nat
  wettest : Nat
  driest : Nat
  mean : Nat
  deriving DecidableEq, Repr

/-- A history frame (R154). -/
structure Frame where
  sequence : Nat
  minute : Nat
  scanNumber : Nat
  runState : RunState
  stepIndex : Option Nat
  eligible : Nat
  figures : Option FrameFigures
  slip : Bool
  zones : List ZoneEntry
  probes : List ProbeEntry
  deriving DecidableEq, Repr

/-- The History Ring (R155), its unread frames oldest first. -/
structure History where
  frames : List Frame
  latest : Option Frame
  slip : Bool
  sequence : Nat
  deriving DecidableEq, Repr

/-- Notice kinds (R159). -/
inductive NoticeKind
  | runStarted | stepEntered | stepTimedOut | runHeld | runResumed | runSafe | runComplete | runAborted
  | runRestored | adoptionApplied | quorumLost | quorumRegained | probeFaulted | interlockTripped
  | sensorFault | sensorRecovered | fanFailed | settingsDefaulted | checkpointLost | saveDone | saveFailed
  deriving DecidableEq, Repr

/-- A notice (R159). -/
structure Notice where
  kind : NoticeKind
  minute : Nat
  argA : Nat
  argB : Nat
  lostBefore : Bool
  deriving DecidableEq, Repr

/-! ### Link Interface (chapter 10) -/

/-- The receiver's states with the frame buffer (R163). -/
inductive Receiver
  | hunt
  | address
  | length (address : Byte)
  | body (address length : Byte) (bytes : List Byte)
  | crc (address length : Byte) (bytes : List Byte) (first : Option Byte)
  | skip (remaining : Nat)
  | answering
  deriving DecidableEq, Repr

/-- The Link Interface: the receiver, the reply frame in hand from the acceptance to the reply's end (R165), the link
direction output (R162), and whether a restart waits for the end of the reply (R165, R177). -/
structure Link where
  receiver : Receiver
  reply : Option (List Byte)
  driver : Bool
  restart : Bool
  deriving DecidableEq, Repr

/-! ### Settings Memory Controller (chapter 11) -/

/-- What a settings image holds of one probe (11.1). -/
structure SavedProbe where
  assignment : Option Assignment
  blocked : Bool
  deriving DecidableEq, Repr

/-- The body of a settings image (11.1). -/
structure Image where
  settings : Settings
  probes : Vector SavedProbe 48
  deriving DecidableEq, Repr

/-- The settings region as the loader finds it (R173). -/
inductive SettingsRegion
  | unmarked
  | otherVersion
  | crcDisagrees
  | image (body : Image)
  deriving DecidableEq, Repr

/-- The body of a checkpoint that marks a run (11.1). -/
structure CheckpointBody where
  schedule : List StepRecord
  stepIndex : Nat
  stepMinutes : Nat
  totalMinutes : Nat
  mcMet : Bool
  timeoutTaken : Bool
  equalizeEntered : Bool
  spread : Option Nat
  origins : Zones (Option Int)
  deriving DecidableEq, Repr

/-- A checkpoint's contents (11.1): the header alone, or a run. -/
inductive Checkpoint
  | noRun
  | run (body : CheckpointBody)
  deriving DecidableEq, Repr

/-- The checkpoint region as the loader finds it (R174). -/
inductive CheckpointRegion
  | noHeader
  | noRun
  | writing
  | crcDisagrees
  | run (body : CheckpointBody)
  deriving DecidableEq, Repr

/-- The operation in flight (R175). A checkpoint write carries what the region read as before it. -/
inductive MemoryOp
  | none
  | load
  | checkpointWrite (contents : Checkpoint) (before : CheckpointRegion)
  | saveWrite (contents : Image)
  deriving DecidableEq, Repr

/-- The Settings Memory Controller and the memory itself (R175). `loadWaits`: a restart has been taken and its load
waits for the writes before it (R177). -/
structure Memory where
  settingsRegion : SettingsRegion
  checkpointRegion : CheckpointRegion
  op : MemoryOp
  pendingCheckpoint : Option Checkpoint
  pendingSave : Option Image
  loadWaits : Bool
  deriving DecidableEq, Repr

/-! ### Part Clock, the MODEL's marks, and the whole -/

/-- The Part Clock (R172). -/
structure Clock where
  minute : Nat
  second : Nat
  deriving DecidableEq, Repr

/-- MODEL's own: what of an event already taken is still to be done (log 2). After a minute event: the hours part of the
advance test, the SETTLED timer's pass, the timeout, the hourly checkpoint; and a checkpoint request to be made at the
end of the event (R106). -/
structure Due where
  hours : Bool
  settle : Bool
  timeout : Bool
  hourCheckpoint : Bool
  checkpoint : Bool
  deriving DecidableEq, Repr

/-- The state of the part. -/
structure State where
  /-- the supply is on -/
  powered : Bool
  /-- READY (R171); the outputs are driven exactly while it is set (R133) -/
  ready : Bool
  straps : Straps
  clock : Clock
  settings : Settings
  scanner : Scanner
  probes : Vector ProbeRecord 48
  statistics : Statistics
  schedule : ScheduleStore
  run : Run
  sampler : Sampler
  zones : Zones ZoneLoops
  outputs : Zones ZoneOutputs
  fans : Fans
  interlocks : Inputs InputRecord
  history : History
  notices : List Notice
  link : Link
  memory : Memory
  /-- MODEL's own (log 2) -/
  due : Due
  /-- MODEL's own: how many free choices have been drawn (logs 4 and 6) -/
  draws : Nat
  /-- MODEL's own: the commands that wait, first in, first out -/
  pending : List Instr
  deriving DecidableEq, Repr

/-- The part has no fault that stops it, so there is no constructor: no command raises one. Safe. -/
inductive Fault
  deriving DecidableEq, Repr

/-- The reasons to refuse a command. -/
inductive Refusal
  /-- Raised by an arm of `exec` whose command has no meaning yet, and by no other; safe. No arm raises it. -/
  | notModelled (mnemonic : String)
  deriving DecidableEq, Repr

/-! ### Power-on values -/

/-- R22's table, power-on column. -/
def Scanner.powerOn : Scanner :=
  { state := .off, excitation := .off, polarity := .positive, measurement := none, scanNumber := 0, timer := 0,
    startDue := false }

/-- The cleared form of a probe record (R41). -/
def ProbeRecord.cleared : ProbeRecord :=
  { assignment := none, state := .unassigned, values := [], faultCount := 0, jumpCount := 0, faultKind := none,
    rangeMemory := 1, last := none }

/-- Before the first publication the kept flag counts as HELD (R58). -/
def Statistics.powerOn : Statistics := { latest := none, keptQuorum := .held }

/-- R65's table, first column. -/
def ScheduleStore.powerOn : ScheduleStore := { bufferA := [], bufferB := [], active := .a, adoption := none }

/-- The empty hold-reason set. -/
def HoldSet.empty : HoldSet :=
  { host := false, timeout := false, quorum := false, sensor := false, interlock := false, restored := false }

/-- The cleared form of the run record (R82). -/
def Run.cleared : Run :=
  { state := .idle, reasons := .empty, stepIndex := none, stepMinutes := 0, totalMinutes := 0, mcMet := false,
    timeoutTaken := false, settleTimer := 0, inBand := false, equalizeEntered := false, spread := none,
    completion := none, restored := false }

/-- The cleared form of a channel record (R108). -/
def Channel.cleared : Channel :=
  { last := none, published := none, state := .ok, badCount := 0, goodCount := 0, cause := none }

/-- All twelve channel records cleared (R108), no second event counted. -/
def Sampler.powerOn : Sampler :=
  { timer := 0, mark := .none, channels := .replicate { db := .cleared, wb := .cleared, wood := .cleared } }

/-- A loop at power-on: integrator and demand 0, the condition that of no run (R114). -/
def Loop.powerOn : Loop := { integrator := 0, demand := 0, condition := .noRun }

/-- A zone's loops at power-on (R114). -/
def ZoneLoops.powerOn : ZoneLoops :=
  { ramp := none, heat := .powerOn, humidity := .powerOn, sprayDemand := 0, ventDemand := 0 }

/-- A zone's outputs at power-on (R127, R132). -/
def ZoneOutputs.powerOn : ZoneOutputs :=
  { heat := { output := false, forcing := ⟨true, false, true, true⟩, demand := 0, cycle := none }
    spray := { output := false, forcing := ⟨true, false, true, false⟩, demand := 0, cycle := none }
    vent := { demand := 0, condition := .released, current := 0 } }

/-- The Fan Sequencer at power-on (R134). -/
def Fans.powerOn : Fans :=
  { state := .stopped, direction := .fwd, speed := .low, reversalInterval := 0, reversalTimer := 0, coastTimer := 0,
    confirmTimer := 0, confirmed := false, expectRunning := false, compareActive := false }

/-- The interlock records at power-on, with the live levels of the contacts (R143). -/
def interlocksPowerOn (contacts : Inputs Bool) : Inputs InputRecord :=
  contacts.map fun _ closed => { live := closed, latch := false, trippedAt := none }

/-- The History Ring at power-on (R155). -/
def History.powerOn : History := { frames := [], latest := none, slip := false, sequence := 0 }

/-- The Link Interface at power-on (R162, R163). -/
def Link.powerOn : Link := { receiver := .hunt, reply := none, driver := false, restart := false }

/-- Nothing is due. -/
def Due.none : Due :=
  { hours := false, settle := false, timeout := false, hourCheckpoint := false, checkpoint := false }

/-- The built-in curve of group 0 (R32). -/
def Curve.builtIn : Curve :=
  { coefficient := 30
    points := [⟨560, 300⟩, ⟨600, 250⟩, ⟨650, 200⟩, ⟨700, 170⟩, ⟨750, 150⟩, ⟨800, 130⟩, ⟨850, 115⟩, ⟨900, 100⟩,
      ⟨950, 88⟩, ⟨1000, 78⟩, ⟨1050, 70⟩, ⟨1100, 62⟩] }

/-- A zone's default settings (R123). -/
def ZoneSettings.default : ZoneSettings :=
  { active := true, woodFitted := false, heatKp := 20, heatKi := 30, humidityKp := 15, humidityKi := 20,
    heatMode := .auto, humidityMode := .auto, heatManual := 0, humidityManual := 0 }

/-- The default interlock settings (R143). -/
def interlockDefaults : Inputs InputSettings :=
  { door := ⟨true, true, 3⟩, fanRun := ⟨false, true, 2⟩, heatSupply := ⟨true, true, 1⟩, spraySupply := ⟨true, true, 1⟩,
    estop := ⟨true, true, 3⟩, overtemp := ⟨true, true, 3⟩, aux1 := ⟨true, false, 0⟩, aux2 := ⟨true, false, 0⟩ }

/-- Every setting at its default (R14, R32, R59, R91, R123, R141, R143). -/
def Settings.default : Settings :=
  { scanInterval := 5, scanEnable := true, polarityTolerance := 12
    curves := setTable (Vector.replicate 8 none) 0 (some .builtIn)
    w := 6, q := 4, jumpLimit := 40, quorumAction := .hold
    zones := .replicate .default, settleBand := 15
    startConfirmWindow := 20, coastTime := 90, heatPeriod := 30, sprayPeriod := 30, ventSafePosition := 0
    interlocks := interlockDefaults }

/-- The state right after power-on (R171): the load in flight, the part not READY. The straps, the contacts and the
contents of the external memory are the model's choice (log 6). -/
def State.reset : State :=
  { powered := true, ready := false
    straps := { address := 0, baud := 0, skipSettings := false }
    clock := { minute := 0, second := 0 }
    settings := .default
    scanner := .powerOn
    probes := Vector.replicate 48 .cleared
    statistics := .powerOn
    schedule := .powerOn
    run := .cleared
    sampler := .powerOn
    zones := .replicate .powerOn
    outputs := .replicate .powerOn
    fans := .powerOn
    interlocks := interlocksPowerOn
      { door := true, fanRun := false, heatSupply := true, spraySupply := true, estop := true, overtemp := true,
        aux1 := true, aux2 := true }
    history := .powerOn
    notices := []
    link := .powerOn
    memory :=
      { settingsRegion := .unmarked, checkpointRegion := .noHeader, op := .load, pendingCheckpoint := none,
        pendingSave := none, loadWaits := false }
    due := .none
    draws := 0
    pending := [] }

end Sys2Proof.Machine
end

