-- ==== Sys2Proof/Machine/Operands.lean ====
section
/-! DEFINITION. The byte forms of operands and reply items (R169), the roundings of 5.2, and the numbers of probes,
zones, groups and inputs as requests carry them. -/

namespace Sys2Proof.Machine

/-! ### Bytes to numbers -/

/-- A 1-byte field. -/
def byte1 (n : Nat) : List Byte := [BitVec.ofNat 8 n]

/-- An unsigned 2-byte field, little-endian (R169). -/
def byte2 (n : Nat) : List Byte := [BitVec.ofNat 8 n, BitVec.ofNat 8 (n / 256)]

/-- A 4-byte field, little-endian (R169). -/
def byte4 (n : Nat) : List Byte :=
  [BitVec.ofNat 8 n, BitVec.ofNat 8 (n / 256), BitVec.ofNat 8 (n / 65536), BitVec.ofNat 8 (n / 16777216)]

/-- A signed 2-byte field, two's complement, little-endian (R169). -/
def signed2 (x : Int) : List Byte := byte2 (x.emod 65536).toNat

/-- A flag: 1 set, 0 clear; where no rule gives its code, MODEL's choice (log 13). -/
def flag1 (b : Bool) : List Byte := byte1 (if b then 1 else 0)

/-- An optional 1-byte field; absent is 0xFF (R169). -/
def optByte1 : Option Nat → List Byte
  | some n => byte1 n
  | none => byte1 0xFF

/-- An optional unsigned 2-byte field; absent is 0xFFFF (R169). -/
def optByte2 : Option Nat → List Byte
  | some n => byte2 n
  | none => byte2 0xFFFF

/-- An optional 4-byte field; absent is 0xFFFFFFFF (R169). -/
def optByte4 : Option Nat → List Byte
  | some n => byte4 n
  | none => byte4 0xFFFFFFFF

/-- An optional signed 2-byte field; absent is 0x8000 (R169). -/
def optSigned2 : Option Int → List Byte
  | some x => signed2 x
  | none => byte2 0x8000

/-- The number of a little-endian byte pair. -/
def read2 (lo hi : Byte) : Nat := lo.toNat + 256 * hi.toNat

/-- The number of a little-endian signed byte pair (R169). -/
def readSigned2 (lo hi : Byte) : Int :=
  if read2 lo hi < 32768 then (read2 lo hi : Int) else (read2 lo hi : Int) - 65536

/-- Whether a number lies in a closed range. -/
def inRange (lo hi n : Nat) : Bool := lo ≤ n && n ≤ hi

/-- Whether a signed number lies in a closed range. -/
def inRangeInt (lo hi n : Int) : Bool := lo ≤ n && n ≤ hi

/-! ### Roundings (5.2) -/

/-- Clamp of x to [a, b]. -/
def clampInt (a b x : Int) : Int := if x < a then a else if b < x then b else x

/-- n / d rounded half up, for naturals. -/
def roundHalfUp (n d : Nat) : Nat := (2 * n + d) / (2 * d)

/-- n / d rounded half away from zero, for a positive d. -/
def roundHalfAway (n : Int) (d : Nat) : Int :=
  if 0 ≤ n then ((2 * n.toNat + d) / (2 * d) : Nat) else -(((2 * (-n).toNat + d) / (2 * d) : Nat) : Int)

/-- n / d truncated toward zero. -/
def truncDiv (n : Int) (d : Int) : Int := n.tdiv d

/-! ### Numbered things -/

/-- The probe a request names, 1 to 48. -/
def probeOfNumber (n : Nat) : Option (Fin 48) :=
  if h : 1 ≤ n ∧ n ≤ 48 then some ⟨n - 1, by omega⟩ else none

/-- The number of a probe, 1 to 48. -/
def probeNumber (p : Fin 48) : Nat := p.val + 1

/-- The zone a request names, 1 to 4. -/
def zoneOfNumber : Nat → Option ZoneId
  | 1 => some .z1
  | 2 => some .z2
  | 3 => some .z3
  | 4 => some .z4
  | _ => none

/-- The species group a request names, 0 to 7. -/
def groupOfNumber (n : Nat) : Option (Fin 8) :=
  if h : n < 8 then some ⟨n, h⟩ else none

/-- The input a request names, 1 to 8. -/
def inputOfNumber : Nat → Option Input
  | 1 => some .door
  | 2 => some .fanRun
  | 3 => some .heatSupply
  | 4 => some .spraySupply
  | 5 => some .estop
  | 6 => some .overtemp
  | 7 => some .aux1
  | 8 => some .aux2
  | _ => none

end Sys2Proof.Machine
end

