-- ==== Sys2Proof/Machine/Flags.lean ====
section
/-! DEFINITION. The sets and flags the blocks hold (hold reasons, forcing causes), and the codes of every enumeration a
notice or a reply carries (R159, R166, R169). -/

namespace Sys2Proof.Machine

/-! ### The hold-reason set (R82, R97) -/

/-- Whether a reason is in the set. -/
def HoldSet.has (x : HoldSet) : HoldReason → Bool
  | .host => x.host
  | .timeout => x.timeout
  | .quorum => x.quorum
  | .sensor => x.sensor
  | .interlock => x.interlock
  | .restored => x.restored

/-- The set with a reason's membership replaced. -/
def HoldSet.put (x : HoldSet) (r : HoldReason) (b : Bool) : HoldSet :=
  match r with
  | .host => { x with host := b }
  | .timeout => { x with timeout := b }
  | .quorum => { x with quorum := b }
  | .sensor => { x with sensor := b }
  | .interlock => { x with interlock := b }
  | .restored => { x with restored := b }

/-- The codes of the hold reasons (R82). -/
def HoldReason.code : HoldReason → Nat
  | .host => 1
  | .timeout => 2
  | .quorum => 3
  | .sensor => 4
  | .interlock => 5
  | .restored => 6

/-- The hold reasons in ascending code. -/
def HoldReason.all : List HoldReason := [.host, .timeout, .quorum, .sensor, .interlock, .restored]

/-- The members of the set in ascending code (R105). -/
def HoldSet.members (x : HoldSet) : List HoldReason := HoldReason.all.filter x.has

/-- The number of reasons in the set. -/
def HoldSet.count (x : HoldSet) : Nat := x.members.length

/-- No reason is in the set. -/
def HoldSet.isEmpty (x : HoldSet) : Bool :=
  !(x.host || x.timeout || x.quorum || x.sensor || x.interlock || x.restored)

/-! ### Forcing sets (R127, R128) -/

/-- Some cause is in the forcing set: the cycle state is FORCED. -/
def Forcing.any (f : Forcing) : Bool := f.released || f.safe || f.fans || f.dbFault

/-- The forcing set as a mask (R169): the causes in the order R127 lists them. -/
def Forcing.mask (f : Forcing) : Nat :=
  (if f.released then 1 else 0) + (if f.safe then 2 else 0) + (if f.fans then 4 else 0) + (if f.dbFault then 8 else 0)

/-! ### Codes -/

/-- R166. -/
def RunState.code : RunState → Nat
  | .idle => 0
  | .running => 1
  | .held => 2
  | .safe => 3
  | .complete => 4
  | .aborted => 5

/-- R159. -/
def NoticeKind.code : NoticeKind → Nat
  | .runStarted => 1
  | .stepEntered => 2
  | .stepTimedOut => 3
  | .runHeld => 4
  | .runResumed => 5
  | .runSafe => 6
  | .runComplete => 7
  | .runAborted => 8
  | .runRestored => 9
  | .adoptionApplied => 10
  | .quorumLost => 11
  | .quorumRegained => 12
  | .probeFaulted => 13
  | .interlockTripped => 14
  | .sensorFault => 15
  | .sensorRecovered => 16
  | .fanFailed => 17
  | .settingsDefaulted => 18
  | .checkpointLost => 19
  | .saveDone => 20
  | .saveFailed => 21

/-- R86, R170. -/
def StepKind.code : StepKind → Nat
  | .heatup => 0
  | .dry => 1
  | .equalize => 2
  | .condition => 3
  | .cool => 4

/-- The step kind of a code (R170). -/
def StepKind.ofCode : Nat → Option StepKind
  | 0 => some .heatup
  | 1 => some .dry
  | 2 => some .equalize
  | 3 => some .condition
  | 4 => some .cool
  | _ => none

/-- R170. -/
def StepTest.code : StepTest → Nat
  | .settled => 0
  | .cooled => 1
  | .mc => 2
  | .hours => 3
  | .mcOrHours => 4
  | .mcAndHours => 5

/-- The test of a code (R170). -/
def StepTest.ofCode : Nat → Option StepTest
  | 0 => some .settled
  | 1 => some .cooled
  | 2 => some .mc
  | 3 => some .hours
  | 4 => some .mcOrHours
  | 5 => some .mcAndHours
  | _ => none

/-- R64: an MC test. -/
def StepTest.isMc : StepTest → Bool
  | .mc | .mcOrHours | .mcAndHours => true
  | .settled | .cooled | .hours => false

/-- R64: an hours test. -/
def StepTest.isHours : StepTest → Bool
  | .hours | .mcOrHours | .mcAndHours => true
  | .settled | .cooled | .mc => false

/-- R170. -/
def Speed.code : Speed → Nat
  | .low => 0
  | .high => 1

/-- The speed of a code (R170). -/
def Speed.ofCode : Nat → Option Speed
  | 0 => some .low
  | 1 => some .high
  | _ => none

/-- R170. -/
def Statistic.code : Statistic → Nat
  | .controlling => 0
  | .driest => 1
  | .mean => 2

/-- The statistic of a code (R170). -/
def Statistic.ofCode : Nat → Option Statistic
  | 0 => some .controlling
  | 1 => some .driest
  | 2 => some .mean
  | _ => none

/-- R170. -/
def TimeoutAction.code : TimeoutAction → Nat
  | .advance => 0
  | .hold => 1

/-- The timeout action of a code (R170). -/
def TimeoutAction.ofCode : Nat → Option TimeoutAction
  | 0 => some .advance
  | 1 => some .hold
  | _ => none

/-- The probe entry table of R170. -/
def Health.code : Health → Nat
  | .unassigned => 0
  | .new => 1
  | .good => 2
  | .suspect => 3
  | .faulted => 4
  | .blocked => 5

/-- The probe entry table of R170; argument B of PROBE_FAULTED (R159). -/
def FaultKind.code : FaultKind → Nat
  | .short => 1
  | .polarized => 2
  | .unstable => 3
  | .erratic => 4

/-- The probe entry table of R170. -/
def ReadingKind.code : ReadingKind → Nat
  | .valid => 0
  | .dryLimit => 1
  | .short => 2
  | .polarized => 3
  | .unstable => 4
  | .noTemperature => 5

/-- The probe entry table of R170. -/
def Clamp.code : Clamp → Nat
  | .none => 0
  | .wetClamp => 1
  | .dryClamp => 2

/-- R42. -/
def Role.code : Role → Nat
  | .control => 0
  | .watch => 1

/-- R56's flag, numbered in the order it lists (R169, log 13). -/
def Quorum.code : Quorum → Nat
  | .held => 0
  | .lost => 1

/-- R60. -/
def QuorumAction.code : QuorumAction → Nat
  | .hold => 0
  | .continue => 1

/-- R168. -/
def ScannerState.code : ScannerState → Nat
  | .off => 0
  | .waiting => 1
  | .scanning => 2

/-- R2's levels, numbered in the order it lists (R169). -/
def Excitation.code : Excitation → Nat
  | .off => 0
  | .low => 1
  | .high => 2

/-- R168. -/
def FanState.code : FanState → Nat
  | .stopped => 0
  | .starting => 1
  | .runningFwd => 2
  | .runningRev => 3
  | .coasting => 4
  | .failed => 5

/-- R140. -/
def Direction.code : Direction → Nat
  | .fwd => 0
  | .rev => 1

/-- R110. -/
def BadCause.code : BadCause → Nat
  | .outOfRange => 1
  | .readsOpen => 2
  | .readsShorted => 3

/-- R108's states, numbered in the order it lists (R169). -/
def ChannelState.code : ChannelState → Nat
  | .ok => 0
  | .fault => 1

/-- R121. -/
def LoopMode.code : LoopMode → Nat
  | .auto => 0
  | .manual => 1

/-- R117's conditions, numbered in the order of its table (R169, log 13). -/
def LoopCondition.code : LoopCondition → Nat
  | .inactive => 0
  | .noRun => 1
  | .safeHold => 2
  | .cool => 3
  | .manual => 4
  | .fanHold => 5
  | .sensorHold => 6
  | .evaluated => 7

/-- R132's conditions, numbered in the order it lists (R169). -/
def VentCondition.code : VentCondition → Nat
  | .released => 0
  | .safe => 1
  | .following => 2

/-- R66's summary: buffer A or B, numbered in the order R65 lists them (R169). -/
def Buffer.code : Buffer → Nat
  | .a => 0
  | .b => 1

/-- R168: the operation in flight. -/
def MemoryOp.code : MemoryOp → Nat
  | .none => 0
  | .load => 1
  | .checkpointWrite _ _ => 2
  | .saveWrite _ => 3

end Sys2Proof.Machine
end

