-- ==== Sys2Proof/Machine/Moisture.lean ====
section
/-! DEFINITION. The Moisture Arithmetic (chapter 2): from a raw result to a reading. -/

namespace Sys2Proof.Machine

/-- How a measurement ends (R4, R6). -/
inductive Outcome
  | pair | short | dryLimit | unstable | polarized
  deriving DecidableEq, Repr

/-- A raw result (R7). -/
structure RawResult where
  probe : Fin 48
  scanNumber : Nat
  outcome : Outcome
  range : Fin 4
  nPlus : Nat
  nMinus : Option Nat
  minute : Nat
  deriving DecidableEq, Repr

/-- The unit resistance of a range in ohms (1.1): 10, 320, 10240, 327680. -/
def unitResistance (r : Fin 4) : Nat := 10 * 32 ^ r.val

/-- One bit of the search for `logResistance`: the bit is kept when the log-resistance it gives is not too high. -/
def logStep (ohms acc bit : Nat) : Nat :=
  if 10 ^ (2 * (acc + bit) - 1) ≤ ohms ^ 200 then acc + bit else acc

/-- R26: 100 × log10 of a resistance in ohms, rounded half up, exactly. L is the largest integer not above
100 × log10(R) + 1/2, which is the largest L with 10^(2L − 1) ≤ R^200. -/
def logResistance (ohms : Nat) : Nat :=
  [1024, 512, 256, 128, 64, 32, 16, 8, 4, 2, 1].foldl (logStep ohms) 0

/-- R26: the log-resistance of one count at a range. -/
def logOfCount (r : Fin 4) (n : Nat) : Nat := logResistance (n * unitResistance r)

/-- R27: the difference of the two polarities. -/
def polarityGap (lPlus lMinus : Nat) : Nat := (lPlus - lMinus) + (lMinus - lPlus)

/-- R28: a channel's published value when the channel is usable. -/
def Channel.usable (c : Channel) : Option Int :=
  match c.state with
  | .ok => c.published
  | .fault => none

/-- R28: the wood temperature of a zone. -/
def woodTemperature (woodFitted : Bool) (c : ZoneChannels) : Option Int :=
  match (if woodFitted then c.wood.usable else none) with
  | some t => some t
  | none => c.db.usable

/-- R30: the temperature correction. -/
def correction (k : Nat) (tw : Int) : Int := roundHalfAway ((k : Int) * (tw - 200)) 100

/-- R37: the MC on the segment from p to q. -/
def segmentMc (p q : CurvePoint) (lc : Int) : Nat :=
  ((p.mc : Int) + roundHalfAway ((lc - p.lc) * ((q.mc : Int) - p.mc)) (q.lc - p.lc)).toNat

/-- R37: the MC of a corrected log-resistance within the curve, on the lowest segment that holds it. -/
def interpolate (lc : Int) : List CurvePoint → Nat
  | [] => 0
  | [p] => p.mc
  | p :: q :: rest =>
    if (p.lc : Int) ≤ lc ∧ lc ≤ q.lc then segmentMc p q lc else interpolate lc (q :: rest)

/-- R37, R38: the MC and clamp flag of a corrected log-resistance on a curve whose first point is p. -/
def curveMc (p : CurvePoint) (rest : List CurvePoint) (lc : Int) : Nat × Clamp :=
  let last := (p :: rest).getLast (by simp)
  if lc < p.lc then (p.mc, .wetClamp)
  else if (last.lc : Int) < lc then (last.mc, .dryClamp)
  else (interpolate lc (p :: rest), .none)

/-- A reading that carries no figure (R24). -/
def bareReading (kind : ReadingKind) (minute : Nat) : Reading :=
  { kind, l := none, lc := none, mc := none, clamp := .none, minute }

/-- R29: a NO_TEMPERATURE reading. -/
def noTemperatureReading (l : Option Nat) (minute : Nat) : Reading :=
  { kind := .noTemperature, l, lc := none, mc := none, clamp := .none, minute }

/-- R30, R37, R38: a VALID reading of a pair whose averaged log-resistance is l. A group with no curve, which no
conversion finds (R23), gives NO_TEMPERATURE (log 14). -/
def validReading (curve : Option Curve) (tw : Int) (l minute : Nat) : Reading :=
  match curve with
  | none => noTemperatureReading (some l) minute
  | some c =>
    match c.points with
    | [] => noTemperatureReading (some l) minute
    | p :: rest =>
      let lc := (l : Int) + correction c.coefficient tw
      let (mc, clamp) := curveMc p rest lc
      { kind := .valid, l := some l, lc := some lc, mc := some mc, clamp, minute }

/-- R39: a DRY_LIMIT reading takes the curve's last MC. A group with no curve gives NO_TEMPERATURE (log 14). -/
def dryLimitReading (curve : Option Curve) (minute : Nat) : Reading :=
  match curve.bind (fun c => c.points.getLast?) with
  | some p => { kind := .dryLimit, l := none, lc := none, mc := some p.mc, clamp := .none, minute }
  | none => noTemperatureReading none minute

/-- R23, R26 to R30: the stages for a PAIR, in order. -/
def pairReading (curve : Option Curve) (tolerance : Nat) (tw : Option Int) (r : Fin 4) (nPlus nMinus minute : Nat) :
    Reading :=
  let lPlus := logOfCount r nPlus
  let lMinus := logOfCount r nMinus
  if tolerance < polarityGap lPlus lMinus then bareReading .polarized minute
  else
    let l := roundHalfUp (lPlus + lMinus) 2
    match tw with
    | none => noTemperatureReading (some l) minute
    | some t => validReading curve t l minute

/-- R23: the reading of a raw result, from the curve of the probe's group, the polarity tolerance and the wood
temperature of the probe's zone as they stand. -/
def convert (curve : Option Curve) (tolerance : Nat) (tw : Option Int) (raw : RawResult) : Reading :=
  match raw.outcome with
  | .pair => pairReading curve tolerance tw raw.range raw.nPlus (raw.nMinus.getD 0) raw.minute
  | .dryLimit => dryLimitReading curve raw.minute
  | .short => bareReading .short raw.minute
  | .unstable => bareReading .unstable raw.minute
  | .polarized => bareReading .polarized raw.minute

end Sys2Proof.Machine
end

