-- ==== Sys2Proof/Machine/Ops.lean ====
section
/-! DEFINITION. The shared operations every block uses: queueing a notice, requests to the Settings Memory Controller,
free choices, and reading and replacing what one zone, probe or input holds. -/

namespace Sys2Proof.Machine

/-! ### Notices (R159) -/

/-- R159: a list that lost its oldest entry has the entry that is now oldest marked. -/
def markLost : List Notice → List Notice
  | [] => []
  | n :: rest => { n with lostBefore := true } :: rest

/-- R159: a notice placed after the newest; a 33rd pushes the oldest out. -/
def pushNotice (queue : List Notice) (n : Notice) : List Notice :=
  if queue.length < 32 then queue ++ [n] else markLost ((queue ++ [n]).drop 1)

/-- R159: a block queues a notice, stamped with the uptime minute. -/
def State.queueNotice (s : State) (kind : NoticeKind) (a b : Nat) : State :=
  { s with notices := pushNotice s.notices { kind, minute := s.clock.minute, argA := a, argB := b, lostBefore := false } }

/-! ### Free choices (log 4) -/

/-- The orders in which the two readers of a FAN_RUN latch take its signal (R147), and for one that brings SAFE the order
in which the Fan Sequencer then takes the latch and SAFE (R140). -/
inductive LatchOrder
  | fansFirst | runThenLatch | runThenSafe
  deriving DecidableEq, Repr

/-- R147, R140: the order of the next FAN_RUN latch signal. -/
def State.latchOrder (s : State) : LatchOrder :=
  if Config.fanSequencerFirst s.draws then .fansFirst
  else if Config.fanLatchBeforeSafe s.draws then .runThenLatch else .runThenSafe

/-- A choice has been drawn. -/
def State.drawn (s : State) : State := { s with draws := s.draws + 1 }

/-- A list of actions put in an order nothing fixes: each next one is picked by the free constant. A single action needs
no pick. -/
def arrange {α : Type} (pick : Nat → Nat) : Nat → List α → List α
  | 0, xs => xs
  | _, [] => []
  | _, [x] => [x]
  | n + 1, x :: y :: rest =>
    let xs := x :: y :: rest
    let k := pick xs.length % xs.length
    match xs[k]? with
    | some a => a :: arrange pick n (xs.eraseIdx k)
    | none => xs

/-! ### Parts of the state -/

/-- The record of a probe. -/
def State.probe (s : State) (p : Fin 48) : ProbeRecord := getTable s.probes p

/-- A probe's record replaced. -/
def State.setProbe (s : State) (p : Fin 48) (r : ProbeRecord) : State := { s with probes := setTable s.probes p r }

/-- What a zone's loops hold. -/
def State.zone (s : State) (z : ZoneId) : ZoneLoops := s.zones.get z

/-- A zone's loops replaced. -/
def State.setZone (s : State) (z : ZoneId) (x : ZoneLoops) : State := { s with zones := s.zones.set z x }

/-- A zone's settings. -/
def State.zoneSettings (s : State) (z : ZoneId) : ZoneSettings := s.settings.zones.get z

/-- A zone is active (R123). -/
def State.zoneActive (s : State) (z : ZoneId) : Bool := (s.zoneSettings z).active

/-- The active zones in ascending number. -/
def State.activeZones (s : State) : List ZoneId := ZoneId.all.filter s.zoneActive

/-- A zone's channel records. -/
def State.channels (s : State) (z : ZoneId) : ZoneChannels := s.sampler.channels.get z

/-- An interlock input's record. -/
def State.input (s : State) (i : Input) : InputRecord := s.interlocks.get i

/-- An interlock input's record replaced. -/
def State.setInput (s : State) (i : Input) (r : InputRecord) : State := { s with interlocks := s.interlocks.set i r }

/-- An interlock input's level (R143). -/
def State.inputLevel (s : State) (i : Input) : Nat := (s.settings.interlocks.get i).level

/-- The species curve of a group (R31). -/
def State.curve (s : State) (g : Fin 8) : Option Curve := getTable s.settings.curves g

/-- A run that is RUNNING, HELD or SAFE (R82). -/
def RunState.inProgress : RunState → Bool
  | .running | .held | .safe => true
  | .idle | .complete | .aborted => false

/-- A run that is RUNNING or HELD. -/
def RunState.going : RunState → Bool
  | .running | .held => true
  | .idle | .safe | .complete | .aborted => false

/-- R134: RUNNING_FWD and RUNNING_REV count as the fans running. -/
def FanState.isRunning : FanState → Bool
  | .runningFwd | .runningRev => true
  | .stopped | .starting | .coasting | .failed => false

/-- R134: the RUN output. -/
def FanState.runOutput : FanState → Bool
  | .starting | .runningFwd | .runningRev => true
  | .stopped | .coasting | .failed => false

/-- The ACTIVE schedule (R65). -/
def ScheduleStore.activeSteps (x : ScheduleStore) : List StepRecord :=
  match x.active with
  | .a => x.bufferA
  | .b => x.bufferB

/-- The EDIT buffer's steps (R65). -/
def ScheduleStore.editSteps (x : ScheduleStore) : List StepRecord :=
  match x.active with
  | .a => x.bufferB
  | .b => x.bufferA

/-- The step in force. -/
def State.currentStep (s : State) : Option StepRecord :=
  s.run.stepIndex.bind fun i => s.schedule.activeSteps[i]?

/-! ### The Settings Memory Controller (R175) -/

/-- 11.1: what a checkpoint requested now holds: RUN for a run that is RUNNING, HELD or SAFE, the header alone
otherwise. -/
def State.checkpointNow (s : State) : Checkpoint :=
  match s.run.state.inProgress, s.run.stepIndex with
  | true, some i =>
    .run
      { schedule := s.schedule.activeSteps, stepIndex := i, stepMinutes := s.run.stepMinutes,
        totalMinutes := s.run.totalMinutes, mcMet := s.run.mcMet, timeoutTaken := s.run.timeoutTaken,
        equalizeEntered := s.run.equalizeEntered, spread := s.run.spread,
        origins := s.zones.map fun _ z => z.ramp.map (·.origin) }
  | _, _ => .noRun

/-- What a finished checkpoint write leaves in the region (R175). -/
def Checkpoint.region : Checkpoint → CheckpointRegion
  | .noRun => .noRun
  | .run b => .run b

/-- R175: a checkpoint write starts by setting the header condition to WRITING. -/
def Memory.startCheckpoint (m : Memory) (c : Checkpoint) : Memory :=
  { m with op := .checkpointWrite c m.checkpointRegion, checkpointRegion := .writing }

/-- R175: a checkpoint request starts a write when nothing is in flight, and otherwise takes the pending slot. -/
def Memory.requestCheckpoint (m : Memory) (c : Checkpoint) : Memory :=
  match m.op with
  | .none => m.startCheckpoint c
  | .load | .checkpointWrite _ _ | .saveWrite _ => { m with pendingCheckpoint := some c }

/-- R175: a save starts a write when nothing is in flight, and otherwise takes the pending slot. -/
def Memory.requestSave (m : Memory) (i : Image) : Memory :=
  match m.op with
  | .none => { m with op := .saveWrite i }
  | .load | .checkpointWrite _ _ | .saveWrite _ => { m with pendingSave := some i }

/-- R175, R177: the end of the operation in flight starts the pending checkpoint, then the load that a restart waits
for, then the pending save. -/
def Memory.startNext (m : Memory) : Memory :=
  match m.pendingCheckpoint with
  | some c => ({ m with pendingCheckpoint := none }).startCheckpoint c
  | none =>
    if m.loadWaits then { m with op := .load, loadWaits := false }
    else
      match m.pendingSave with
      | some i => { m with op := .saveWrite i, pendingSave := none }
      | none => { m with op := .none }

/-- R106: a checkpoint is asked for; the one request of the event is made at its end (`finishEvent`). -/
def State.wantCheckpoint (s : State) : State := { s with due := { s.due with checkpoint := true } }

/-- Run judgements of a minute event that are still to be taken (log 2). -/
def Due.minuteWork (d : Due) : Bool := d.hours || d.settle || d.timeout || d.hourCheckpoint

/-- R106: at the end of the event the checkpoint it asked for is requested, once, with the run record as it then
stands. A minute event ends when its run judgements have been taken (log 2). -/
def State.finishEvent (s : State) : State :=
  if s.due.checkpoint && !s.due.minuteWork then
    { s with memory := s.memory.requestCheckpoint s.checkpointNow, due := { s.due with checkpoint := false } }
  else s

end Sys2Proof.Machine
end

