-- ==== Sys2Proof/Machine/Outputs.lean ====
section
/-! DEFINITION. The Output Driver (7.1, 7.2): valve cycles, forcing, vent currents, and the handing over of demands. -/

namespace Sys2Proof.Machine

/-! ### Valves -/

/-- R129: the on-time a cycle of period p seconds latches for demand d, in tenths of a second. -/
def latchedOnTime (p d : Nat) : Nat :=
  let on := p * d / 100
  if on < 10 then 0 else if 10 * p - 10 < on then 10 * p else on

/-- R129: a cycle starts with the period setting of the valve's kind and the demand as it stands. -/
def Valve.startCycle (v : Valve) (period : Nat) : Valve :=
  let on := latchedOnTime period v.demand
  { v with output := decide (0 < on), cycle := some { period, elapsed := 0, onTime := on } }

/-- R130: forcing begins: the output goes OFF and the cycle is abandoned. -/
def Valve.beginForcing (v : Valve) : Valve := { v with output := false, cycle := none }

/-- R128, R130: the forcing set recomputed. A first cause begins forcing, the leaving of the last ends it and starts a
cycle, and any other change only changes the set. -/
def Valve.refresh (v : Valve) (period : Nat) (f : Forcing) : Valve :=
  match v.forcing.any, f.any with
  | false, true => { v with forcing := f }.beginForcing
  | true, false => { v with forcing := f }.startCycle period
  | _, _ => { v with forcing := f }

/-- R129: the elapsed time reaches the latched on-time of a cycle whose output is ON for a part of it. -/
def Valve.reachOnTime (v : Valve) : Valve :=
  match v.cycle with
  | some c =>
    if v.output && decide (c.onTime < 10 * c.period) then
      { v with output := false, cycle := some { c with elapsed := c.onTime } }
    else v
  | none => v

/-- R129: the elapsed time reaches the period, and the next cycle starts at once. -/
def Valve.reachPeriod (v : Valve) (period : Nat) : Valve :=
  match v.cycle with
  | some _ => v.startCycle period
  | none => v

/-- R129: a tenth of a second passes. The tenth that reaches the on-time or the period is the command of its own row,
so the elapsed time counts up to the tenth before it (log 3). -/
def Valve.tick (v : Valve) : Valve :=
  match v.cycle with
  | some c =>
    let bound := if c.elapsed < c.onTime then c.onTime else 10 * c.period
    if c.elapsed + 1 < bound then { v with cycle := some { c with elapsed := c.elapsed + 1 } } else v
  | none => v

/-- The period setting of a valve's kind (R141). -/
def Settings.period (x : Settings) : ValveKind → Nat
  | .heat => x.heatPeriod
  | .spray => x.sprayPeriod

/-- A zone's valve of a kind. -/
def ZoneOutputs.valve (o : ZoneOutputs) : ValveKind → Valve
  | .heat => o.heat
  | .spray => o.spray

/-- A zone's valve of a kind replaced. -/
def ZoneOutputs.setValve (o : ZoneOutputs) (k : ValveKind) (v : Valve) : ZoneOutputs :=
  match k with
  | .heat => { o with heat := v }
  | .spray => { o with spray := v }

/-! ### Forcing and vents -/

/-- R133: the zone's outputs are released: the part's are, or the zone is inactive. -/
def State.outputsReleased (s : State) (z : ZoneId) : Bool := !s.ready || !s.zoneActive z

/-- R128: the causes present for a valve. -/
def State.forcingFor (s : State) (z : ZoneId) (k : ValveKind) : Forcing :=
  { released := s.outputsReleased z
    safe := decide (s.run.state = .safe)
    fans := !s.fans.state.isRunning
    dbFault := decide (k = .heat) && (s.channels z).db.usable.isNone }

/-- R132: the condition of a vent. -/
def State.ventConditionFor (s : State) (z : ZoneId) : VentCondition :=
  if s.outputsReleased z then .released else if s.run.state = .safe then .safe else .following

/-- R132: the current for a demand or a safe position, in µA. -/
def ventCurrent (d : Nat) : Nat := 4000 + 16000 * d / 1000

/-- R132: the commanded current of a vent. -/
def commandedCurrent (condition : VentCondition) (demand safePosition : Nat) : Nat :=
  match condition with
  | .released => 0
  | .safe => ventCurrent safePosition
  | .following => ventCurrent demand

/-- R132: a vent's condition and current recomputed. -/
def Vent.refresh (v : Vent) (condition : VentCondition) (safePosition : Nat) : Vent :=
  { v with condition, current := commandedCurrent condition v.demand safePosition }

/-- R128, R132: one zone's forcing sets, vent condition and current recomputed from their sources. -/
def State.refreshedZone (s : State) (z : ZoneId) (o : ZoneOutputs) : ZoneOutputs :=
  { heat := o.heat.refresh s.settings.heatPeriod (s.forcingFor z .heat)
    spray := o.spray.refresh s.settings.sprayPeriod (s.forcingFor z .spray)
    vent := o.vent.refresh (s.ventConditionFor z) s.settings.ventSafePosition }

/-- R128, R132: a source of the forcing sets or of the vents has changed. -/
def State.refreshOutputs (s : State) : State := { s with outputs := s.outputs.map s.refreshedZone }

/-- The demands a zone hands over (R117, R122), stored in its valve and vent records; the vent follows at once. -/
def handedOver (loops : ZoneLoops) (safePosition : Nat) (o : ZoneOutputs) : ZoneOutputs :=
  { heat := { o.heat with demand := loops.heat.demand.toNat }
    spray := { o.spray with demand := loops.sprayDemand }
    vent := ({ o.vent with demand := loops.ventDemand }).refresh o.vent.condition safePosition }

/-- A zone hands its demands over to the Output Driver. -/
def State.handDemands (s : State) (z : ZoneId) : State :=
  { s with outputs := s.outputs.set z (handedOver (s.zone z) s.settings.ventSafePosition (s.outputs.get z)) }

/-- Every zone hands its demands over. -/
def State.handAllDemands (s : State) : State :=
  { s with outputs := s.outputs.map fun z o => handedOver (s.zone z) s.settings.ventSafePosition o }

/-- R131: a valve of a zone under its block reset: a CYCLING valve starts a new cycle. -/
def Valve.restartCycle (v : Valve) (period : Nat) : Valve :=
  match v.cycle with
  | some _ => v.startCycle period
  | none => v

/-- R131: both valve cycles of a zone restarted, after its demands of 0 have been handed over. -/
def State.restartCycles (s : State) (z : ZoneId) : State :=
  let o := s.outputs.get z
  { s with
    outputs := s.outputs.set z
      { o with
        heat := o.heat.restartCycle s.settings.heatPeriod
        spray := o.spray.restartCycle s.settings.sprayPeriod } }

/-- One valve's record changed. -/
def State.mapValve (s : State) (z : ZoneId) (k : ValveKind) (f : Valve → Valve) : State :=
  let o := s.outputs.get z
  { s with outputs := s.outputs.set z (o.setValve k (f (o.valve k))) }

/-- A tenth of a second passes for every valve (log 3). -/
def State.tickValves (s : State) : State :=
  { s with outputs := s.outputs.map fun _ o => { o with heat := o.heat.tick, spray := o.spray.tick } }

end Sys2Proof.Machine
end

