-- ==== Sys2Proof/Machine/Fans.lean ====
section
/-! DEFINITION. The Fan Sequencer (7.3): its states and what enters them. The expiry of the start-confirm window, which
may trip FAN_RUN, is in Machine/Interlocks.lean. -/

namespace Sys2Proof.Machine

/-- FAN_RUN conforms: its live level equals the expectation (R143). -/
def State.fanRunConforms (s : State) : Bool := (s.input .fanRun).live == s.fans.expectRunning

/-- FAN_RUN is judged: its comparison is ACTIVE and its level 1 or above (R143). -/
def State.fanRunJudged (s : State) : Bool := s.fans.compareActive && decide (1 ≤ s.inputLevel .fanRun)

/-- R134: the running state of a direction. -/
def Direction.runningState : Direction → FanState
  | .fwd => .runningFwd
  | .rev => .runningRev

/-- R139: the other direction. -/
def Direction.flip : Direction → Direction
  | .fwd => .rev
  | .rev => .fwd

/-- R135: STOPPED, entered from any state. -/
def State.fansEnterStopped (s : State) : State :=
  { s with
    fans :=
      { s.fans with
        state := .stopped, expectRunning := false, compareActive := false, coastTimer := 0, confirmTimer := 0 }
  }.refreshOutputs

/-- R139: COASTING. -/
def State.fansEnterCoasting (s : State) : State :=
  { s with
    fans := { s.fans with state := .coasting, compareActive := false, reversalTimer := 0, coastTimer := 0 }
  }.refreshOutputs

/-- R138: the reversal is due. -/
def State.reversalIsDue (s : State) : Bool :=
  s.fans.state.isRunning && s.fans.reversalInterval != 0 && decide (s.fans.reversalInterval ≤ s.fans.reversalTimer)

/-- R138: a reversal that is due begins. -/
def State.checkReversal (s : State) : State := if s.reversalIsDue then s.fansEnterCoasting else s

/-- R136, R137: RUNNING_FWD or RUNNING_REV to match the direction, the comparison resumed, and the reversal checked at
the entry (R138). -/
def State.fansEnterRunning (s : State) : State :=
  { s with
    fans :=
      { s.fans with state := s.fans.direction.runningState, expectRunning := true, compareActive := true }
  }.refreshOutputs.checkReversal

/-- R136: FAN_RUN reads running while STARTING. -/
def State.confirmStart (s : State) : State := { s with fans := { s.fans with confirmed := true } }.fansEnterRunning

/-- R136: STARTING; an input that already reads running confirms at once. -/
def State.fansEnterStarting (s : State) : State :=
  let s' :=
    { s with
      fans := { s.fans with state := .starting, compareActive := false, confirmTimer := 0, confirmed := false }
    }.refreshOutputs
  if (s'.input .fanRun).live then s'.confirmStart else s'

/-- R140: the code of the state left, carried by FAN_FAILED. -/
def FanState.leftCode : FanState → Nat
  | .starting => 1
  | .runningFwd => 2
  | .runningRev => 3
  | .stopped | .coasting | .failed => 0

/-- R140: FAILED. The new expectation may make the latched input trip again (R145), which only queues its notice
(R146); that notice stands before FAN_FAILED (log 9). -/
def State.fansEnterFailed (s : State) : State :=
  let s' :=
    { s with
      fans :=
        { s.fans with state := .failed, expectRunning := false, compareActive := true, confirmTimer := 0, coastTimer := 0 } }
  let s'' :=
    if s'.fanRunJudged && !s'.fanRunConforms && (s.fanRunConforms || !s.fanRunJudged) then
      s'.queueNotice .interlockTripped Input.fanRun.number (s.inputLevel .fanRun)
    else s'
  (s''.queueNotice .fanFailed s.fans.direction.code s.fans.state.leftCode).refreshOutputs

/-- R135: the sequencer leaves STOPPED. -/
def State.fansStart (s : State) : State :=
  let s' := { s with fans := { s.fans with reversalTimer := 0, direction := .fwd } }
  if (s.input .fanRun).latch then s'.fansEnterFailed else s'.fansEnterStarting

/-- R135: the sequencer follows the run state. -/
def State.fansFollowRun (s : State) : State :=
  if s.run.state.going then
    if s.ready && decide (s.fans.state = .stopped) then s.fansStart else s
  else s.fansEnterStopped

/-- R140: the FAN_RUN latch has been set. -/
def State.fansOnLatchSet (s : State) : State :=
  match s.fans.state with
  | .starting | .runningFwd | .runningRev => s.fansEnterFailed
  | .stopped | .coasting | .failed => s

/-- R140: the FAN_RUN latch has been cleared. -/
def State.fansOnLatchClear (s : State) : State :=
  match s.fans.state with
  | .failed => if s.run.state.going then s.fansEnterStarting else s.fansEnterStopped
  | .stopped | .starting | .runningFwd | .runningRev | .coasting => s

/-- R136, R137, R144: the FAN_RUN live level has changed. -/
def State.fansOnInput (s : State) : State :=
  if (s.input .fanRun).live then
    match s.fans.state with
    | .starting => s.confirmStart
    | .runningFwd | .runningRev => { s with fans := { s.fans with confirmed := true } }
    | .stopped | .coasting | .failed => s
  else s

/-- R134, R138: a step's reversal interval and fan speed are handed over. -/
def State.handFans (s : State) (step : StepRecord) : State :=
  { s with fans := { s.fans with reversalInterval := step.reversalInterval, speed := step.speed } }.checkReversal

/-- R139: the coast has ended. -/
def State.coastIsOver (s : State) : Bool :=
  decide (s.fans.state = .coasting) && decide (s.settings.coastTime ≤ s.fans.coastTimer)

/-- R139: the coast end: the direction flips with RUN off, and the sequencer enters STARTING. -/
def State.endCoast (s : State) : State :=
  { s with fans := { s.fans with coastTimer := 0, direction := s.fans.direction.flip } }.fansEnterStarting

/-- R138: the reversal timer at a minute event. -/
def Fans.countMinute (f : Fans) : Fans :=
  if f.state.isRunning && decide (f.reversalTimer < 480) then { f with reversalTimer := f.reversalTimer + 1 } else f

/-- R137, R139: the coast and start-confirm timers at a second event. -/
def Fans.countSecond (f : Fans) : Fans :=
  match f.state with
  | .coasting => { f with coastTimer := f.coastTimer + 1 }
  | .starting => { f with confirmTimer := f.confirmTimer + 1 }
  | .stopped | .runningFwd | .runningRev | .failed => f

end Sys2Proof.Machine
end

