-- ==== Sys2Proof/Machine/Zones.lean ====
section
/-! DEFINITION. The Temperature Sampler and the Zone Loops (chapter 6): channel records, setpoints, the two PI loops,
and what a zone takes from the Run Controller. -/

namespace Sys2Proof.Machine

/-! ### Channels (6.1) -/

/-- R109: the cause of a bad sample; none for a good one. -/
def sampleCause : Sample → Option BadCause
  | .readsOpen => some .readsOpen
  | .readsShorted => some .readsShorted
  | .value t => if inRangeInt (-400) 1500 t then none else some .outOfRange

/-- The temperature of a good sample. -/
def sampleTenths : Sample → Int
  | .value t => t
  | .readsOpen | .readsShorted => 0

/-- What a sample brings that is noticed (R110, R111). -/
inductive ChannelNews
  | quiet
  | fault (cause : BadCause)
  | recovered
  deriving DecidableEq, Repr

/-- R110, R111: a channel takes a sample. -/
def Channel.take (c : Channel) (x : Sample) : Channel × ChannelNews :=
  match c.state, sampleCause x with
  | .ok, none => ({ c with last := some (sampleTenths x), published := some (sampleTenths x), badCount := 0 }, .quiet)
  | .ok, some cause =>
    if c.badCount + 1 < 3 then ({ c with badCount := c.badCount + 1, cause := some cause }, .quiet)
    else ({ c with badCount := 3, goodCount := 0, state := .fault, cause := some cause }, .fault cause)
  | .fault, none =>
    if c.goodCount + 1 < 3 then ({ c with last := some (sampleTenths x), goodCount := c.goodCount + 1 }, .quiet)
    else
      ({ c with last := some (sampleTenths x), published := some (sampleTenths x), state := .ok, badCount := 0, goodCount := 0 },
        .recovered)
  | .fault, some cause => ({ c with goodCount := 0, cause := some cause }, .quiet)

/-- The notice a channel's sample queues (R110, R111). -/
def State.noticeChannel (s : State) (channel : Nat) : ChannelNews → State
  | .quiet => s
  | .fault cause => s.queueNotice .sensorFault channel cause.code
  | .recovered => s.queueNotice .sensorRecovered channel 0

/-- R108: the number of a zone's DB channel; WB and WOOD follow it. -/
def dbChannel (z : ZoneId) : Nat := 3 * z.number - 2

/-- R109: the samples of one zone are taken; a WOOD channel that is not fitted is not sampled (R112). -/
def State.sampleZone (s : State) (samples : Zones ZoneSamples) (z : ZoneId) : State :=
  let c := s.channels z
  let x := samples.get z
  let db := c.db.take x.db
  let wb := c.wb.take x.wb
  let wood := if (s.zoneSettings z).woodFitted then c.wood.take x.wood else (c.wood, .quiet)
  let channels := s.sampler.channels.set z { db := db.1, wb := wb.1, wood := wood.1 }
  ((({ s with sampler := { s.sampler with channels } }.noticeChannel (dbChannel z) db.2).noticeChannel
    (dbChannel z + 1) wb.2).noticeChannel (dbChannel z + 2) wood.2)

/-- R109: every channel takes its sample, in ascending channel number (log 13). -/
def State.sampleChannels (s : State) (samples : Zones ZoneSamples) : State :=
  ZoneId.all.foldl (fun t z => t.sampleZone samples z) s

/-- R113: the zone's published WB: clamped to the DB when the DB is usable. -/
def ZoneChannels.publishedWb (c : ZoneChannels) : Option Int :=
  match c.wb.published, c.db.usable with
  | some wb, some db => some (min wb db)
  | some wb, none => some wb
  | none, _ => none

/-- The published WB of a zone whose WB channel has not failed (R117, R91). -/
def ZoneChannels.usableWb (c : ZoneChannels) : Option Int :=
  match c.wb.usable with
  | some _ => c.publishedWb
  | none => none

/-! ### Setpoints (6.3) -/

/-- R115: the working setpoint after m step running minutes. -/
def Ramp.setpointAt (r : Ramp) (m : Nat) : Int :=
  let t : Int := r.dbTarget
  if r.rampRate = 0 then t
  else r.origin + Int.sign (t - r.origin) * min (Int.natAbs (t - r.origin) : Int) ((r.rampRate * m / 60 : Nat) : Int)

/-- R114: the wet-bulb setpoint. -/
def Ramp.wetSetpoint (r : Ramp) : Int := r.setpoint - r.depression

/-- R116: the clamp of a setpoint into the span between an origin and a target. -/
def clampToSpan (origin target x : Int) : Int := clampInt (min origin target) (max origin target) x

/-- A zone put on a step's targets at an origin; SP is set to the origin (R116). -/
def rampFrom (step : StepRecord) (origin : Int) : Ramp :=
  { dbTarget := step.dbTarget, depression := step.depression, rampRate := step.rampRate, kind := step.kind, origin,
    setpoint := origin }

/-- R85, R116: the origin of a zone that starts with a step: its published DB, or the step's DB target. -/
def State.startOrigin (s : State) (z : ZoneId) (step : StepRecord) : Int :=
  ((s.channels z).db.usable).getD step.dbTarget

/-- R116: the origin of a step entry or of an adoption NOW with restart set: the SP the zone held. -/
def State.heldOrigin (s : State) (z : ZoneId) (step : StepRecord) : Int :=
  match (s.zone z).ramp with
  | some r => r.setpoint
  | none => s.startOrigin z step

/-- Every active zone takes a step's targets at the origin a rule gives it; an inactive zone is left as it is. -/
def State.zonesTakeStep (s : State) (step : StepRecord) (origin : ZoneId → Int) : State :=
  { s with
    zones := s.zones.map fun z x => if s.zoneActive z then { x with ramp := some (rampFrom step (origin z)) } else x }

/-- R116: a ramp at an adoption NOW with restart clear: the origin is kept and SP clamped into the new span. -/
def Ramp.retarget (r : Ramp) (step : StepRecord) : Ramp :=
  { rampFrom step r.origin with setpoint := clampToSpan r.origin step.dbTarget r.setpoint }

/-- R76, R116: the active zones at an adoption NOW with restart clear. -/
def State.zonesRetarget (s : State) (step : StepRecord) : State :=
  { s with
    zones := s.zones.map fun z x =>
      if s.zoneActive z then
        { x with
          ramp := some (match x.ramp with
            | some r => r.retarget step
            | none => rampFrom step (s.startOrigin z step)) }
      else x }

/-- R115: a zone that holds step targets recomputes its working setpoint. -/
def State.recomputeSetpoint (s : State) (z : ZoneId) : State :=
  let x := s.zone z
  match x.ramp with
  | some r => s.setZone z { x with ramp := some { r with setpoint := r.setpointAt s.run.stepMinutes } }
  | none => s

/-! ### The loops (6.4) -/

/-- R117, rows 1 to 4: the condition that holds for both loops of a zone, if one does. -/
def State.zoneCondition (s : State) (z : ZoneId) : Option LoopCondition :=
  if !s.zoneActive z then some .inactive
  else
    match s.run.state with
    | .idle | .complete | .aborted => some .noRun
    | .safe => some .safeHold
    | .running | .held => if (s.zone z).ramp.any (fun r => decide (r.kind = .cool)) then some .cool else none

/-- R117: the heat loop's row. -/
def State.heatCondition (s : State) (z : ZoneId) : LoopCondition :=
  match s.zoneCondition z with
  | some c => c
  | none =>
    if (s.zoneSettings z).heatMode = .manual then .manual
    else if !s.fans.state.isRunning then .fanHold
    else if (s.channels z).db.usable.isNone then .sensorHold
    else .evaluated

/-- R117: the humidity loop's row. -/
def State.humidityCondition (s : State) (z : ZoneId) : LoopCondition :=
  match s.zoneCondition z with
  | some c => c
  | none =>
    if (s.zoneSettings z).humidityMode = .manual then .manual
    else if !s.fans.state.isRunning then .fanHold
    else if (s.channels z).db.usable.isNone then .sensorHold
    else if (s.channels z).usableWb.isNone then .sensorHold
    else .evaluated

/-- R118, R119: the integrator after an evaluation with error e (already clamped), on a demand range [lo, hi]. -/
def nextIntegrator (lo hi kp ki e i : Int) : Int :=
  let p := kp * e
  let i' := i + truncDiv (ki * e) 60
  if (hi < p + i' ∧ 0 < e) ∨ (p + i' < lo ∧ e < 0) then i else clampInt lo hi i'

/-- R118, R119: an evaluation of a PI loop. -/
def Loop.evaluate (x : Loop) (lo hi kp ki error : Int) : Loop :=
  let e := clampInt (-500) 500 error
  let i := nextIntegrator lo hi kp ki e x.integrator
  { x with integrator := i, demand := clampInt lo hi (kp * e + i) }

/-- R118: the heat error of a zone: SP less the published DB. -/
def State.heatError (s : State) (z : ZoneId) : Option Int :=
  match (s.zone z).ramp, (s.channels z).db.usable with
  | some r, some db => some (r.setpoint - db)
  | _, _ => none

/-- R119: the humidity error of a zone: SP_WB less the published WB. -/
def State.humidityError (s : State) (z : ZoneId) : Option Int :=
  match (s.zone z).ramp, (s.channels z).usableWb with
  | some r, some wb => some (r.wetSetpoint - wb)
  | _, _ => none

/-- R117, R118: the heat loop at a sample set. -/
def State.heatLoop (s : State) (z : ZoneId) : Loop :=
  let x := { (s.zone z).heat with condition := s.heatCondition z }
  let g := s.zoneSettings z
  match x.condition with
  | .inactive => { x with demand := 0 }
  | .noRun => { x with demand := 0, integrator := 0 }
  | .safeHold => x
  | .cool => { x with demand := 0 }
  | .manual => { x with demand := g.heatManual }
  | .fanHold => x
  | .sensorHold => { x with demand := 0 }
  | .evaluated =>
    match s.heatError z with
    | some e => x.evaluate 0 1000 g.heatKp g.heatKi e
    | none => x

/-- R117, R119: the humidity loop at a sample set. In a COOL step it is not evaluated and u stands (log 15). -/
def State.humidityLoop (s : State) (z : ZoneId) : Loop :=
  let x := { (s.zone z).humidity with condition := s.humidityCondition z }
  let g := s.zoneSettings z
  match x.condition with
  | .inactive => { x with demand := 0 }
  | .noRun => { x with demand := 0, integrator := 0 }
  | .safeHold => x
  | .cool => x
  | .manual => { x with demand := g.humidityManual }
  | .fanHold => x
  | .sensorHold => x
  | .evaluated =>
    match s.humidityError z with
    | some e => x.evaluate (-1000) 1000 g.humidityKp g.humidityKi e
    | none => x

/-- R117: the spray and vent demands, from u except in a COOL step and in SAFE, where the demands held at the entry
stand (R120). -/
def sprayVent (before : ZoneLoops) (humidity : Loop) : Nat × Nat :=
  match humidity.condition with
  | .cool => (0, 1000)
  | .safeHold => (before.sprayDemand, before.ventDemand)
  | .inactive | .noRun | .manual | .fanHold | .sensorHold | .evaluated =>
    (humidity.demand.toNat, (-humidity.demand).toNat)

/-- R117: a zone's loops judged at a sample set, its setpoint already recomputed. -/
def State.judgeLoops (s : State) (z : ZoneId) : State :=
  let x := s.zone z
  let humidity := s.humidityLoop z
  let d := sprayVent x humidity
  s.setZone z { x with heat := s.heatLoop z, humidity, sprayDemand := d.1, ventDemand := d.2 }

/-- The Zone Loops take a sample set (R113 to R119): setpoints, loops, and the demands handed over. -/
def State.zonesTakeSet (s : State) : State :=
  (ZoneId.all.foldl (fun t z => (t.recomputeSetpoint z).judgeLoops z) s).handAllDemands

/-! ### Demands between sample sets (R122) -/

/-- A loop with demand 0. -/
def Loop.dropDemand (x : Loop) : Loop := { x with demand := 0 }

/-- A loop with demand and integrator 0. -/
def Loop.zero (x : Loop) : Loop := { x with demand := 0, integrator := 0 }

/-- R122: a zone's demands and integrators at a run end or a ZONE block reset. -/
def ZoneLoops.zeroDemands (x : ZoneLoops) : ZoneLoops :=
  { x with heat := x.heat.zero, humidity := x.humidity.zero, sprayDemand := 0, ventDemand := 0 }

/-- R116, R122: a zone made inactive. -/
def ZoneLoops.deactivate (x : ZoneLoops) : ZoneLoops :=
  { x with ramp := none, heat := x.heat.dropDemand, humidity := x.humidity.dropDemand, sprayDemand := 0, ventDemand := 0 }

/-- R83, R116, R122: the zones at a run end. -/
def State.zonesEndRun (s : State) : State :=
  { s with zones := s.zones.map fun _ (x : ZoneLoops) => { x.zeroDemands with ramp := none } }.handAllDemands

/-- R125: one zone's integrators and demands zeroed, handed over, and its valve cycles restarted (R131). -/
def State.resetZone (s : State) (z : ZoneId) : State :=
  ((s.setZone z (s.zone z).zeroDemands).handDemands z).restartCycles z

/-! ### What the Run Controller asks of the zones (R91, R92, R98) -/

/-- R91: a zone is in band. -/
def State.zoneInBand (s : State) (z : ZoneId) : Bool :=
  let band : Int := s.settings.settleBand
  match (s.zone z).ramp, (s.channels z).db.published with
  | some r, some db =>
    decide (((db - r.setpoint).natAbs : Int) ≤ band) &&
      (match (s.channels z).usableWb with
        | some wb => decide (((wb - r.wetSetpoint).natAbs : Int) ≤ band)
        | none => true)
  | _, _ => false

/-- R92: a zone's published DB is at or below a target. -/
def State.zoneCooled (s : State) (target : Nat) (z : ZoneId) : Bool :=
  match (s.channels z).db.published with
  | some db => decide (db ≤ (target : Int))
  | none => false

/-- R98: the DB channel of an active zone is in FAULT. -/
def State.sensorFault (s : State) : Bool :=
  s.activeZones.any fun z => decide ((s.channels z).db.state = .fault)

end Sys2Proof.Machine
end

