-- ==== Sys2Proof/Machine/Schedules.lean ====
section
/-! DEFINITION. The Schedule Store (chapter 4): the two buffers, adoption validation, and the step record's byte form with
its checks (R69, R170). -/

namespace Sys2Proof.Machine

/-! ### Buffers (R65) -/

/-- The EDIT buffer's steps replaced. -/
def ScheduleStore.setEdit (x : ScheduleStore) (steps : List StepRecord) : ScheduleStore :=
  match x.active with
  | .a => { x with bufferB := steps }
  | .b => { x with bufferA := steps }

/-- R75: the roles of the two buffers exchanged. -/
def ScheduleStore.exchange (x : ScheduleStore) : ScheduleStore :=
  match x.active with
  | .a => { x with active := .b }
  | .b => { x with active := .a }

/-! ### Adoption validation (R73) -/

/-- The reasons of INVALID_SCHEDULE (R166). -/
inductive InvalidReason
  | empty | kindOrder | testKind | minOverMax
  deriving DecidableEq, Repr

/-- R166. -/
def InvalidReason.code : InvalidReason → Nat
  | .empty => 0
  | .kindOrder => 1
  | .testKind => 2
  | .minOverMax => 3

/-- R73, KIND_ORDER. -/
def StepRecord.failsOrder (x : StepRecord) (index count : Nat) : Bool :=
  (decide (x.kind = .heatup) && index != 0) || (decide (x.kind = .cool) && index + 1 != count)

/-- R73, TEST_KIND. -/
def StepRecord.failsTest (x : StepRecord) : Bool :=
  match x.kind with
  | .heatup => decide (x.test ≠ .settled)
  | .cool => decide (x.test ≠ .cooled)
  | .condition => decide (x.test ≠ .hours)
  | .dry | .equalize => decide (x.test = .settled) || decide (x.test = .cooled)

/-- R73, MIN_OVER_MAX. -/
def StepRecord.failsMax (x : StepRecord) : Bool :=
  match x.maxHours with
  | some m => x.minHours.any (fun n => decide (m < n)) || x.testHours.any (fun n => decide (m < n))
  | none => false

/-- R73: the first reason a step fails. -/
def StepRecord.failure (x : StepRecord) (index count : Nat) : Option InvalidReason :=
  if x.failsOrder index count then some .kindOrder
  else if x.failsTest then some .testKind
  else if x.failsMax then some .minOverMax
  else none

/-- R73: the first step that fails, from an index on. -/
def firstFailure (count : Nat) : Nat → List StepRecord → Option (Nat × InvalidReason)
  | _, [] => none
  | i, x :: rest =>
    match x.failure i count with
    | some r => some (i, r)
    | none => firstFailure count (i + 1) rest

/-- R73: adoption validation: the step index and reason of the first failure. -/
def validate (steps : List StepRecord) : Option (Nat × InvalidReason) :=
  if steps.length = 0 ∨ 24 < steps.length then some (0, .empty) else firstFailure steps.length 0 steps

/-! ### Step records on the link (R63, R64, R69, R170) -/

/-- The fields of a step record as the link carries them, before any check. -/
structure RawStep where
  kind : Nat
  dbTarget : Nat
  depression : Nat
  rampRate : Nat
  reversalInterval : Nat
  speed : Nat
  test : Nat
  statistic : Option Nat
  mcThreshold : Option Nat
  testHours : Option Nat
  settleMinutes : Option Nat
  minHours : Option Nat
  maxHours : Option Nat
  timeoutAction : Option Nat
  deriving DecidableEq, Repr

/-- An optional 1-byte field taken from the front when the mask marks it. -/
def takeOpt1 (present : Bool) : List Byte → Option (Option Nat × List Byte)
  | rest =>
    if present then
      match rest with
      | b :: rest' => some (some b.toNat, rest')
      | [] => none
    else some (none, rest)

/-- An optional 2-byte field taken from the front when the mask marks it. -/
def takeOpt2 (present : Bool) : List Byte → Option (Option Nat × List Byte)
  | rest =>
    if present then
      match rest with
      | lo :: hi :: rest' => some (some (read2 lo hi), rest')
      | _ => none
    else some (none, rest)

/-- R170: the step record in its byte form; none when the mask's bit 7 is set or the length is not the mask's. -/
def parseStep : List Byte → Option RawStep
  | k :: d0 :: d1 :: p0 :: p1 :: r0 :: r1 :: v0 :: v1 :: sp :: t :: mask :: rest =>
    if mask.getLsbD 7 then none
    else do
      let (statistic, rest) ← takeOpt1 (mask.getLsbD 0) rest
      let (mcThreshold, rest) ← takeOpt2 (mask.getLsbD 1) rest
      let (testHours, rest) ← takeOpt2 (mask.getLsbD 2) rest
      let (settleMinutes, rest) ← takeOpt1 (mask.getLsbD 3) rest
      let (minHours, rest) ← takeOpt2 (mask.getLsbD 4) rest
      let (maxHours, rest) ← takeOpt2 (mask.getLsbD 5) rest
      let (timeoutAction, rest) ← takeOpt1 (mask.getLsbD 6) rest
      match rest with
      | [] =>
        some
          { kind := k.toNat, dbTarget := read2 d0 d1, depression := read2 p0 p1, rampRate := read2 r0 r1,
            reversalInterval := read2 v0 v1, speed := sp.toNat, test := t.toNat, statistic, mcThreshold, testHours,
            settleMinutes, minHours, maxHours, timeoutAction }
      | _ :: _ => none
  | _ => none

/-- R64: an optional field that must be present exactly when `needed`, and then in range. -/
def presentAs (needed : Bool) (ok : Nat → Bool) : Option Nat → Bool
  | some n => needed && ok n
  | none => !needed

/-- An optional field of the host's choice, in range when present. -/
def freeAs (ok : Nat → Bool) : Option Nat → Bool
  | some n => ok n
  | none => true

/-- R69: the step fields 2 to 15 in order, each with its number and whether it passes. -/
def RawStep.checks (x : RawStep) : List (Nat × Bool) :=
  let test := StepTest.ofCode x.test
  [(2, (StepKind.ofCode x.kind).isSome),
   (3, inRange 200 1200 x.dbTarget),
   (4, inRange 0 400 x.depression),
   (5, inRange 0 300 x.rampRate),
   (6, x.reversalInterval == 0 || inRange 30 480 x.reversalInterval),
   (7, (Speed.ofCode x.speed).isSome),
   (8, test.isSome),
   (9, presentAs (test.any StepTest.isMc) (fun n => (Statistic.ofCode n).isSome) x.statistic),
   (10, presentAs (test.any StepTest.isMc) (inRange 20 600) x.mcThreshold),
   (11, presentAs (test.any StepTest.isHours) (inRange 1 999) x.testHours),
   (12, presentAs (test.any (fun t => decide (t = .settled))) (inRange 10 240) x.settleMinutes),
   (13, freeAs (inRange 0 999) x.minHours),
   (14, freeAs (inRange 1 999) x.maxHours),
   (15, presentAs x.maxHours.isSome (fun n => (TimeoutAction.ofCode n).isSome) x.timeoutAction)]

/-- The number of the first field that fails. -/
def firstBad (checks : List (Nat × Bool)) : Option Nat :=
  (checks.find? fun c => !c.2).map (·.1)

/-- The step record of fields that have passed R69's checks. -/
def RawStep.record (x : RawStep) : Option StepRecord := do
  let kind ← StepKind.ofCode x.kind
  let speed ← Speed.ofCode x.speed
  let test ← StepTest.ofCode x.test
  some
    { kind, dbTarget := x.dbTarget, depression := x.depression, rampRate := x.rampRate,
      reversalInterval := x.reversalInterval, speed, test, statistic := x.statistic.bind Statistic.ofCode,
      mcThreshold := x.mcThreshold, testHours := x.testHours, settleMinutes := x.settleMinutes,
      minHours := x.minHours, maxHours := x.maxHours, timeoutAction := x.timeoutAction.bind TimeoutAction.ofCode }

/-- R170: the presence mask of a step record. -/
def StepRecord.mask (x : StepRecord) : Nat :=
  (if x.statistic.isSome then 1 else 0) + (if x.mcThreshold.isSome then 2 else 0) +
  (if x.testHours.isSome then 4 else 0) + (if x.settleMinutes.isSome then 8 else 0) +
  (if x.minHours.isSome then 16 else 0) + (if x.maxHours.isSome then 32 else 0) +
  (if x.timeoutAction.isSome then 64 else 0)

/-- A field sent only when present. -/
def sendOpt (f : Nat → List Byte) : Option Nat → List Byte
  | some n => f n
  | none => []

/-- R170: a step record in its byte form. -/
def StepRecord.bytes (x : StepRecord) : List Byte :=
  byte1 x.kind.code ++ byte2 x.dbTarget ++ byte2 x.depression ++ byte2 x.rampRate ++ byte2 x.reversalInterval ++
  byte1 x.speed.code ++ byte1 x.test.code ++ byte1 x.mask ++
  sendOpt byte1 (x.statistic.map Statistic.code) ++ sendOpt byte2 x.mcThreshold ++ sendOpt byte2 x.testHours ++
  sendOpt byte1 x.settleMinutes ++ sendOpt byte2 x.minHours ++ sendOpt byte2 x.maxHours ++
  sendOpt byte1 (x.timeoutAction.map TimeoutAction.code)

end Sys2Proof.Machine
end

