-- ==== Sys2Proof/Machine/Run.lean ====
section
/-! DEFINITION. The Run Controller (chapter 5): hold reasons, SAFE, step entry and step end, the advance tests at a
publication, a sample set and a minute event, adoption, start and abort. -/

namespace Sys2Proof.Machine

/-! ### The hold-reason set (R97, R98) -/

/-- R97: a reason is added if it is absent. -/
def State.addReason (s : State) (r : HoldReason) : State :=
  if s.run.reasons.has r then s
  else
    let reasons := s.run.reasons.put r true
    match s.run.state with
    | .running =>
      (({ s with run := { s.run with reasons, state := .held, inBand := false } }).queueNotice
        .runHeld r.code reasons.count).wantCheckpoint
    | .held => ({ s with run := { s.run with reasons } }).queueNotice .runHeld r.code reasons.count
    | .idle | .safe | .complete | .aborted => { s with run := { s.run with reasons } }

/-- R97: a HELD run whose set is empty becomes RUNNING. -/
def State.resumeIfEmpty (s : State) : State :=
  if s.run.reasons.isEmpty && decide (s.run.state = .held) then
    (({ s with run := { s.run with state := .running } }).queueNotice
      .runResumed (s.run.stepIndex.getD 0) 0).wantCheckpoint
  else s

/-- R97: a reason is removed if it is present. -/
def State.removeReason (s : State) (r : HoldReason) : State :=
  if s.run.reasons.has r then
    ({ s with run := { s.run with reasons := s.run.reasons.put r false } }).resumeIfEmpty
  else s

/-- R94, R98: a reason that follows a condition, judged in RUNNING, HELD and SAFE. -/
def State.judgeReason (s : State) (r : HoldReason) (present : Bool) : State :=
  if s.run.state.inProgress then (if present then s.addReason r else s.removeReason r) else s

/-! ### SAFE and run end (R83, R101) -/

/-- R101: the Run Controller's own part of the entry to SAFE on an input's level-3 latch. -/
def State.runEntersSafe (s : State) (i : Input) : State :=
  (({ s with run := { s.run with state := .safe, inBand := false } }).queueNotice .runSafe i.number 0).wantCheckpoint

/-- R101, R135: the run enters SAFE, and the Fan Sequencer follows. -/
def State.enterSafe (s : State) (i : Input) : State := (s.runEntersSafe i).fansFollowRun

/-- Any latch of a level is set. -/
def State.anyLatchOfLevel (s : State) (level : Nat) : Bool :=
  Input.all.any fun i => (s.input i).latch && decide (s.inputLevel i = level)

/-- R98: INTERLOCK is judged by the level-2 latches as they stand. -/
def State.judgeInterlock (s : State) : State := s.judgeReason .interlock (s.anyLatchOfLevel 2)

/-- R101: an input's latch puts the run into SAFE. -/
def State.latchBringsSafe (s : State) (i : Input) : Bool :=
  (s.input i).latch && decide (s.inputLevel i = 3) && s.run.state.going

/-- R98, R101: the Run Controller takes a signal about an input's latch. A level-3 latch puts a RUNNING or HELD run into
SAFE at once, and INTERLOCK is judged after that (log 8). -/
def State.runOnLatchSignal (s : State) (i : Input) : State :=
  (if s.latchBringsSafe i then s.enterSafe i else s).judgeInterlock

/-- R83: a run end: the hold reasons are emptied, the zones let go, the fans stopped. -/
def State.endRun (s : State) (final : RunState) : State :=
  ({ s with run := { s.run with state := final, reasons := .empty, inBand := false } }).zonesEndRun.fansFollowRun

/-! ### Step entry and step end (R86, R95, R96, R104) -/

/-- The MC figures of the latest publication; none before the first and when it lost quorum. -/
def State.latestFigures (s : State) : Option McFigures := s.statistics.latest.bind (·.figures)

/-- R104: the first entry of a run into an EQUALIZE step latches the spread. -/
def State.latchSpread (s : State) (step : StepRecord) : State :=
  if decide (step.kind = .equalize) && !s.run.equalizeEntered then
    { s with
      run :=
        { s.run with
          equalizeEntered := true
          spread := s.latestFigures.map fun f => f.wettest - f.driest } }
  else s

/-- R86: the clocks and flags at a step entry. -/
def Run.entering (r : Run) (i : Nat) : Run :=
  { r with
    stepIndex := some i, stepMinutes := 0, settleTimer := 0, mcMet := false, timeoutTaken := false, inBand := false }

/-- R86: the step at an index of the ACTIVE buffer is entered; `origin` is where each zone's ramp starts. -/
def State.enterStepFrom (s : State) (i : Nat) (origin : StepRecord → ZoneId → Int) : State :=
  match s.schedule.activeSteps[i]? with
  | none => s
  | some step =>
    (((({ s with run := s.run.entering i }).zonesTakeStep step (origin step)).handFans step).latchSpread step
      |>.queueNotice .stepEntered i step.kind.code).wantCheckpoint

/-- R86: a step entry at a step end: each active zone ramps from the SP it held. -/
def State.enterStep (s : State) (i : Nat) : State := s.enterStepFrom i fun step z => s.heldOrigin z step

/-- R96: the completion record. -/
def State.completionNow (s : State) : Completion :=
  { totalMinutes := s.run.totalMinutes
    controlling := s.latestFigures.map (·.controlling)
    driest := s.latestFigures.map (·.driest)
    mean := s.latestFigures.map (·.mean) }

/-- R96: the run completes. -/
def State.completeRun (s : State) : State :=
  ((({ s with run := { s.run with completion := some s.completionNow } }).endRun .complete).queueNotice
    .runComplete (s.run.stepIndex.getD 0) 0).wantCheckpoint

/-- R95: a step end: the pending adoption, the last step, or the next step. -/
def State.stepEnd (s : State) : State :=
  match s.schedule.adoption with
  | some a =>
    (({ s with schedule := { s.schedule.exchange with adoption := none } }).queueNotice
      .adoptionApplied a.target 1).enterStep a.target
  | none =>
    let i := s.run.stepIndex.getD 0
    if s.schedule.activeSteps.length ≤ i + 1 then s.completeRun else s.enterStep (i + 1)

/-! ### Advance tests (R88 to R92) -/

/-- R88: the step's minimum hours have run. -/
def State.minimumMet (s : State) (step : StepRecord) : Bool :=
  decide (60 * step.minHours.getD 0 ≤ s.run.stepMinutes)

/-- R89: the step's test hours have run. -/
def State.hoursMet (s : State) (step : StepRecord) : Bool :=
  step.testHours.any fun h => decide (60 * h ≤ s.run.stepMinutes)

/-- The figure a statistic names. -/
def McFigures.pick (f : McFigures) : Statistic → Nat
  | .controlling => f.controlling
  | .driest => f.driest
  | .mean => f.mean

/-- R89: the MC part of a test passes at a publication with these figures. -/
def mcPasses (step : StepRecord) (figures : Option McFigures) : Bool :=
  match figures, step.statistic, step.mcThreshold with
  | some f, some st, some limit => decide (f.pick st ≤ limit)
  | _, _, _ => false

/-- The step in force when its advance test may be evaluated (R88). -/
def State.evaluatedStep (s : State) : Option StepRecord :=
  if s.run.state = .running then s.currentStep.filter s.minimumMet else none

/-- R89, R90: the advance test at a publication. -/
def State.testAtPublication (s : State) (figures : Option McFigures) : State :=
  match s.evaluatedStep with
  | none => s
  | some step =>
    match step.test with
    | .mc | .mcOrHours => if mcPasses step figures then s.stepEnd else s
    | .mcAndHours =>
      let s' := if mcPasses step figures then { s with run := { s.run with mcMet := true } } else s
      if s'.run.mcMet && s'.hoursMet step then s'.stepEnd else s'
    | .settled | .cooled | .hours => s

/-- R94, R88: the Run Controller takes a publication. QUORUM is updated first, and the test looks at the run state after
that: a publication that resumes the run is evaluated (DEDUCED, log 23). -/
def State.runTakePublication (s : State) (p : Publication) : State :=
  let lost := decide (p.quorum = .lost) && decide (s.settings.quorumAction = .hold)
  (s.judgeReason .quorum lost).testAtPublication p.figures

/-- R91: the settle judgement. With no active zone only the flag is cleared. -/
def State.judgeSettle (s : State) : State :=
  match s.activeZones with
  | [] => { s with run := { s.run with inBand := false } }
  | z :: zs =>
    if (z :: zs).all s.zoneInBand then { s with run := { s.run with inBand := true } }
    else { s with run := { s.run with inBand := false, settleTimer := 0 } }

/-- R92: every active zone, and there is one, has cooled to the step's DB target. -/
def State.allCooled (s : State) (step : StepRecord) : Bool :=
  !s.activeZones.isEmpty && s.activeZones.all (s.zoneCooled step.dbTarget)

/-- R91, R92: the advance test at a sample set. -/
def State.testAtSet (s : State) : State :=
  match s.evaluatedStep with
  | none => s
  | some step =>
    match step.test with
    | .settled => s.judgeSettle
    | .cooled => if s.allCooled step then s.stepEnd else s
    | .mc | .hours | .mcOrHours | .mcAndHours => s

/-- R98, R88: the Run Controller takes a sample set. SENSOR is updated first, and the test looks at the run state after
that: a set that resumes the run is evaluated (DEDUCED, log 23). -/
def State.runTakeSet (s : State) : State := (s.judgeReason .sensor s.sensorFault).testAtSet

/-! ### Minute events (R87, R89 to R91, R93, R106) -/

/-- R87: a run clock after one more minute; past the top of its range the value is another (log 7). -/
def bumpMinutes (n pastTop : Nat) : Nat := if n < 4294967295 then n + 1 else pastTop

/-- R87: the step running minutes after a minute event. -/
def Run.nextStepMinutes (r : Run) (minute : Nat) : Nat :=
  if r.state = .running then bumpMinutes r.stepMinutes (Config.stepMinutesPastTop minute).val else r.stepMinutes

/-- R87, R91: the run's clocks and settle timer at a minute event. The total past its top is a free value not below the
step minutes, which never exceed it (R87, log 7); the settle timer stays within its 0 to 240 (log 16). -/
def Run.countMinute (r : Run) (minute : Nat) : Run :=
  { r with
    stepMinutes := r.nextStepMinutes minute
    totalMinutes :=
      if r.state.inProgress then
        bumpMinutes r.totalMinutes (max (r.nextStepMinutes minute) (Config.totalMinutesPastTop minute).val)
      else r.totalMinutes
    settleTimer := if decide (r.state = .running) && r.inBand then min 240 (r.settleTimer + 1) else r.settleTimer }

/-- The run's part of a minute event: the clocks, and the judgements the same event carries, marked as due (R87,
log 2). -/
def State.runCountMinute (s : State) : State :=
  let r := s.run.countMinute s.clock.minute
  let running := decide (s.run.state = .running)
  { s with
    run := r
    due :=
      { s.due with
        hours := running
        settle := running && s.run.inBand
        timeout := running
        hourCheckpoint := s.run.state.inProgress && r.totalMinutes % 60 == 0 } }

/-- R89, R90: the hours part of the step's test passes at a minute event. -/
def State.hoursTestPasses (s : State) : Bool :=
  s.evaluatedStep.any fun step =>
    match step.test with
    | .hours | .mcOrHours => s.hoursMet step
    | .mcAndHours => s.run.mcMet && s.hoursMet step
    | .settled | .cooled | .mc => false

/-- R91: the settle timer has reached the step's settle minutes at a minute event that counted it. A timer already above
them (after an adoption NOW with restart clear, or kept back by minimum hours) passes too: MODEL's choice (log 16).
R123: with no active zone left the test does not pass, the in-band flag of the latest set notwithstanding. -/
def State.settleTestPasses (s : State) : Bool :=
  s.run.inBand && !s.activeZones.isEmpty && s.evaluatedStep.any fun step =>
    decide (step.test = .settled) && step.settleMinutes.any fun n => decide (n ≤ s.run.settleTimer)

/-- R93: the step in force when its timeout is reached. -/
def State.timedOutStep (s : State) : Option StepRecord :=
  if s.run.state = .running ∧ s.run.timeoutTaken = false then
    s.currentStep.filter fun step => step.maxHours.any fun h => decide (60 * h ≤ s.run.stepMinutes)
  else none

/-- R93: the run judgements of the minute event are over, because the step has ended. -/
def State.judgementsOver (s : State) : State :=
  { s with due := { s.due with hours := false, settle := false, timeout := false } }

/-- R89, R90, R93: the hours part is judged. A pass ends the step, and the event judges nothing more of the run. -/
def State.takeHours (s : State) : State :=
  if s.due.hours then
    if s.hoursTestPasses then s.judgementsOver.stepEnd else { s with due := { s.due with hours := false } }
  else s

/-- R91, R93: the SETTLED timer is judged. -/
def State.takeSettle (s : State) : State :=
  if s.due.settle then
    if s.settleTestPasses then s.judgementsOver.stepEnd else { s with due := { s.due with settle := false } }
  else s

/-- R93: what a timeout does. -/
def State.timeOut (s : State) (step : StepRecord) : State :=
  match step.timeoutAction with
  | some .advance => (s.queueNotice .stepTimedOut (s.run.stepIndex.getD 0) 0).stepEnd
  | some .hold =>
    let s' := s.addReason .timeout
    { s' with run := { s'.run with timeoutTaken := true } }
  | none => s

/-- R93: the timeout is judged, after the hours part and the SETTLED timer have been judged without a pass. -/
def State.takeTimeout (s : State) : State :=
  let s := s.takeHours.takeSettle
  if s.due.timeout then
    let s' := { s with due := { s.due with timeout := false } }
    match s.timedOutStep with
    | some step => s'.timeOut step
    | none => s'
  else s

/-- R106: the hourly checkpoint is asked for. -/
def State.takeHourCheckpoint (s : State) : State :=
  if s.due.hourCheckpoint then { s with due := { s.due with hourCheckpoint := false } }.wantCheckpoint else s

/-! ### Requests of the host -/

/-- R85: an accepted RUN_START. The Fan Sequencer sees the run at the end of the event (log 11). SENSOR counts the zones
active at the request, one made active since the latest sample set among them (DEDUCED, log 24). -/
def State.startRun (s : State) (i : Nat) : State :=
  let s :=
    { s with
      run :=
        { s.run with
          state := .running, reasons := .empty, completion := none, spread := none, equalizeEntered := false,
          restored := false, totalMinutes := 0 } }
  let s := s.queueNotice .runStarted i s.schedule.activeSteps.length
  let s := s.enterStepFrom i fun step z => s.startOrigin z step
  let s := if s.sensorFault then s.addReason .sensor else s
  let lost := s.statistics.latest.any (fun p => decide (p.quorum = .lost)) && decide (s.settings.quorumAction = .hold)
  let s := if lost then s.addReason .quorum else s
  s.fansFollowRun

/-- R100: HOST, TIMEOUT and RESTORED leave the set of a HELD run. -/
def State.resumeRun (s : State) : State :=
  ({ s with
    run := { s.run with reasons := ((s.run.reasons.put .host false).put .timeout false).put .restored false }
  }.resumeIfEmpty).wantCheckpoint

/-- R102: an accepted RUN_RESTART. The Fan Sequencer sees the run at the end of the event, so RUN_HELD stands before
FAN_FAILED (DEDUCED, log 11). -/
def State.restartRun (s : State) : State :=
  let reasons := s.run.reasons.put .host true
  (((({ s with run := { s.run with state := .held, reasons } }).queueNotice
    .runHeld HoldReason.host.code reasons.count).wantCheckpoint).refreshOutputs).fansFollowRun

/-- R103, R79: an accepted RUN_ABORT. -/
def State.abortRun (s : State) : State :=
  ((({ s with schedule := { s.schedule with adoption := none } }).endRun .aborted).queueNotice
    .runAborted (s.run.stepIndex.getD 0) 0).wantCheckpoint

/-- R76: the run's clocks and flags at an adoption NOW with restart set. -/
def Run.restartStep (r : Run) : Run :=
  { r with stepMinutes := 0, mcMet := false, timeoutTaken := false, settleTimer := 0, inBand := false }

/-- R76: an accepted adoption NOW of a RUNNING or HELD run. -/
def State.adoptNow (s : State) (target : Nat) (restart : Bool) : State :=
  let s := { s with schedule := s.schedule.exchange, run := { s.run with stepIndex := some target } }
  let s :=
    match s.schedule.activeSteps[target]? with
    | none => s
    | some step =>
      (if restart then
        ({ s with run := s.run.restartStep }).zonesTakeStep step fun z => s.heldOrigin z step
      else s.zonesRetarget step).handFans step
  (s.queueNotice .adoptionApplied target 0).wantCheckpoint

end Sys2Proof.Machine
end

