-- ==== Sys2Proof/Machine/Interlocks.lean ====
section
/-! DEFINITION. The Interlock Monitor (chapter 8): conformity, judging, trips and their signals; and the expiry of the
start-confirm window (R137), at which FAN_RUN may trip. -/

namespace Sys2Proof.Machine

/-- The expected level of an input, true for closed; FAN_RUN's is the Fan Sequencer's (R143). -/
def State.expectedClosed (s : State) : Input → Bool
  | .fanRun => s.fans.expectRunning
  | i => (s.settings.interlocks.get i).expectedClosed

/-- The comparison of an input is ACTIVE (R143). -/
def State.comparisonActive (s : State) : Input → Bool
  | .fanRun => s.fans.compareActive
  | i => s.ready && (s.settings.interlocks.get i).compare

/-- R143: an input conforms. -/
def State.conforms (s : State) (i : Input) : Bool := (s.input i).live == s.expectedClosed i

/-- R143: an input is judged. -/
def State.judged (s : State) (i : Input) : Bool := s.comparisonActive i && decide (1 ≤ s.inputLevel i)

/-- R140, R142: the Run Controller has entered SAFE on a FAN_RUN latch, and the Fan Sequencer takes the latch before the
signal of SAFE: FAILED with its notice, which stands after RUN_SAFE, and then STOPPED. -/
def State.safeThenFanLatch (s : State) : State :=
  (s.runEntersSafe .fanRun).fansOnLatchSet.fansFollowRun.judgeInterlock

/-- R147: a latch signal goes to the Run Controller, and for FAN_RUN to the Fan Sequencer, which may take it first. Of a
latch that brings SAFE the sequencer takes two signals, the latch and SAFE, in either order too (R140, R142). Both orders
are free (log 4). -/
def State.signalLatchSet (s : State) (i : Input) : State :=
  if i = .fanRun then
    match s.latchOrder with
    | .fansFirst => s.drawn.fansOnLatchSet.runOnLatchSignal i
    | .runThenLatch =>
      if s.latchBringsSafe i then s.drawn.safeThenFanLatch else (s.drawn.runOnLatchSignal i).fansOnLatchSet
    | .runThenSafe => (s.drawn.runOnLatchSignal i).fansOnLatchSet
  else s.runOnLatchSignal i

/-- R147: the clearing of a latch is signalled. The two readers' order makes no difference here: neither queues a
notice that the other's effect changes. -/
def State.signalLatchClear (s : State) (i : Input) : State :=
  let s := s.runOnLatchSignal i
  if i = .fanRun then s.fansOnLatchClear else s

/-- R146: an input trips. A trip of an input whose latch is already set queues its notice all the same, as R146 and worked
case 8.8 have it; the first row of R153 says otherwise (DEDUCED, log 22). -/
def State.trip (s : State) (i : Input) : State :=
  let s' := s.queueNotice .interlockTripped i.number (s.inputLevel i)
  if (s.input i).latch then s'
  else
    (s'.setInput i { s.input i with latch := true, trippedAt := some s.clock.minute }).signalLatchSet i

/-- R145: the trip judgement of an input after a change, from whether it conformed and was judged before. -/
def State.judgeTrip (s : State) (i : Input) (conformed wasJudged : Bool) : State :=
  if s.judged i && !s.conforms i && (conformed || !wasJudged) then s.trip i else s

/-- R144: a contact's live level changes; the monitor judges it, and a change of FAN_RUN goes on to the Fan
Sequencer. -/
def State.changeLive (s : State) (i : Input) (closed : Bool) : State :=
  if (s.input i).live = closed then s
  else
    let s' := (s.setInput i { s.input i with live := closed }).judgeTrip i (s.conforms i) (s.judged i)
    if i = .fanRun then s'.fansOnInput else s'

/-- R151: a set latch of a conforming input is cleared. -/
def State.clearLatch (s : State) (i : Input) : State :=
  (s.setInput i { s.input i with latch := false, trippedAt := none }).signalLatchClear i

/-- R150: an input's settings are replaced, and the input judged once; then a change of the level of an input whose
latch was set is signalled (R147, log 10). -/
def State.configureInput (s : State) (i : Input) (x : InputSettings) : State :=
  let s' :=
    { s with settings := { s.settings with interlocks := s.settings.interlocks.set i x } }.judgeTrip i
      (s.conforms i) (s.judged i)
  if (s.input i).latch && decide (x.level ≠ s.inputLevel i) then s'.runOnLatchSignal i else s'

/-! ### The start-confirm window (R137) -/

/-- R137: the window has expired. -/
def State.confirmIsOver (s : State) : Bool :=
  decide (s.fans.state = .starting) && decide (s.settings.startConfirmWindow ≤ s.fans.confirmTimer)

/-- R137: the expiry: the comparison resumes with the input not conforming. At level 1 or above that is a trip, whose
latch signal puts the sequencer in FAILED; at level 0 the run goes on unconfirmed. -/
def State.expireConfirm (s : State) : State :=
  let s' := { s with fans := { s.fans with expectRunning := true, compareActive := true } }
  if s.inputLevel .fanRun = 0 then s'.fansEnterRunning
  else s'.judgeTrip .fanRun s.fanRunConforms s.fanRunJudged

end Sys2Proof.Machine
end

