-- ==== Sys2Proof/Machine/Probes.lean ====
section
/-! DEFINITION. The Probe Table (chapter 3): the value list and its filter, the application of a reading, the requests'
effects on a record, and the publication of the controlling statistics. -/

namespace Sys2Proof.Machine

/-! ### The value list (R45) -/

/-- The middle one of three values. -/
def median (a b c : Nat) : Nat := max (min a b) (min (max a b) c)

/-- R45: the filtered MC of a value list. -/
def filteredMc : List Nat → Option Nat
  | [] => none
  | [a] => some a
  | [_, b] => some b
  | [a, b, c] => some (median a b c)
  | _ :: b :: c :: d :: rest => filteredMc (b :: c :: d :: rest)

/-- R45: an MC appended to a value list of at most three. -/
def appendValue (values : List Nat) (mc : Nat) : List Nat :=
  if values.length < 3 then values ++ [mc] else (values ++ [mc]).drop 1

/-- The filtered MC of a record, a view of its value list (R45). -/
def ProbeRecord.filtered (r : ProbeRecord) : Option Nat := filteredMc r.values

/-! ### Applying a reading (3.3) -/

/-- R25: the MC of a valid reading. -/
def Reading.validMc (x : Reading) : Option Nat :=
  match x.kind with
  | .valid | .dryLimit => x.mc
  | .short | .polarized | .unstable | .noTemperature => none

/-- R25: the fault kind a fault reading names. -/
def ReadingKind.faultKind : ReadingKind → Option FaultKind
  | .short => some .short
  | .polarized => some .polarized
  | .unstable => some .unstable
  | .valid | .dryLimit | .noTemperature => none

/-- R49: entry into FAULTED. -/
def ProbeRecord.enterFaulted (r : ProbeRecord) (k : FaultKind) : ProbeRecord :=
  { r with state := .faulted, faultKind := some k }

/-- R47: the jump test of an MC against a filtered value. -/
def isJump (limit : Nat) (filtered : Option Nat) (mc : Nat) : Bool :=
  filtered.any fun f => decide (limit < (mc - f) + (f - mc))

/-- R46 to R48, R50: a valid reading in each state. -/
def ProbeRecord.takeValid (r : ProbeRecord) (limit mc : Nat) : ProbeRecord :=
  match r.state with
  | .new =>
    let values := appendValue r.values mc
    { r with faultCount := 0, values, state := if values.length < 3 then .new else .good }
  | .good | .suspect =>
    let jumps := if isJump limit r.filtered mc then r.jumpCount + 1 else 0
    if jumps < 3 then
      { r with jumpCount := jumps, values := appendValue r.values mc, faultCount := 0, state := .good }
    else ({ r with jumpCount := 3 }).enterFaulted .erratic
  | .faulted | .unassigned | .blocked => r

/-- R46 to R48, R50: a fault reading in each state. -/
def ProbeRecord.takeFault (r : ProbeRecord) (k : FaultKind) : ProbeRecord :=
  match r.state with
  | .new =>
    if r.faultCount + 1 < 3 then { r with faultCount := r.faultCount + 1 }
    else ({ r with faultCount := 3 }).enterFaulted k
  | .good => { r with faultCount := 1, state := .suspect }
  | .suspect =>
    if r.faultCount + 1 < 3 then { r with faultCount := r.faultCount + 1 }
    else ({ r with faultCount := 3 }).enterFaulted k
  | .faulted | .unassigned | .blocked => r

/-- R44: a reading applied to a record. -/
def ProbeRecord.apply (r : ProbeRecord) (limit : Nat) (range : Fin 4) (x : Reading) : ProbeRecord :=
  let r := { r with last := some x, rangeMemory := range }
  match x.validMc, x.kind.faultKind with
  | some mc, _ => r.takeValid limit mc
  | none, some k => r.takeFault k
  | none, none => r

/-- R49: the notice of a probe that a reading has faulted. -/
def State.noticeFaulted (s : State) (p : Fin 48) (before after : ProbeRecord) : State :=
  match after.faultKind with
  | some k =>
    if before.state ≠ .faulted ∧ after.state = .faulted then s.queueNotice .probeFaulted (probeNumber p) k.code else s
  | none => s

/-- R44 to R50: the Probe Table applies a reading. -/
def State.applyReading (s : State) (p : Fin 48) (range : Fin 4) (x : Reading) : State :=
  let r := (s.probe p).apply s.settings.jumpLimit range x
  (s.setProbe p r).noticeFaulted p (s.probe p) r

/-! ### What the requests do to a record (3.2, 3.4, 3.5, 3.9) -/

/-- R42: an assigned record. -/
def ProbeRecord.assigned (a : Assignment) : ProbeRecord := { ProbeRecord.cleared with assignment := some a, state := .new }

/-- NEW with an empty list and counts 0; the assignment, last reading and range memory kept (R52, R53, R54, R62). -/
def ProbeRecord.renew (r : ProbeRecord) : ProbeRecord :=
  { r with state := .new, values := [], faultCount := 0, jumpCount := 0, faultKind := none }

/-- R51: BLOCKED. -/
def ProbeRecord.block (r : ProbeRecord) : ProbeRecord := { r with state := .blocked, faultKind := none }

/-- A record's assignment names a group. -/
def ProbeRecord.names (r : ProbeRecord) (g : Fin 8) : Bool := r.assignment.any fun a => decide (a.group = g)

/-- R54: a group replacement at one record. -/
def ProbeRecord.replaceGroup (g : Fin 8) (r : ProbeRecord) : ProbeRecord :=
  if r.names g then
    match r.state with
    | .new | .good | .suspect => r.renew
    | .faulted | .blocked => { r with values := [] }
    | .unassigned => r
  else r

/-- R62: the PROBES block reset at one record. -/
def ProbeRecord.tableReset (r : ProbeRecord) : ProbeRecord :=
  match r.state with
  | .new | .good | .suspect | .faulted => r.renew
  | .blocked | .unassigned => { r with faultKind := none }

/-- The number of assigned probes that name a group (R34, R35). -/
def State.naming (s : State) (g : Fin 8) : Nat := (s.probes.toList.filter fun r => r.names g).length

/-! ### Publishing (3.7) -/

/-- The probes in ascending number. -/
def allProbes : List (Fin 48) := List.finRange 48

/-- R56: an eligible record. -/
def ProbeRecord.eligible (r : ProbeRecord) : Bool :=
  r.assignment.any (fun a => decide (a.role = .control)) && (decide (r.state = .good) || decide (r.state = .suspect))

/-- The eligible probes with their filtered MC, in ascending number (R56). -/
def State.eligibleProbes (s : State) : List (Fin 48 × Nat) :=
  allProbes.filterMap fun p =>
    if (s.probe p).eligible then (s.probe p).filtered.map fun f => (p, f) else none

/-- A probe placed in the order of R57: before the first whose filtered MC is not higher. -/
def placeByMc (x : Fin 48 × Nat) : List (Fin 48 × Nat) → List (Fin 48 × Nat)
  | [] => [x]
  | y :: rest => if y.2 ≤ x.2 then x :: y :: rest else y :: placeByMc x rest

/-- R57: the order of the eligible probes, highest first, equal ones by number. -/
def orderByMc (xs : List (Fin 48 × Nat)) : List (Fin 48 × Nat) := xs.foldr placeByMc []

/-- The sum of the filtered MC of some probes. -/
def mcSum (xs : List (Fin 48 × Nat)) : Nat := (xs.map (·.2)).sum

/-- R57: the figures of the eligible probes in their order, with control count w. -/
def figuresOf (w : Nat) (order : List (Fin 48 × Nat)) : Option McFigures :=
  match order.head?, order.getLast? with
  | some first, some last =>
    let set := order.take w
    some
      { controllingSet := set.map (·.1), controlling := roundHalfUp (mcSum set) set.length, wettest := first.2,
        driest := last.2, mean := roundHalfUp (mcSum order) order.length }
  | _, _ => none

/-- R56: the per-probe entries. -/
def State.probeEntries (s : State) : List ProbeEntry :=
  allProbes.filterMap fun p =>
    if (s.probe p).assignment.isSome then some ⟨p, (s.probe p).state, (s.probe p).filtered⟩ else none

/-- R56: the publication of a scan, from the records as they stand. -/
def State.publicationNow (s : State) (scanNumber : Nat) : Publication :=
  let xs := s.eligibleProbes
  let held := decide (s.settings.q ≤ xs.length)
  { scanNumber, minute := s.clock.minute, w := s.settings.w, q := s.settings.q, eligible := xs.length
    quorum := if held then .held else .lost
    figures := if held then figuresOf s.settings.w (orderByMc xs) else none
    entries := s.probeEntries }

/-- R58: the notice of a change of quorum. -/
def State.noticeQuorum (s : State) (p : Publication) : State :=
  if s.run.state.going then
    match s.statistics.keptQuorum, p.quorum with
    | .held, .lost => s.queueNotice .quorumLost p.eligible p.q
    | .lost, .held => s.queueNotice .quorumRegained p.eligible p.q
    | .held, .held | .lost, .lost => s
  else s

/-- R56, R58: the publication becomes the latest, and its quorum flag the kept one. -/
def State.keepPublication (s : State) (p : Publication) : State :=
  { s with statistics := { latest := some p, keptQuorum := p.quorum } }

end Sys2Proof.Machine
end

