-- ==== Sys2Proof/Machine/History.lean ====
section
/-! DEFINITION. The History Ring (9.1) and the publication event that joins Probe Table, Run Controller and ring. -/

namespace Sys2Proof.Machine

/-- R154: the zone entries: the active zones with their DB and WB. -/
def State.zoneEntries (s : State) : List ZoneEntry :=
  s.activeZones.map fun z => ⟨z, (s.channels z).db.usable, (s.channels z).usableWb⟩

/-- R154: the step index a frame shows. -/
def State.frameStep (s : State) : Option Nat := if s.run.state.inProgress then s.run.stepIndex else none

/-- R154: the frame of a publication, once the Run Controller has taken it. -/
def State.frameOf (s : State) (p : Publication) (sequence : Nat) : Frame :=
  { sequence, minute := p.minute, scanNumber := p.scanNumber, runState := s.run.state, stepIndex := s.frameStep,
    eligible := p.eligible
    figures := p.figures.map fun f => ⟨f.controlling, f.wettest, f.driest, f.mean⟩
    slip := false, zones := s.zoneEntries, probes := p.entries }

/-- R155, step 4: the oldest frame marked. -/
def markSlip : List Frame → List Frame
  | [] => []
  | f :: rest => { f with slip := true } :: rest

/-- R155: a frame appended. -/
def History.append (h : History) (f : Frame) : History :=
  if h.frames.length < 96 then { h with frames := h.frames ++ [f], latest := some f, sequence := f.sequence }
  else { frames := markSlip ((h.frames ++ [f]).drop 1), latest := some f, slip := true, sequence := f.sequence }

/-- R155: the ring appends the frame of a publication. -/
def State.appendFrame (s : State) (p : Publication) : State :=
  { s with history := s.history.append (s.frameOf p ((s.history.sequence + 1) % 65536)) }

/-- R56, R58, R94, R155: a publication: the table's notices, the latest statistics, the Run Controller, the ring. -/
def State.publish (s : State) (scanNumber : Nat) : State :=
  let p := s.publicationNow scanNumber
  (((s.noticeQuorum p).keepPublication p).runTakePublication p).appendFrame p

/-- R158: the HISTORY block reset. -/
def History.reset (h : History) : History := { h with frames := [], latest := none, slip := false }

end Sys2Proof.Machine
end

