-- ==== Sys2Proof/Machine/Scanner.lean ====
section
/-! DEFINITION. The Probe Scanner (chapter 1): counts and ranges, the hand-over, scan start, advance and completion,
and the scan timer. -/

namespace Sys2Proof.Machine

/-! ### Ranges and counts -/

/-- R2: the level a range runs with. -/
def rangeLevel (r : Fin 4) : Excitation := if r.val < 2 then .low else .high

/-- Where a count lies (R1). -/
inductive CountBand
  | low | inWindow | high
  deriving DecidableEq, Repr

/-- R1: a count below, in or above the window. -/
def countBand (n : Nat) : CountBand := if n < 1024 then .low else if n ≤ 60000 then .inWindow else .high

/-- What follows a positive count (R4). -/
inductive Decision
  | ends (outcome : Outcome)
  | negativePart
  | nextAttempt (range : Fin 4)
  deriving DecidableEq, Repr

/-- The range below, and the range above (R4). -/
def rangeDown (r : Fin 4) : Fin 4 := ⟨r.val - 1, by omega⟩

/-- The range above, up to 3 (R4). -/
def rangeUp (r : Fin 4) : Fin 4 := if h : r.val + 1 < 4 then ⟨r.val + 1, h⟩ else r

/-- R4: the decision after a positive count, the first row that applies. -/
def decide4 (n : Nat) (r : Fin 4) (attempt : Nat) : Decision :=
  match countBand n with
  | .inWindow => .negativePart
  | .low => if r = 0 then .ends .short else if attempt < 4 then .nextAttempt (rangeDown r) else .ends .unstable
  | .high => if r = 3 then .ends .dryLimit else if attempt < 4 then .nextAttempt (rangeUp r) else .ends .unstable

/-! ### Choosing and selecting a probe (R3, R10) -/

/-- A probe the scanner measures (R10): assigned and not BLOCKED. -/
def ProbeRecord.qualifies (r : ProbeRecord) : Bool := r.assignment.isSome && decide (r.state ≠ .blocked)

/-- R10: the lowest-numbered qualifying probe above a number. -/
def State.nextProbe (s : State) (above : Nat) : Option (Fin 48) :=
  allProbes.find? fun p => decide (above < probeNumber p) && (s.probe p).qualifies

/-- The scanner's part of the state replaced. -/
def State.setScanner (s : State) (x : Scanner) : State := { s with scanner := x }

/-- R2, R3: a channel select: polarity positive, the level of the probe's range memory, and the settle that follows. -/
def Scanner.select (x : Scanner) (p : Fin 48) (range : Fin 4) : Scanner :=
  { x with
    polarity := .positive, excitation := rangeLevel range
    measurement :=
      some
        { probe := p, range, attempt := 1, nPlus := none
          phase := .settling (if x.excitation = rangeLevel range then .channel else .channelAndExcitation) } }

/-- The probe selected, from its range memory. -/
def State.selectProbe (s : State) (p : Fin 48) : State :=
  s.setScanner (s.scanner.select p (s.probe p).rangeMemory)

/-! ### Scans (R9, R11) -/

/-- R9: the scan number, the state, and with scan enable ON the timer and start-due. -/
def Scanner.begin (x : Scanner) (enable : Bool) : Scanner :=
  { x with
    state := .scanning, scanNumber := (x.scanNumber + 1) % 65536
    timer := if enable then 0 else x.timer
    startDue := if enable then false else x.startDue }

/-- R11: the level OFF, no channel, and the completion signalled: the publication. -/
def State.publishScan (s : State) : State :=
  (s.setScanner { s.scanner with excitation := .off, measurement := none }).publish s.scanner.scanNumber

/-- R11: WAITING with the timer as it stands, or OFF with the timer at 0. -/
def State.restScan (s : State) : State :=
  s.setScanner
    (if s.settings.scanEnable then { s.scanner with state := .waiting } else { s.scanner with state := .off, timer := 0 })

/-- R9: a scan start. A scan with no qualifying probe completes at its start, and then nothing is due (R9 has cleared
start-due, which is set only with scan enable ON). -/
def State.startScan (s : State) : State :=
  let s := s.setScanner (s.scanner.begin s.settings.scanEnable)
  match s.nextProbe 0 with
  | some p => s.selectProbe p
  | none => s.publishScan.restScan

/-- R11: a scan completion. -/
def State.completeScan (s : State) : State :=
  let s := s.publishScan
  if s.scanner.startDue then s.startScan else s.restScan

/-- R10, R11: the scanner goes on above a probe. -/
def State.advanceScan (s : State) (after : Fin 48) : State :=
  match s.nextProbe (probeNumber after) with
  | some p => s.selectProbe p
  | none => s.completeScan

/-! ### Measurements (R4 to R8) -/

/-- R7, R23: the hand-over: converted and applied in one event, from what stands. A measurement is always of an assigned
probe (R23; log 14). -/
def State.handOver (s : State) (m : Measurement) (outcome : Outcome) (nPlus : Nat) (nMinus : Option Nat) : State :=
  match (s.probe m.probe).assignment with
  | none => s
  | some a =>
    let raw : RawResult :=
      { probe := m.probe, scanNumber := s.scanner.scanNumber, outcome, range := m.range, nPlus, nMinus,
        minute := s.clock.minute }
    let tw := woodTemperature (s.zoneSettings a.zone).woodFitted (s.channels a.zone)
    s.applyReading m.probe m.range (convert (s.curve a.group) s.settings.polarityTolerance tw raw)

/-- A measurement ends: the hand-over, and the scanner goes on. -/
def State.endMeasurement (s : State) (m : Measurement) (outcome : Outcome) (nPlus : Nat) (nMinus : Option Nat) : State :=
  (s.handOver m outcome nPlus nMinus).advanceScan m.probe

/-- R6: the reversal. -/
def Scanner.reverse (x : Scanner) (m : Measurement) (nPlus : Nat) : Scanner :=
  { x with polarity := .negative, measurement := some { m with nPlus := some nPlus, phase := .settling .polarity } }

/-- R5: the next attempt, at once within a level, after the excitation settle across levels. -/
def Scanner.stepRange (x : Scanner) (m : Measurement) (r : Fin 4) : Scanner :=
  { x with
    excitation := rangeLevel r
    measurement :=
      some
        { m with
          range := r, attempt := m.attempt + 1
          phase := if x.excitation = rangeLevel r then .counting else .settling .excitation } }

/-- R4: the end of a positive count. -/
def State.positiveCount (s : State) (m : Measurement) (n : Nat) : State :=
  match decide4 n m.range m.attempt with
  | .ends outcome => s.endMeasurement m outcome n none
  | .negativePart => s.setScanner (s.scanner.reverse m n)
  | .nextAttempt r => s.setScanner (s.scanner.stepRange m r)

/-- R6: the outcome of a negative count. -/
def negativeOutcome (n : Nat) : Outcome :=
  match countBand n with
  | .inWindow => .pair
  | .low | .high => .polarized

/-- R1: the count in progress ends with n. -/
def State.countEnds (s : State) (n : Nat) : State :=
  match s.scanner.measurement with
  | some m =>
    match m.phase, m.nPlus with
    | .counting, none => s.positiveCount m n
    | .counting, some nPlus => s.endMeasurement m (negativeOutcome n) nPlus (some n)
    | .settling _, _ => s
  | none => s

/-- R3, R5, R6: the settle in progress ends and the count starts. -/
def State.settleEnds (s : State) : State :=
  match s.scanner.measurement with
  | some m =>
    match m.phase with
    | .settling _ => s.setScanner { s.scanner with measurement := some { m with phase := .counting } }
    | .counting => s
  | none => s

/-- A probe is under measurement. -/
def State.underMeasurement (s : State) (p : Fin 48) : Bool := s.scanner.measurement.any fun m => decide (m.probe = p)

/-- R19: a request for the probe under measurement discards the measurement; the scanner goes on above it. -/
def State.discardFor (s : State) (p : Fin 48) : State := if s.underMeasurement p then s.advanceScan p else s

/-- R20: the PROBES block reset discards whatever measurement is in progress. -/
def State.discardAny (s : State) : State :=
  match s.scanner.measurement with
  | some m => s.advanceScan m.probe
  | none => s

/-! ### The scan timer and the scan settings (R12, R17, R18) -/

/-- R12: the scan timer at a minute event. -/
def Scanner.countMinute (x : Scanner) (enable : Bool) (interval : Nat) : Scanner :=
  if enable && decide (x.state ≠ .off) && decide (x.timer < interval) then { x with timer := x.timer + 1 } else x

/-- R12: the timer has reached the interval and the expiry is still to be taken. -/
def State.scanExpiryDue (s : State) : Bool :=
  s.settings.scanEnable && decide (s.settings.scanInterval ≤ s.scanner.timer) &&
    match s.scanner.state with
    | .waiting => true
    | .scanning => !s.scanner.startDue
    | .off => false

/-- R12: the expiry: a scan starts, or start-due is set. -/
def State.takeScanExpiry (s : State) : State :=
  if s.scanExpiryDue then
    match s.scanner.state with
    | .waiting => s.startScan
    | .scanning => s.setScanner { s.scanner with startDue := true }
    | .off => s
  else s

/-- R17: scan enable goes from OFF to ON. -/
def State.scanEnabled (s : State) : State :=
  match s.scanner.state with
  | .off => s.startScan
  | .scanning => s.setScanner { s.scanner with timer := 0 }
  | .waiting => s

/-- R17: scan enable goes from ON to OFF. -/
def State.scanDisabled (s : State) : State :=
  match s.scanner.state with
  | .waiting => s.setScanner { s.scanner with state := .off, timer := 0, startDue := false }
  | .scanning => s.setScanner { s.scanner with timer := 0, startDue := false }
  | .off => s

/-- R18: the scan interval has changed. -/
def State.intervalChanged (s : State) : State :=
  match s.scanner.state with
  | .waiting => if s.settings.scanInterval ≤ s.scanner.timer then s.startScan else s
  | .scanning =>
    if s.settings.scanEnable && decide (s.settings.scanInterval ≤ s.scanner.timer) then
      s.setScanner { s.scanner with startDue := true }
    else s
  | .off => s

/-- R15, R17, R18: an accepted write of SCAN_CONFIG. Where one write changes both the enable and the interval, R17 acts
before R18, so a write in WAITING that turns the enable OFF starts no scan: MODEL's choice (log 21). -/
def State.writeScanConfig (s : State) (interval : Nat) (enable : Bool) (tolerance : Nat) : State :=
  let s' :=
    { s with
      settings := { s.settings with scanInterval := interval, scanEnable := enable, polarityTolerance := tolerance } }
  let s' :=
    match s.settings.scanEnable, enable with
    | false, true => s'.scanEnabled
    | true, false => s'.scanDisabled
    | true, true | false, false => s'
  if interval = s.settings.scanInterval then s' else s'.intervalChanged

/-- R21: the SCANNER block reset. -/
def State.resetScanner (s : State) : State :=
  { s with
    scanner :=
      { s.scanner with
        state := if s.settings.scanEnable then .waiting else .off
        excitation := .off, polarity := .positive, measurement := none, timer := 0, startDue := false }
    probes := mapTable (fun r => { r with rangeMemory := 1 }) s.probes }

end Sys2Proof.Machine
end

