-- ==== Sys2Proof/Machine/StartUp.lean ====
section
/-! DEFINITION. Start-up, the settings memory and restarts (chapter 11): power-on, the loader, READY, the ends of
writes, the restart, and the loss of the supply. -/

namespace Sys2Proof.Machine

/-! ### Power-on values -/

/-- R171, R177: every block's power-on values, the live levels those of the contacts as they stand (R143). The straps,
the Part Clock, the History Ring, the settings memory and the waiting commands are left to the caller. -/
def State.powerOnBlocks (s : State) (contacts : Inputs Bool) : State :=
  { s with
    ready := false
    settings := .default
    scanner := .powerOn
    probes := Vector.replicate 48 .cleared
    statistics := .powerOn
    schedule := .powerOn
    run := .cleared
    sampler := .powerOn
    zones := .replicate .powerOn
    outputs := .replicate .powerOn
    fans := .powerOn
    interlocks := interlocksPowerOn contacts
    notices := []
    link := .powerOn
    due := .none }

/-- The live levels, as the contacts stand filtered (R144). -/
def State.liveLevels (s : State) : Inputs Bool := s.interlocks.map fun _ r => r.live

/-- R143: the contacts as they stand at a restart. The part keeps only their filtered levels, from which a contact within
its 20 ms differs, so each is a free value (log 6). -/
def State.contactsNow (s : State) : Inputs Bool :=
  s.interlocks.map fun i _ => Config.contactAtRestart s.draws i.number

/-! ### The supply (R171, R175) -/

/-- R175: what a power loss during a write leaves of the two regions. -/
def Memory.tear (m : Memory) (t : Tear) : Memory :=
  match m.op with
  | .checkpointWrite _ _ =>
    { m with
      checkpointRegion :=
        match t with
        | .writing => .writing
        | .crcDisagrees => .crcDisagrees }
  | .saveWrite _ => { m with settingsRegion := .crcDisagrees }
  | .none | .load => m

/-- The controller with nothing in flight and both slots empty. -/
def Memory.emptied (m : Memory) : Memory :=
  { m with op := .none, pendingCheckpoint := none, pendingSave := none, loadWaits := false }

/-- The supply is lost: everything but the external memory is gone (log 6). The work still due has been taken before, by
the command (log 2). -/
def State.losePower (s : State) (t : Tear) : State :=
  { s.powerOnBlocks s.liveLevels with
    powered := false, clock := { minute := 0, second := 0 }, history := .powerOn, memory := (s.memory.tear t).emptied }

/-- R171: power-on: the straps are latched, every block takes its power-on values, the load starts. A part that was
powered loses what a power loss would (log 6). -/
def State.takePowerOn (s : State) (straps : Straps) (contacts : Inputs Bool) : State :=
  { (s.losePower .writing) with
    powered := true, straps, interlocks := interlocksPowerOn contacts
    memory := { (s.memory.tear .writing).emptied with op := .load } }

/-! ### The loader (R173, R174) -/

/-- The causes of SETTINGS_DEFAULTED (R173). -/
inductive DefaultCause
  | absent | unreadable | version | crc | skipped
  deriving DecidableEq, Repr

/-- R173's codes. -/
def DefaultCause.code : DefaultCause → Nat
  | .absent => 1
  | .unreadable => 2
  | .version => 3
  | .crc => 4
  | .skipped => 5

/-- What the settings region gives (R173). -/
inductive SettingsLoad
  | defaulted (cause : DefaultCause)
  | applied (body : Image)
  deriving DecidableEq, Repr

/-- R173: the first outcome that applies. -/
def settingsLoad (skip reads : Bool) (region : SettingsRegion) : SettingsLoad :=
  if skip then .defaulted .skipped
  else if !reads then .defaulted .unreadable
  else
    match region with
    | .unmarked => .defaulted .absent
    | .otherVersion => .defaulted .version
    | .crcDisagrees => .defaulted .crc
    | .image body => .applied body

/-- R41: a probe as the image loads it. -/
def SavedProbe.record (x : SavedProbe) : ProbeRecord :=
  match x.assignment with
  | none => .cleared
  | some a => { ProbeRecord.assigned a with state := if x.blocked then .blocked else .new }

/-- R173: what the settings load does. -/
def State.applySettings (s : State) : SettingsLoad → State
  | .defaulted cause => s.queueNotice .settingsDefaulted cause.code 0
  | .applied body => { s with settings := body.settings, probes := mapTable SavedProbe.record body.probes }

/-- What the checkpoint region gives (R174). -/
inductive RunLoad
  | idle
  | lost
  | restored (body : CheckpointBody)
  deriving DecidableEq, Repr

/-- R174: the first outcome that applies; the region is not read after causes 2 and 5 of R173. -/
def runLoad (settings : SettingsLoad) (reads : Bool) (region : CheckpointRegion) : RunLoad :=
  match settings with
  | .defaulted .unreadable | .defaulted .skipped => .idle
  | .defaulted .absent | .defaulted .version | .defaulted .crc | .applied _ =>
    if reads then
      match region with
      | .noHeader | .noRun => .idle
      | .writing | .crcDisagrees => .lost
      | .run body => .restored body
    else .lost

/-- R82: the run record of a restored run. -/
def CheckpointBody.run (b : CheckpointBody) : Run :=
  { Run.cleared with
    state := .held, reasons := HoldSet.empty.put .restored true, stepIndex := some b.stepIndex,
    stepMinutes := b.stepMinutes, totalMinutes := b.totalMinutes, mcMet := b.mcMet, timeoutTaken := b.timeoutTaken,
    equalizeEntered := b.equalizeEntered, spread := b.spread, restored := true }

/-- R174: a run restored. -/
def State.restoreRun (s : State) (b : CheckpointBody) : State :=
  let s :=
    { s with
      schedule := { bufferA := b.schedule, bufferB := [], active := .a, adoption := none }
      run := b.run }
  let s :=
    match s.currentStep with
    | none => s
    | some step => (s.zonesTakeStep step fun z => (b.origins.get z).getD step.dbTarget).handFans step
  s.queueNotice .runRestored b.stepIndex 0

/-- R174: what the checkpoint load does. -/
def State.applyRun (s : State) : RunLoad → State
  | .idle => s
  | .lost => s.queueNotice .checkpointLost 0 0
  | .restored b => s.restoreRun b

/-! ### READY (R133, R135, R148, R171) -/

/-- What happens at READY, in any order (log 4). -/
inductive ReadyAction
  | scanStart
  | trip (input : Input)
  | fanStart
  deriving DecidableEq, Repr

/-- R22, R148, R135: the actions of READY: the scan start, the trips, the fan start. -/
def State.readyActions (s : State) : List ReadyAction :=
  (if s.settings.scanEnable then [.scanStart] else []) ++
  (Input.all.filter fun i => s.judged i && !s.conforms i).map .trip ++
  (if s.run.state.going then [.fanStart] else [])

/-- One action of READY; the fan start is judged when it is taken (R148). -/
def State.takeReadyAction (s : State) : ReadyAction → State
  | .scanStart => s.startScan
  | .trip i => s.trip i
  | .fanStart => s.fansFollowRun

/-- R171: READY is reached: the outputs become driven, and the actions follow in an order nothing fixes. -/
def State.reachReady (s : State) : State :=
  let s := { s with ready := true, sampler := { s.sampler with timer := 0, mark := .none } }.refreshOutputs
  let actions := s.readyActions
  (arrange (Config.readyPick s.draws) actions.length actions).foldl State.takeReadyAction
    { s with draws := s.draws + actions.length }

/-- R171, R173, R174: the load ends. -/
def State.endLoad (s : State) (settingsReads checkpointReads : Bool) : State :=
  let settings := settingsLoad s.straps.skipSettings settingsReads s.memory.settingsRegion
  let run := runLoad settings checkpointReads s.memory.checkpointRegion
  let s := ((s.applySettings settings).applyRun run)
  { s with memory := s.memory.startNext }.reachReady

/-! ### Writes (R175) -/

/-- The checkpoint region after a write of `contents` over `before` that ends so. -/
def checkpointEndRegion (contents : Checkpoint) (before : CheckpointRegion) : CheckpointEnd → CheckpointRegion
  | .agrees | .failsAsWritten => contents.region
  | .failsAsBefore => before
  | .failsNoHeader => .noHeader
  | .failsWriting => .writing
  | .failsCrc => .crcDisagrees

/-- The settings region after a write of `contents` over `before` that ends so. -/
def saveEndRegion (contents : Image) (before : SettingsRegion) : SaveEnd → SettingsRegion
  | .agrees | .failsAsWritten => .image contents
  | .failsAsBefore => before
  | .failsUnmarked => .unmarked
  | .failsVersion => .otherVersion
  | .failsCrc => .crcDisagrees

/-- R175: a checkpoint write ends, with no notice. -/
def State.endCheckpointWrite (s : State) (result : CheckpointEnd) : State :=
  match s.memory.op with
  | .checkpointWrite contents before =>
    { s with memory := ({ s.memory with checkpointRegion := checkpointEndRegion contents before result }).startNext }
  | .none | .load | .saveWrite _ => s

/-- R175: the notice of a save write's end. -/
def saveEndNotice : SaveEnd → NoticeKind
  | .agrees => .saveDone
  | .failsAsWritten | .failsAsBefore | .failsUnmarked | .failsVersion | .failsCrc => .saveFailed

/-- R175, R177: a save write ends, with its notice unless a restart has been taken since. -/
def State.endSaveWrite (s : State) (result : SaveEnd) : State :=
  match s.memory.op with
  | .saveWrite contents =>
    let s' :=
      { s with memory := ({ s.memory with settingsRegion := saveEndRegion contents s.memory.settingsRegion result }).startNext }
    if s.memory.loadWaits then s' else s'.queueNotice (saveEndNotice result) 0 0
  | .none | .load | .checkpointWrite _ _ => s

/-! ### The restart (R177) -/

/-- R177: the load waits for the operation in flight and the pending checkpoint; the pending save is dropped. -/
def Memory.restart (m : Memory) : Memory :=
  let m := { m with pendingSave := none, loadWaits := true }
  match m.op with
  | .none => m.startNext
  | .load | .checkpointWrite _ _ | .saveWrite _ => m

/-- R177: the restart is taken, with the live levels of the contacts as they stand (R143). -/
def State.restartNow (s : State) : State :=
  { s.powerOnBlocks s.contactsNow with memory := s.memory.restart, draws := s.draws + 1 }

/-- R165, R177: a restart waits, and the reply to RESTART_PART has been sent. -/
def State.restartIsDue (s : State) : Bool := s.link.restart && decide (s.link.receiver ≠ .answering)

/-- R177: a restart that is due is taken. -/
def State.takeRestart (s : State) : State := if s.restartIsDue then s.restartNow else s

end Sys2Proof.Machine
end

