-- ==== Sys2Proof/Machine/Due.lean ====
section
/-! DEFINITION. The Part Clock (R172), the work that follows from an event already taken (log 2), the frame of one
event, and the tick of an idle part (log 3). -/

namespace Sys2Proof.Machine

/-! ### Work that is due (log 2) -/

/-- R139: a coast that is over ends. -/
def State.takeCoastEnd (s : State) : State := if s.coastIsOver then s.endCoast else s

/-- R137: a start-confirm window that is over expires. -/
def State.takeConfirmExpiry (s : State) : State := if s.confirmIsOver then s.expireConfirm else s

/-- R87, R106: the rest of a minute event already taken: the hours part, the SETTLED timer, the timeout, the hourly
checkpoint, and the one checkpoint request of the event. -/
def State.takeMinuteWork (s : State) : State := (s.takeTimeout.takeHourCheckpoint).finishEvent

/-- Everything that follows from the events already taken and has no command of its own in front of it, in the order of
log 2: a minute event is finished before any other event is taken. -/
def State.takeDue (s : State) : State :=
  (((((s.takeMinuteWork.takeCoastEnd).takeConfirmExpiry).takeScanExpiry).checkReversal).finishEvent).takeRestart

/-- What is due of a part with supply has been taken. -/
def State.caughtUp (s : State) : State := if s.powered then s.takeDue else s

/-! ### The frame of one event -/

/-- One event of a powered part: what is due, the event, and the checkpoint it asked for. A part without supply takes
nothing (log 6). -/
def State.event (s : State) (f : State → State) : State := if s.powered then (f s.takeDue).finishEvent else s

/-- An event that is itself due work: it takes its own part and leaves the rest (log 2). -/
def State.dueEvent (s : State) (f : State → State) : State := if s.powered then (f s).finishEvent else s

/-- An event that is itself due work and may change the run: a minute event already taken is finished before it (R87,
log 2). -/
def State.afterMinute (s : State) (f : State → State) : State := s.dueEvent fun t => f t.takeMinuteWork

/-! ### The Part Clock (R172) -/

/-- R172: the clock at a second event. -/
def Clock.tick (c : Clock) : Clock :=
  if c.second < 59 then { c with second := c.second + 1 } else { minute := (c.minute + 1) % 4294967296, second := 0 }

/-- R109: the tenth second event since the last brings a sample set, unless it has been taken just before (log 2). -/
def Sampler.countSecond (x : Sampler) : Sampler :=
  if x.timer < 9 then { x with timer := x.timer + 1 }
  else
    { x with
      timer := 0
      mark :=
        match x.mark with
        | .early => .none
        | .none | .due => .due }

/-- R172: a minute event: the scan timer, the run clocks and the reversal timer. -/
def State.countMinute (s : State) : State :=
  { s with
    scanner := s.scanner.countMinute s.settings.scanEnable s.settings.scanInterval
    fans := s.fans.countMinute }.runCountMinute

/-- R172: a second event; at the 60th it is also a minute event. -/
def State.countSecond (s : State) : State :=
  let s' :=
    { s with
      clock := s.clock.tick
      fans := s.fans.countSecond
      sampler := if s.ready then s.sampler.countSecond else s.sampler }
  if s.clock.second < 59 then s' else s'.countMinute

/-- R109: a sample set may be taken: its second event is past, or comes next (log 2). -/
def Sampler.setIsDue (x : Sampler) : Bool :=
  match x.mark with
  | .due => true
  | .none => decide (x.timer = 9)
  | .early => false

/-- The mark once a set has been taken. -/
def Sampler.takeMark (x : Sampler) : Sampler :=
  { x with
    mark :=
      match x.mark with
      | .due => .none
      | .none | .early => .early }

/-- R109: a sample set: channels, loops and demands, forcing, and the Run Controller. -/
def State.takeSet (s : State) (samples : Zones ZoneSamples) : State :=
  ((({ s with sampler := s.sampler.takeMark }.sampleChannels samples).zonesTakeSet).refreshOutputs).runTakeSet

/-! ### An empty queue (log 3) -/

/-- With no command waiting, what is due is taken and a tenth of a second passes for the valves. -/
def State.idle (s : State) : State := if s.powered then (s.takeDue.finishEvent).tickValves else s

end Sys2Proof.Machine
end

