-- ==== Sys2Proof/Machine/Replies.lean ====
section
/-! DEFINITION. What a reply carries: the status (R166), and the request-specific parts in their byte forms (R169, R170;
log 13 for the codes and orders those rules leave to be inferred). -/

namespace Sys2Proof.Machine

/-! ### Statuses (R166) -/

/-- The statuses of R166, in the order of their codes. -/
inductive Status
  | ok | notReady | unknownRequest | badLength | badValue | wrongState | busy | invalidSchedule | adoptionPending
  | tripped | stillNonconforming | noSchedule | noZone | inUse | empty
  deriving DecidableEq, Repr

/-- R166. -/
def Status.code : Status → Nat
  | .ok => 0
  | .notReady => 1
  | .unknownRequest => 2
  | .badLength => 3
  | .badValue => 4
  | .wrongState => 5
  | .busy => 6
  | .invalidSchedule => 7
  | .adoptionPending => 8
  | .tripped => 9
  | .stillNonconforming => 10
  | .noSchedule => 11
  | .noZone => 12
  | .inUse => 13
  | .empty => 14

/-- What a block returns for a reply (R166): the status, its detail, and the request-specific part. -/
structure Reply where
  status : Status
  detail : List Byte
  body : List Byte
  deriving DecidableEq, Repr

/-- A status without a detail, and a request-specific part. -/
def Reply.of (status : Status) (body : List Byte) : Reply := { status, detail := [], body }

/-- A reply that carries the header alone. -/
def Reply.bare (status : Status) : Reply := .of status []

/-- BAD_VALUE with its field number, and a request-specific part. -/
def Reply.badField (field : Nat) (body : List Byte) : Reply := { status := .badValue, detail := byte1 field, body }

/-- INVALID_SCHEDULE with its step index and reason, and a request-specific part. -/
def Reply.invalid (step : Nat) (reason : InvalidReason) (body : List Byte) : Reply :=
  { status := .invalidSchedule, detail := byte1 step ++ byte1 reason.code, body }

/-- A list on the link: a 1-byte count, then the entries (R169). -/
def counted {α : Type} (f : α → List Byte) (xs : List α) : List Byte := byte1 xs.length ++ xs.flatMap f

/-! ### IDENTIFY and STATUS (R167, R168) -/

/-- The link address (R162). -/
def State.linkAddress (s : State) : Nat := s.straps.address.toNat + 1

/-- R167. -/
def State.identifyPart (s : State) : List Byte :=
  byte1 0x26 ++ byte2 2648 ++ byte1 (Config.siliconRevisionLessOne.val + 1) ++ byte2 0x4B39 ++ byte1 s.linkAddress ++
  byte1 s.straps.baud.toNat

/-- R168: the trip latch mask. -/
def State.latchMask (s : State) : Nat :=
  (Input.all.map fun i => if (s.input i).latch then 2 ^ (i.number - 1) else 0).sum

/-- R168. -/
def State.statusPart (s : State) : List Byte :=
  flag1 s.ready ++ byte4 s.clock.minute ++ byte1 s.scanner.state.code ++ byte2 s.scanner.scanNumber ++
  byte1 s.fans.state.code ++ byte1 s.latchMask ++ byte1 s.history.frames.length ++ byte1 s.memory.op.code ++
  flag1 s.memory.pendingCheckpoint.isSome ++ flag1 s.memory.pendingSave.isSome ++ flag1 s.ready

/-! ### Probes, statistics, scanner, curves -/

/-- R170: the last reading of a probe entry. -/
def readingBytes : Option Reading → List Byte
  | some x =>
    byte1 x.kind.code ++ optByte2 x.l ++ optByte2 (x.lc.map Int.toNat) ++ optByte2 x.mc ++ byte1 x.clamp.code ++ byte4 x.minute
  | none => byte1 0xFF ++ byte2 0xFFFF ++ byte2 0xFFFF ++ byte2 0xFFFF ++ byte1 0xFF ++ byte4 0xFFFFFFFF

/-- R55, R170: the probe entry. -/
def State.probePart (s : State) (p : Fin 48) : List Byte :=
  let r := s.probe p
  byte1 (probeNumber p) ++ byte1 ((r.assignment.map fun a => a.zone.number).getD 0) ++
  optByte1 (r.assignment.map fun a => a.group.val) ++ optByte1 (r.assignment.map fun a => a.role.code) ++
  byte1 r.state.code ++ byte1 r.faultCount ++ byte1 r.jumpCount ++ optByte1 (r.faultKind.map FaultKind.code) ++
  byte1 r.rangeMemory.val ++ flag1 (s.underMeasurement p) ++ optByte2 r.filtered ++ counted byte2 r.values ++
  readingBytes r.last

/-- R60: the four control settings. -/
def State.probeConfigPart (s : State) : List Byte :=
  byte1 s.settings.w ++ byte1 s.settings.q ++ byte1 s.settings.jumpLimit ++ byte1 s.settings.quorumAction.code

/-- R61: a publication without its per-probe entries. The controlling set, up to 16 of 48 probe numbers in the order of R57,
goes as a list with its count and not as the 1-byte mask that R169 gives a set: MODEL's choice (log 13). -/
def Publication.part (p : Publication) : List Byte :=
  byte2 p.scanNumber ++ byte4 p.minute ++ byte1 p.w ++ byte1 p.q ++ byte1 p.eligible ++ byte1 p.quorum.code ++
  counted (fun q => byte1 (probeNumber q)) ((p.figures.map (·.controllingSet)).getD []) ++
  optByte2 (p.figures.map (·.controlling)) ++ optByte2 (p.figures.map (·.wettest)) ++
  optByte2 (p.figures.map (·.driest)) ++ optByte2 (p.figures.map (·.mean))

/-- R16. -/
def State.scanConfigPart (s : State) : List Byte :=
  byte1 s.settings.scanInterval ++ flag1 s.settings.scanEnable ++ byte1 s.settings.polarityTolerance ++
  byte1 s.scanner.state.code ++ byte2 s.scanner.scanNumber ++ byte1 s.scanner.timer ++ flag1 s.scanner.startDue ++
  byte1 s.scanner.excitation.code ++ optByte1 (s.scanner.measurement.map fun m => probeNumber m.probe)

/-- R36. -/
def State.curvePart (s : State) (g : Fin 8) : List Byte :=
  byte1 g.val ++ flag1 (s.curve g).isSome ++ optByte1 ((s.curve g).map (·.coefficient)) ++
  counted (fun p => byte2 p.lc ++ byte2 p.mc) (((s.curve g).map (·.points)).getD []) ++ byte1 (s.naming g)

/-! ### Schedules and the run -/

/-- A pending adoption record, each field absent when the record is (R169). -/
def adoptionBytes (a : Option Adoption) : List Byte :=
  optByte1 (a.map (·.target)) ++ optByte1 (a.map fun x => if x.restart then 1 else 0)

/-- R66: the schedule summary. -/
def State.summary (s : State) : List Byte :=
  byte1 s.schedule.active.code ++ byte1 s.schedule.activeSteps.length ++ byte1 s.schedule.editSteps.length ++
  adoptionBytes s.schedule.adoption

/-- The completion record, each field absent when the record is (R169). -/
def completionBytes (c : Option Completion) : List Byte :=
  optByte4 (c.map (·.totalMinutes)) ++ optByte2 (c.bind (·.controlling)) ++ optByte2 (c.bind (·.driest)) ++
  optByte2 (c.bind (·.mean))

/-- R105: the run record in the form of RUN_GET. -/
def State.runPart (s : State) : List Byte :=
  let r := s.run
  byte1 r.state.code ++ counted (fun x => byte1 (HoldReason.code x)) r.reasons.members ++ optByte1 r.stepIndex ++
  byte4 r.stepMinutes ++ byte4 r.totalMinutes ++ flag1 r.mcMet ++ flag1 r.timeoutTaken ++ flag1 r.inBand ++
  flag1 r.equalizeEntered ++ flag1 r.restored ++ byte1 r.settleTimer ++ optByte2 r.spread ++
  completionBytes r.completion ++ adoptionBytes s.schedule.adoption

/-! ### Zones -/

/-- R108, R124: a channel record with its channel number, which stands before the record's fields; fitted is a flag, 1
when fitted. Both are MODEL's choice (log 13). -/
def channelBytes (z : ZoneId) (role : Nat) (fitted : Bool) (c : Channel) : List Byte :=
  byte1 (dbChannel z + role) ++ byte1 z.number ++ byte1 role ++ flag1 fitted ++ optSigned2 c.last ++
  optSigned2 c.published ++ byte1 c.state.code ++ byte1 c.badCount ++ byte1 c.goodCount ++
  optByte1 (c.cause.map BadCause.code)

/-- R124: a loop's mode, manual value, integrator, demand and condition. -/
def loopBytes (mode : LoopMode) (manual : Int) (x : Loop) : List Byte :=
  byte1 mode.code ++ signed2 manual ++ signed2 x.integrator ++ signed2 x.demand ++ byte1 x.condition.code

/-- R114: the step targets, origin, SP and SP_WB, each present or absent. An absent depression, whose range holds no
negative value, is 0xFFFF: MODEL's choice (log 13). -/
def rampBytes (r : Option Ramp) : List Byte :=
  optSigned2 (r.map fun x => (x.dbTarget : Int)) ++ optByte2 (r.map (·.depression)) ++ optByte2 (r.map (·.rampRate)) ++
  optByte1 (r.map fun x => x.kind.code) ++ optSigned2 (r.map (·.origin)) ++ optSigned2 (r.map (·.setpoint)) ++
  optSigned2 (r.map Ramp.wetSetpoint)

/-- R123: a zone's settings; active and fitted are flags, 1 when set: MODEL's choice (log 13). -/
def ZoneSettings.bytes (g : ZoneSettings) : List Byte :=
  flag1 g.active ++ flag1 g.woodFitted ++ byte1 g.heatKp ++ byte1 g.heatKi ++ byte1 g.humidityKp ++
  byte1 g.humidityKi ++ byte1 g.heatMode.code ++ byte1 g.humidityMode.code ++ signed2 g.heatManual ++
  signed2 g.humidityManual

/-- R124: the zone in the form of ZONE_GET. The three channel records and the two loops go without a count: MODEL's choice
(log 13). -/
def State.zonePart (s : State) (z : ZoneId) : List Byte :=
  let g := s.zoneSettings z
  let c := s.channels z
  let x := s.zone z
  g.bytes ++ byte1 s.settings.settleBand ++ channelBytes z 0 true c.db ++ channelBytes z 1 true c.wb ++
  channelBytes z 2 g.woodFitted c.wood ++ optSigned2 c.publishedWb ++ rampBytes x.ramp ++
  loopBytes g.heatMode g.heatManual x.heat ++ loopBytes g.humidityMode g.humidityManual x.humidity ++
  byte2 x.sprayDemand ++ byte2 x.ventDemand

/-! ### Fans and outputs -/

/-- R127: a valve record: output (ON, OFF), cycle state (FORCED, CYCLING), forcing set, demand, and the cycle. -/
def Valve.bytes (v : Valve) : List Byte :=
  byte1 (if v.output then 0 else 1) ++ byte1 (if v.forcing.any then 0 else 1) ++ byte1 v.forcing.mask ++
  byte2 v.demand ++ optByte1 (v.cycle.map (·.period)) ++ optByte2 (v.cycle.map (·.elapsed)) ++
  optByte2 (v.cycle.map (·.onTime))

/-- R132: a vent's condition, demand and commanded current. -/
def Vent.bytes (v : Vent) : List Byte := byte1 v.condition.code ++ byte2 v.demand ++ byte2 v.current

/-- The sequencer's figures of R141; the confirmed flag is 1 when set: MODEL's choice (log 13). -/
def Fans.bytes (f : Fans) : List Byte :=
  byte1 f.state.code ++ byte1 f.direction.code ++ byte1 f.speed.code ++ byte2 f.reversalInterval ++
  byte2 f.reversalTimer ++ byte2 f.coastTimer ++ byte1 f.confirmTimer ++ flag1 f.confirmed ++
  byte1 (if f.expectRunning then 0 else 1) ++ byte1 (if f.compareActive then 0 else 1)

/-- R141: the settings and figures of FAN_CONFIG. The valves go zone by zone, heat before spray, and the eight valves and
four vents carry no count: MODEL's choice (log 13). -/
def State.fanConfigPart (s : State) : List Byte :=
  byte1 s.settings.startConfirmWindow ++ byte2 s.settings.coastTime ++ byte1 s.settings.heatPeriod ++
  byte1 s.settings.sprayPeriod ++ byte2 s.settings.ventSafePosition ++ s.fans.bytes ++
  ZoneId.all.flatMap (fun z => (s.outputs.get z).heat.bytes ++ (s.outputs.get z).spray.bytes) ++
  ZoneId.all.flatMap (fun z => (s.outputs.get z).vent.bytes) ++ flag1 s.ready

/-! ### Interlocks -/

/-- The comparison of an input: ACTIVE 0, SUSPENDED 1, OFF 2 (R143). -/
def State.comparisonCode (s : State) (i : Input) : Nat :=
  if s.comparisonActive i then 0 else if i = .fanRun then 1 else 2

/-- A level's code, as R149 gives it for the expected level: 0 open, 1 closed (log 13). -/
def levelCode (closed : Bool) : Nat := if closed then 1 else 0

/-- R152: an input's record; the latch is a flag, 1 when set: MODEL's choice (log 13). -/
def State.inputPart (s : State) (i : Input) : List Byte :=
  byte1 i.number ++ byte1 (levelCode (s.input i).live) ++ byte1 (levelCode (s.expectedClosed i)) ++
  (if i = .fanRun then [] else flag1 (s.settings.interlocks.get i).compare) ++ byte1 (s.comparisonCode i) ++
  byte1 (s.inputLevel i) ++ flag1 (s.conforms i) ++ flag1 (s.judged i) ++ flag1 (s.input i).latch ++
  optByte4 (s.input i).trippedAt

/-! ### History and notices (R170) -/

/-- R170: a zone entry of a frame. -/
def ZoneEntry.bytes (x : ZoneEntry) : List Byte := byte1 x.zone.number ++ optSigned2 x.db ++ optSigned2 x.wb

/-- R170: a probe entry of a frame. -/
def ProbeEntry.bytes (x : ProbeEntry) : List Byte :=
  byte1 (probeNumber x.probe) ++ byte1 x.state.code ++ optByte2 x.filtered

/-- R170: a history frame. -/
def Frame.bytes (f : Frame) : List Byte :=
  byte2 f.sequence ++ byte4 f.minute ++ byte2 f.scanNumber ++ byte1 f.runState.code ++ optByte1 f.stepIndex ++
  byte1 f.eligible ++ optByte2 (f.figures.map (·.controlling)) ++ optByte2 (f.figures.map (·.wettest)) ++
  optByte2 (f.figures.map (·.driest)) ++ optByte2 (f.figures.map (·.mean)) ++ flag1 f.slip ++ byte1 f.zones.length ++
  byte1 f.probes.length ++ f.zones.flatMap ZoneEntry.bytes ++ f.probes.flatMap ProbeEntry.bytes

/-- R170: a notice. -/
def Notice.bytes (n : Notice) : List Byte :=
  byte1 n.kind.code ++ flag1 n.lostBefore ++ byte4 n.minute ++ byte2 n.argA ++ byte2 n.argB

end Sys2Proof.Machine
end

