-- ==== Sys2Proof/Machine/ProbeRequests.lean ====
section
/-! DEFINITION. The requests to the Link Interface itself, the Probe Table, the Probe Scanner and the Moisture
Arithmetic: for each, the checks of its payload and its effect. A handler answers with the state once the request has
been taken and with what the block returns for the reply (R165). -/

namespace Sys2Proof.Machine

/-! ### IDENTIFY and STATUS -/

/-- R167. -/
def handleIdentify (payload : List Byte) (s : State) : State × Reply :=
  match payload with
  | [] => (s, .of .ok s.identifyPart)
  | _ :: _ => (s, .bare .badLength)

/-- R168. -/
def handleStatus (payload : List Byte) (s : State) : State × Reply :=
  match payload with
  | [] => (s, .of .ok s.statusPart)
  | _ :: _ => (s, .bare .badLength)

/-! ### Refused lengths -/

/-- A payload of a length its rule refuses, where the rule's replies, refused too, carry the record they name (R43, R53,
R121, and by log 12 R123 and R149): the record that the first byte names, or the header alone where it names none. -/
def refusedLength {α : Type} (named : Nat → Option α) (part : α → List Byte) (payload : List Byte) : Reply :=
  match payload.head? with
  | some b => .of .badLength (((named b.toNat).map part).getD [])
  | none => .bare .badLength

/-! ### Probe Table -/

/-- The role a request names. -/
def roleOfNumber : Nat → Option Role
  | 0 => some .control
  | 1 => some .watch
  | _ => none

/-- A reply that carries a probe's record as it stands after the request (R43, R53). -/
def probeReply (status : Status) (p : Fin 48) (s : State) : State × Reply := (s, .of status (s.probePart p))

/-- R19, R42: the record of a probe replaced by a request; a measurement of it is discarded. -/
def State.replaceRecord (s : State) (p : Fin 48) (r : ProbeRecord) : State := (s.setProbe p r).discardFor p

/-- R42: a group of 0 to 7 that is loaded. -/
def State.loadedGroup (s : State) (n : Nat) : Option (Fin 8) := (groupOfNumber n).filter fun g => (s.curve g).isSome

/-- R42, R43: PROBE_SET. -/
def handleProbeSet (payload : List Byte) (s : State) : State × Reply :=
  match payload with
  | [probe, zone, group, role] =>
    match probeOfNumber probe.toNat with
    | none => (s, .badField 1 [])
    | some p =>
      if zone = 0 then probeReply .ok p (s.replaceRecord p .cleared)
      else
        match zoneOfNumber zone.toNat, s.loadedGroup group.toNat, roleOfNumber role.toNat with
        | none, _, _ => (s, .badField 2 (s.probePart p))
        | some _, none, _ => (s, .badField 3 (s.probePart p))
        | some _, some _, none => (s, .badField 4 (s.probePart p))
        | some z, some g, some r =>
          probeReply .ok p (s.replaceRecord p (.assigned { zone := z, group := g, role := r }))
  | _ => (s, refusedLength probeOfNumber s.probePart payload)

/-- R51: a payload of one field, a probe; `short` answers a payload of another length. -/
def withProbe (payload : List Byte) (s : State) (short : Reply) (f : Fin 48 → State × Reply) : State × Reply :=
  match payload with
  | [b] =>
    match probeOfNumber b.toNat with
    | some p => f p
    | none => (s, .badField 1 [])
  | _ => (s, short)

/-- R51 to R53: a payload of one field, the probe whose record the reply carries, accepted or refused. -/
def onProbe (payload : List Byte) (s : State) (f : Fin 48 → State × Reply) : State × Reply :=
  withProbe payload s (refusedLength probeOfNumber s.probePart payload) f

/-- R55: PROBE_GET; the record comes with OK, so a refusal carries the header and detail alone (R166). -/
def handleProbeGet (payload : List Byte) (s : State) : State × Reply :=
  withProbe payload s (.bare .badLength) fun p => probeReply .ok p s

/-- R51: PROBE_BLOCK. -/
def handleProbeBlock (payload : List Byte) (s : State) : State × Reply :=
  onProbe payload s fun p =>
    match (s.probe p).state with
    | .unassigned => probeReply .wrongState p s
    | .blocked => probeReply .ok p s
    | .new | .good | .suspect | .faulted => probeReply .ok p (s.replaceRecord p (s.probe p).block)

/-- R52: PROBE_UNBLOCK. -/
def handleProbeUnblock (payload : List Byte) (s : State) : State × Reply :=
  onProbe payload s fun p =>
    match (s.probe p).state with
    | .blocked => probeReply .ok p (s.setProbe p (s.probe p).renew)
    | .unassigned | .new | .good | .suspect | .faulted => probeReply .wrongState p s

/-- R53: PROBE_READMIT. -/
def handleProbeReadmit (payload : List Byte) (s : State) : State × Reply :=
  onProbe payload s fun p =>
    match (s.probe p).state with
    | .faulted => probeReply .ok p (s.replaceRecord p (s.probe p).renew)
    | .unassigned | .new | .good | .suspect | .blocked => probeReply .wrongState p s

/-- The quorum action a request names. -/
def quorumActionOfNumber : Nat → Option QuorumAction
  | 0 => some .hold
  | 1 => some .continue
  | _ => none

/-- R60: PROBE_CONFIG. -/
def handleProbeConfig (payload : List Byte) (s : State) : State × Reply :=
  match payload with
  | [] => (s, .of .ok s.probeConfigPart)
  | [w, q, j0, j1, a] =>
    match firstBad [(1, inRange 1 16 w.toNat), (2, inRange 1 48 q.toNat), (3, inRange 10 200 (read2 j0 j1))],
      quorumActionOfNumber a.toNat with
    | some field, _ => (s, .badField field s.probeConfigPart)
    | none, none => (s, .badField 4 s.probeConfigPart)
    | none, some action =>
      let s' :=
        { s with
          settings :=
            { s.settings with w := w.toNat, q := q.toNat, jumpLimit := read2 j0 j1, quorumAction := action } }
      (s', .of .ok s'.probeConfigPart)
  | _ => (s, .of .badLength s.probeConfigPart)

/-- R61: STATS_GET. -/
def handleStatsGet (payload : List Byte) (s : State) : State × Reply :=
  match payload with
  | [] =>
    match s.statistics.latest with
    | some p => (s, .of .ok p.part)
    | none => (s, .bare .empty)
  | _ :: _ => (s, .bare .badLength)

/-- R62, R20: the PROBES block reset. -/
def State.resetProbes (s : State) : State := { s with probes := mapTable ProbeRecord.tableReset s.probes }.discardAny

/-! ### Probe Scanner -/

/-- R15 to R18: SCAN_CONFIG. -/
def handleScanConfig (payload : List Byte) (s : State) : State × Reply :=
  match payload with
  | [] => (s, .of .ok s.scanConfigPart)
  | [interval, enable, tolerance] =>
    match firstBad
      [(1, inRange 2 60 interval.toNat), (2, inRange 0 1 enable.toNat), (3, inRange 5 50 tolerance.toNat)] with
    | some field => (s, .badField field s.scanConfigPart)
    | none =>
      let s' := s.writeScanConfig interval.toNat (decide (enable.toNat = 1)) tolerance.toNat
      (s', .of .ok s'.scanConfigPart)
  | _ => (s, .of .badLength s.scanConfigPart)

/-- R13: SCAN_NOW. -/
def handleScanNow (payload : List Byte) (s : State) : State × Reply :=
  match payload with
  | [] =>
    match s.scanner.state with
    | .scanning => (s, .of .busy (byte2 s.scanner.scanNumber))
    | .off | .waiting =>
      let s' := s.startScan
      (s', .of .ok (byte2 s'.scanner.scanNumber))
  | _ :: _ => (s, .bare .badLength)

/-! ### Moisture Arithmetic -/

/-- R33: the points of a CURVE_PUT payload. -/
def readPoints : List Byte → List CurvePoint
  | l0 :: l1 :: m0 :: m1 :: rest => ⟨read2 l0 l1, read2 m0 m1⟩ :: readPoints rest
  | _ => []

/-- R33, check 4: the number of the first point field out of range or out of order. -/
def firstBadPoint : Nat → Option CurvePoint → List CurvePoint → Option Nat
  | _, _, [] => none
  | field, before, p :: rest =>
    if !inRange 0 2000 p.lc || before.any (fun q => decide (p.lc ≤ q.lc)) then some field
    else if !inRange 20 600 p.mc || before.any (fun q => decide (q.mc < p.mc)) then some (field + 1)
    else firstBadPoint (field + 2) (some p) rest

/-- R34, R54: a group's curve replaced, and the group replacement at every probe. -/
def State.putCurve (s : State) (g : Fin 8) (c : Curve) : State :=
  { s with
    settings := { s.settings with curves := setTable s.settings.curves g (some c) }
    probes := mapTable (ProbeRecord.replaceGroup g) s.probes }

/-- R35: a group made empty. -/
def State.clearCurve (s : State) (g : Fin 8) : State :=
  { s with settings := { s.settings with curves := setTable s.settings.curves g none } }

/-- R33, R34: CURVE_PUT. R33 leaves "the reply's other fields as they were" at a refusal and names none, so a refusal
carries the header and its detail alone: MODEL's choice (log 12). -/
def handleCurvePut (payload : List Byte) (s : State) : State × Reply :=
  match payload with
  | group :: coefficient :: count :: points =>
    match groupOfNumber group.toNat,
      firstBad [(2, inRange 0 60 coefficient.toNat), (3, inRange 2 12 count.toNat)] with
    | none, _ => (s, .badField 1 [])
    | some _, some field => (s, .badField field [])
    | some g, none =>
      if points.length ≠ 4 * count.toNat then (s, .bare .badLength)
      else
        match firstBadPoint 4 none (readPoints points) with
        | some field => (s, .badField field [])
        | none =>
          (s.putCurve g { coefficient := coefficient.toNat, points := readPoints points },
            .of .ok (byte1 g.val ++ byte1 (s.naming g)))
  | _ => (s, .bare .badLength)

/-- R35: a payload of one field, a group. -/
def withGroup (payload : List Byte) (s : State) (f : Fin 8 → State × Reply) : State × Reply :=
  match payload with
  | [b] =>
    match groupOfNumber b.toNat with
    | some g => f g
    | none => (s, .badField 1 [])
  | _ => (s, .bare .badLength)

/-- R36: CURVE_GET. -/
def handleCurveGet (payload : List Byte) (s : State) : State × Reply :=
  withGroup payload s fun g => (s, .of .ok (s.curvePart g))

/-- R35: CURVE_CLEAR. -/
def handleCurveClear (payload : List Byte) (s : State) : State × Reply :=
  withGroup payload s fun g =>
    if s.naming g = 0 then (s.clearCurve g, .bare .ok) else (s, .of .inUse (byte1 (s.naming g)))

end Sys2Proof.Machine
end

