-- ==== Sys2Proof/Machine/RunRequests.lean ====
section
/-! DEFINITION. The requests to the Schedule Store and the Run Controller: for each, the checks of its payload, its
refusals in order, and its effect. -/

namespace Sys2Proof.Machine

/-! ### Schedule Store -/

/-- R66: a reply to a schedule request: the status and the summary. -/
def scheduleReply (status : Status) (s : State) : State × Reply := (s, .of status s.summary)

/-- The EDIT buffer replaced. -/
def State.setEdit (s : State) (steps : List StepRecord) : State := { s with schedule := s.schedule.setEdit steps }

/-- R67: an edit request whose payload has the right length: the lock, then the edit. -/
def State.edit (s : State) (taken : State × Reply) : State × Reply :=
  if s.schedule.adoption.isSome then scheduleReply .adoptionPending s else taken

/-- R68: SCHED_CLEAR. -/
def handleSchedClear (payload : List Byte) (s : State) : State × Reply :=
  match payload with
  | [] => s.edit (scheduleReply .ok (s.setEdit []))
  | _ :: _ => scheduleReply .badLength s

/-- R69: a step put at an index of the EDIT buffer, or appended. -/
def putStep (steps : List StepRecord) (i : Nat) (x : StepRecord) : List StepRecord :=
  if i < steps.length then steps.set i x else steps ++ [x]

/-- R69: field 1 of SCHED_PUT_STEP: an index up to the count, and below 24. -/
def indexFits (i count : Nat) : Bool := decide (i ≤ count) && decide (i < 24)

/-- R69, R170: SCHED_PUT_STEP. -/
def handleSchedPutStep (payload : List Byte) (s : State) : State × Reply :=
  match payload with
  | index :: bytes =>
    match parseStep bytes with
    | none => scheduleReply .badLength s
    | some raw =>
      s.edit
        (match firstBad ((1, indexFits index.toNat s.schedule.editSteps.length) :: raw.checks), raw.record with
        | some field, _ => (s, .badField field s.summary)
        | none, none => (s, .badField 2 s.summary)
        | none, some x => scheduleReply .ok (s.setEdit (putStep s.schedule.editSteps index.toNat x)))
  | [] => scheduleReply .badLength s

/-- R70: SCHED_TRUNCATE. -/
def handleSchedTruncate (payload : List Byte) (s : State) : State × Reply :=
  match payload with
  | [n] =>
    s.edit
      (if s.schedule.editSteps.length < n.toNat then (s, .badField 1 s.summary)
      else scheduleReply .ok (s.setEdit (s.schedule.editSteps.take n.toNat)))
  | _ => scheduleReply .badLength s

/-- R71: SCHED_COPY_ACTIVE. -/
def handleSchedCopyActive (payload : List Byte) (s : State) : State × Reply :=
  match payload with
  | [] => s.edit (scheduleReply .ok (s.setEdit s.schedule.activeSteps))
  | _ :: _ => scheduleReply .badLength s

/-- R72: the buffer a SCHED_GET_STEP names, by role. -/
def ScheduleStore.byRole (x : ScheduleStore) : Nat → Option (List StepRecord)
  | 0 => some x.activeSteps
  | 1 => some x.editSteps
  | _ => none

/-- R72: SCHED_GET_STEP. -/
def handleSchedGetStep (payload : List Byte) (s : State) : State × Reply :=
  match payload with
  | [buffer, index] =>
    match s.schedule.byRole buffer.toNat with
    | none => (s, .badField 1 s.summary)
    | some steps =>
      match steps[index.toNat]? with
      | none => (s, .badField 2 s.summary)
      | some x => (s, .of .ok (s.summary ++ x.bytes))
  | _ => scheduleReply .badLength s

/-- R74, check 4: the run state refuses the adoption. -/
def adoptionRefused (atStepEnd : Bool) (r : RunState) : Bool :=
  if atStepEnd then !r.going else decide (r = .safe)

/-- R75, R76, R78: an accepted SCHED_ADOPT. -/
def State.adopt (s : State) (atStepEnd : Bool) (target : Nat) (restart : Bool) : State :=
  if atStepEnd then { s with schedule := { s.schedule with adoption := some { target, restart } } }
  else if s.run.state.going then s.adoptNow target restart
  else { s with schedule := s.schedule.exchange }

/-- R74: SCHED_ADOPT. -/
def handleSchedAdopt (payload : List Byte) (s : State) : State × Reply :=
  match payload with
  | [when_, target, restart] =>
    match firstBad [(1, inRange 0 1 when_.toNat), (2, inRange 0 23 target.toNat), (3, inRange 0 1 restart.toNat)] with
    | some field => (s, .badField field s.summary)
    | none =>
      if s.schedule.adoption.isSome then scheduleReply .adoptionPending s
      else if adoptionRefused (decide (when_.toNat = 1)) s.run.state then scheduleReply .wrongState s
      else
        match validate s.schedule.editSteps with
        | some (step, reason) => (s, .invalid step reason s.summary)
        | none =>
          if s.run.state.going && decide (s.schedule.editSteps.length ≤ target.toNat) then (s, .badField 2 s.summary)
          else scheduleReply .ok (s.adopt (decide (when_.toNat = 1)) target.toNat (decide (restart.toNat = 1)))
  | _ => scheduleReply .badLength s

/-- R80: SCHED_ADOPT_CANCEL. -/
def handleSchedAdoptCancel (payload : List Byte) (s : State) : State × Reply :=
  match payload with
  | [] =>
    if s.schedule.adoption.isSome then scheduleReply .ok { s with schedule := { s.schedule with adoption := none } }
    else scheduleReply .empty s
  | _ :: _ => scheduleReply .badLength s

/-! ### Run Controller -/

/-- R84, R105: a reply to a run request: the status and the run record. -/
def runReply (status : Status) (s : State) : State × Reply := (s, .of status s.runPart)

/-- R84, check 4: a latch of level 2 or 3 is set. -/
def State.startTripped (s : State) : Bool := s.anyLatchOfLevel 2 || s.anyLatchOfLevel 3

/-- R84, R85: RUN_START. -/
def handleRunStart (payload : List Byte) (s : State) : State × Reply :=
  match payload with
  | [index] =>
    if s.run.state.inProgress then runReply .wrongState s
    else if s.schedule.activeSteps.isEmpty then runReply .noSchedule s
    else if s.schedule.activeSteps.length ≤ index.toNat then (s, .badField 1 s.runPart)
    else if s.startTripped then runReply .tripped s
    else if s.activeZones.isEmpty then runReply .noZone s
    else runReply .ok (s.startRun index.toNat)
  | _ => runReply .badLength s

/-- R99: RUN_HOLD. -/
def handleRunHold (payload : List Byte) (s : State) : State × Reply :=
  match payload with
  | [] => if s.run.state.going then runReply .ok (s.addReason .host).wantCheckpoint else runReply .wrongState s
  | _ :: _ => runReply .badLength s

/-- R100: RUN_RESUME. -/
def handleRunResume (payload : List Byte) (s : State) : State × Reply :=
  match payload with
  | [] => if s.run.state = .held then runReply .ok s.resumeRun else runReply .wrongState s
  | _ :: _ => runReply .badLength s

/-- R102: RUN_RESTART. -/
def handleRunRestart (payload : List Byte) (s : State) : State × Reply :=
  match payload with
  | [] =>
    if s.run.state = .safe then (if s.anyLatchOfLevel 3 then runReply .tripped s else runReply .ok s.restartRun)
    else runReply .wrongState s
  | _ :: _ => runReply .badLength s

/-- R103: RUN_ABORT. -/
def handleRunAbort (payload : List Byte) (s : State) : State × Reply :=
  match payload with
  | [] => if s.run.state.inProgress then runReply .ok s.abortRun else runReply .wrongState s
  | _ :: _ => runReply .badLength s

/-- R105: RUN_GET; the record comes with OK, so a refusal carries the header alone (R166). -/
def handleRunGet (payload : List Byte) (s : State) : State × Reply :=
  match payload with
  | [] => runReply .ok s
  | _ :: _ => (s, .bare .badLength)

end Sys2Proof.Machine
end

