-- ==== Sys2Proof/Machine/KilnRequests.lean ====
section
/-! DEFINITION. The requests to the Zone Loops, the Fan Sequencer and Output Driver, and the Interlock Monitor. -/

namespace Sys2Proof.Machine

/-! ### Zone Loops -/

/-- A reply that carries a zone as it stands after the request (R121, R123). -/
def zoneReply (status : Status) (z : ZoneId) (s : State) : State × Reply := (s, .of status (s.zonePart z))

/-- A zone's settings replaced. -/
def State.setZoneSettings (s : State) (z : ZoneId) (g : ZoneSettings) : State :=
  { s with settings := { s.settings with zones := s.settings.zones.set z g } }

/-- R112: a WOOD channel that is no longer fitted takes the cleared form. -/
def State.clearWood (s : State) (z : ZoneId) : State :=
  { s with
    sampler := { s.sampler with channels := s.sampler.channels.set z { s.channels z with wood := .cleared } } }

/-- R116, R123: a zone made active: during a run it takes the current step's targets. -/
def State.activateZone (s : State) (z : ZoneId) : State :=
  if s.run.state.inProgress then
    match s.currentStep with
    | some step => s.setZone z { s.zone z with ramp := some (rampFrom step (s.startOrigin z step)) }
    | none => s
  else s

/-- R122, R123: a zone made inactive. -/
def State.deactivateZone (s : State) (z : ZoneId) : State := (s.setZone z (s.zone z).deactivate).handDemands z

/-- R123: an accepted write of ZONE_CONFIG, with the changes it makes. -/
def State.writeZone (s : State) (z : ZoneId) (g : ZoneSettings) (band : Nat) : State :=
  let before := s.zoneSettings z
  let s := s.setZoneSettings z g
  let s := { s with settings := { s.settings with settleBand := band } }
  let s := if before.woodFitted && !g.woodFitted then s.clearWood z else s
  let s :=
    match before.active, g.active with
    | false, true => s.activateZone z
    | true, false => s.deactivateZone z
    | true, true | false, false => s
  s.refreshOutputs

/-- R123: ZONE_CONFIG. In fields 2 and 3, 1 is active and 1 is fitted: MODEL's choice (log 13). A refused length carries
the zone that the first byte names: MODEL's choice (log 12). -/
def handleZoneConfig (payload : List Byte) (s : State) : State × Reply :=
  match payload with
  | [zone] =>
    match zoneOfNumber zone.toNat with
    | some z => zoneReply .ok z s
    | none => (s, .badField 1 [])
  | [zone, active, wood, hp, hi, up, ui, band] =>
    match zoneOfNumber zone.toNat with
    | none => (s, .badField 1 [])
    | some z =>
      match firstBad
        [(2, inRange 0 1 active.toNat), (3, inRange 0 1 wood.toNat), (4, inRange 0 100 hp.toNat),
         (5, inRange 0 100 hi.toNat), (6, inRange 0 100 up.toNat), (7, inRange 0 100 ui.toNat),
         (8, inRange 5 50 band.toNat)] with
      | some field => (s, .badField field (s.zonePart z))
      | none =>
        let g :=
          { s.zoneSettings z with
            active := decide (active.toNat = 1), woodFitted := decide (wood.toNat = 1), heatKp := hp.toNat,
            heatKi := hi.toNat, humidityKp := up.toNat, humidityKi := ui.toNat }
        zoneReply .ok z (s.writeZone z g band.toNat)
  | _ => (s, refusedLength zoneOfNumber s.zonePart payload)

/-- R124: ZONE_GET. -/
def handleZoneGet (payload : List Byte) (s : State) : State × Reply :=
  match payload with
  | [zone] =>
    match zoneOfNumber zone.toNat with
    | some z => zoneReply .ok z s
    | none => (s, .badField 1 [])
  | _ => (s, .bare .badLength)

/-- R121: what a loop's mode and manual value become, and its integrator: on the way back to AUTO it takes the manual
value, clamped to its range. -/
def switchLoop (lo hi : Int) (toManual : Bool) (value : Int) (mode : LoopMode) (manual : Int) (x : Loop) :
    LoopMode × Int × Loop :=
  match mode, toManual with
  | _, true => (.manual, value, x)
  | .manual, false => (.auto, manual, { x with integrator := clampInt lo hi manual })
  | .auto, false => (.auto, manual, x)

/-- R121: an accepted LOOP_MODE for a heat loop. -/
def State.switchHeat (s : State) (z : ZoneId) (toManual : Bool) (value : Int) : State :=
  let g := s.zoneSettings z
  let r := switchLoop 0 1000 toManual value g.heatMode g.heatManual (s.zone z).heat
  (s.setZoneSettings z { g with heatMode := r.1, heatManual := r.2.1 }).setZone z { s.zone z with heat := r.2.2 }

/-- R121: an accepted LOOP_MODE for a humidity loop. -/
def State.switchHumidity (s : State) (z : ZoneId) (toManual : Bool) (value : Int) : State :=
  let g := s.zoneSettings z
  let r := switchLoop (-1000) 1000 toManual value g.humidityMode g.humidityManual (s.zone z).humidity
  (s.setZoneSettings z { g with humidityMode := r.1, humidityManual := r.2.1 }).setZone z
    { s.zone z with humidity := r.2.2 }

/-- R121: the manual values a loop (0 HEAT, 1 HUMIDITY) takes. -/
def manualFits (loop : Nat) (value : Int) : Bool :=
  if loop = 0 then inRangeInt 0 1000 value else inRangeInt (-1000) 1000 value

/-- R121: LOOP_MODE. -/
def handleLoopMode (payload : List Byte) (s : State) : State × Reply :=
  match payload with
  | [zone, loop, mode, v0, v1] =>
    match zoneOfNumber zone.toNat with
    | none => (s, .badField 1 [])
    | some z =>
      let value := readSigned2 v0 v1
      let toManual := decide (mode.toNat = 1)
      match firstBad
        [(2, inRange 0 1 loop.toNat), (3, inRange 0 1 mode.toNat), (4, !toManual || manualFits loop.toNat value)] with
      | some field => (s, .badField field (s.zonePart z))
      | none =>
        zoneReply .ok z (if loop.toNat = 0 then s.switchHeat z toManual value else s.switchHumidity z toManual value)
  | _ => (s, refusedLength zoneOfNumber s.zonePart payload)

/-! ### Fan Sequencer and Output Driver -/

/-- R141: an accepted write of FAN_CONFIG: the vents in SAFE at once, and a window or coast that is over ends. -/
def State.writeFanConfig (s : State) (window coast heat spray safePosition : Nat) : State :=
  ({ s with
    settings :=
      { s.settings with
        startConfirmWindow := window, coastTime := coast, heatPeriod := heat, sprayPeriod := spray,
        ventSafePosition := safePosition } }.refreshOutputs).takeConfirmExpiry.takeCoastEnd

/-- R141: FAN_CONFIG. -/
def handleFanConfig (payload : List Byte) (s : State) : State × Reply :=
  match payload with
  | [] => (s, .of .ok s.fanConfigPart)
  | [window, c0, c1, heat, spray, p0, p1] =>
    let coast := read2 c0 c1
    let position := read2 p0 p1
    match firstBad
      [(1, inRange 5 60 window.toNat), (2, inRange 30 300 coast), (3, inRange 10 120 heat.toNat),
       (4, inRange 10 120 spray.toNat), (5, position == 0 || position == 1000)] with
    | some field => (s, .badField field s.fanConfigPart)
    | none =>
      let s' := s.writeFanConfig window.toNat coast heat.toNat spray.toNat position
      (s', .of .ok s'.fanConfigPart)
  | _ => (s, .of .badLength s.fanConfigPart)

/-! ### Interlock Monitor -/

/-- R149: the checks of fields 2 to 4 of an INTERLOCK_CONFIG write. -/
def interlockChecks (i : Input) (expected compare level : Nat) : List (Nat × Bool) :=
  match i with
  | .fanRun => [(4, inRange 0 3 level)]
  | .estop => [(2, expected == 1), (3, compare == 1), (4, level == 3)]
  | .door | .heatSupply | .spraySupply | .overtemp | .aux1 | .aux2 =>
    [(2, inRange 0 1 expected), (3, inRange 0 1 compare), (4, inRange 0 3 level)]

/-- R149: the settings an INTERLOCK_CONFIG write gives an input; FAN_RUN takes only the level. -/
def interlockWrite (i : Input) (x : InputSettings) (expected compare level : Nat) : InputSettings :=
  match i with
  | .fanRun => { x with level }
  | .door | .heatSupply | .spraySupply | .estop | .overtemp | .aux1 | .aux2 =>
    { expectedClosed := decide (expected = 1), compare := decide (compare = 1), level }

/-- R149, R150: INTERLOCK_CONFIG. A refused length carries the record that the first byte names: MODEL's choice
(log 12). -/
def handleInterlockConfig (payload : List Byte) (s : State) : State × Reply :=
  match payload with
  | [input] =>
    match inputOfNumber input.toNat with
    | some i => (s, .of .ok (s.inputPart i))
    | none => (s, .badField 1 [])
  | [input, expected, compare, level] =>
    match inputOfNumber input.toNat with
    | none => (s, .badField 1 [])
    | some i =>
      match firstBad (interlockChecks i expected.toNat compare.toNat level.toNat) with
      | some field => (s, .badField field (s.inputPart i))
      | none =>
        let s' :=
          s.configureInput i
            (interlockWrite i (s.settings.interlocks.get i) expected.toNat compare.toNat level.toNat)
        (s', .of .ok (s'.inputPart i))
  | _ => (s, refusedLength inputOfNumber s.inputPart payload)

/-- R152: INTERLOCK_GET. -/
def handleInterlockGet (payload : List Byte) (s : State) : State × Reply :=
  match payload with
  | [] => (s, .of .ok (Input.all.flatMap s.inputPart))
  | [input] =>
    match inputOfNumber input.toNat with
    | some i => (s, .of .ok (s.inputPart i))
    | none => (s, .badField 1 [])
  | _ => (s, .bare .badLength)

/-- R151: INTERLOCK_CLEAR. -/
def handleInterlockClear (payload : List Byte) (s : State) : State × Reply :=
  match payload with
  | [input] =>
    match inputOfNumber input.toNat with
    | none => (s, .badField 1 [])
    | some i =>
      if !(s.input i).latch then (s, .bare .ok)
      else if s.conforms i then (s.clearLatch i, .bare .ok)
      else (s, .bare .stillNonconforming)
  | _ => (s, .bare .badLength)

end Sys2Proof.Machine
end

