-- ==== Sys2Proof/Machine/RecordRequests.lean ====
section
/-! DEFINITION. The requests to the History Ring, the Notice Queue and the Settings Memory Controller, and RESET_BLOCK
and RESTART_PART. -/

namespace Sys2Proof.Machine

/-! ### History Ring and Notice Queue -/

/-- R156: HISTORY_READ. -/
def handleHistoryRead (payload : List Byte) (s : State) : State × Reply :=
  match payload with
  | [] =>
    match s.history.frames with
    | [] => (s, .of .empty (byte1 0 ++ flag1 s.history.slip))
    | f :: rest =>
      ({ s with history := { s.history with frames := rest } },
        .of .ok (byte1 rest.length ++ flag1 s.history.slip ++ f.bytes))
  | _ :: _ => (s, .bare .badLength)

/-- R157: HISTORY_LATEST. -/
def handleHistoryLatest (payload : List Byte) (s : State) : State × Reply :=
  match payload with
  | [] =>
    match s.history.latest with
    | some f => (s, .of .ok (f.bytes ++ byte1 s.history.frames.length ++ flag1 s.history.slip))
    | none => (s, .bare .empty)
  | _ :: _ => (s, .bare .badLength)

/-- R160: NOTICE_FETCH. -/
def handleNoticeFetch (payload : List Byte) (s : State) : State × Reply :=
  match payload with
  | [] =>
    match s.notices with
    | [] => (s, .bare .empty)
    | _ :: _ => ({ s with notices := s.notices.drop 4 }, .of .ok (counted Notice.bytes (s.notices.take 4)))
  | _ :: _ => (s, .bare .badLength)

/-! ### Settings memory -/

/-- R41: what an image saves of a probe. -/
def ProbeRecord.saved (r : ProbeRecord) : SavedProbe :=
  { assignment := r.assignment, blocked := decide (r.state = .blocked) }

/-- R176: the settings of 11.1 as they stand. -/
def State.imageNow (s : State) : Image := { settings := s.settings, probes := mapTable ProbeRecord.saved s.probes }

/-- R176: a save is in flight or pending. -/
def Memory.saveBusy (m : Memory) : Bool :=
  m.pendingSave.isSome ||
    match m.op with
    | .saveWrite _ => true
    | .none | .load | .checkpointWrite _ _ => false

/-- R176: SETTINGS_SAVE. -/
def handleSettingsSave (payload : List Byte) (s : State) : State × Reply :=
  match payload with
  | [] =>
    if s.memory.saveBusy then (s, .bare .busy)
    else ({ s with memory := s.memory.requestSave s.imageNow }, .bare .ok)
  | _ :: _ => (s, .bare .badLength)

/-! ### Restart and block resets -/

/-- R177: RESTART_PART: the restart waits for the end of its reply. -/
def handleRestartPart (payload : List Byte) (s : State) : State × Reply :=
  match payload with
  | [] => ({ s with link := { s.link with restart := true } }, .bare .ok)
  | _ :: _ => (s, .bare .badLength)

/-- R178: RESET_BLOCK. -/
def handleResetBlock (payload : List Byte) (s : State) : State × Reply :=
  match payload with
  | [target, zone] =>
    match target.toNat, zoneOfNumber zone.toNat with
    | 0, _ => (s.resetScanner, .bare .ok)
    | 1, _ => (s.resetProbes, .bare .ok)
    | 2, some z => (s.resetZone z, .bare .ok)
    | 2, none => (s, .badField 2 [])
    | 3, _ => ({ s with history := s.history.reset }, .bare .ok)
    | 4, _ => ({ s with notices := [] }, .bare .ok)
    | _, _ => (s, .badField 1 [])
  | _ => (s, .bare .badLength)

end Sys2Proof.Machine
end

