-- ==== Sys2Proof/Machine/Link.lean ====
section
/-! DEFINITION. The Link Interface (chapter 10): the CRC, frames, the receiver, and the taking of a request. -/

namespace Sys2Proof.Machine

/-! ### The CRC (R164) -/

/-- One bit of the CRC register: x^16 + x^12 + x^5 + 1. -/
def crcShift (c : Crc) : Crc := if c.msb then (c <<< 1) ^^^ 0x1021#16 else c <<< 1

/-- R164: one byte, most significant bit first. -/
def crcByte (c : Crc) (b : Byte) : Crc :=
  crcShift (crcShift (crcShift (crcShift (crcShift (crcShift (crcShift (crcShift (c ^^^ (b.setWidth 16 <<< 8)))))))))

/-- R164: the CRC of some bytes in line order, from 0xFFFF. -/
def crcOf (bytes : List Byte) : Crc := bytes.foldl crcByte 0xFFFF#16

/-- The CRC's two bytes, high byte first. -/
def crcBytes (c : Crc) : List Byte := [(c >>> 8).setWidth 8, c.setWidth 8]

/-- R164: the received CRC agrees with the computed one. -/
def crcAgrees (covered : List Byte) (high low : Byte) : Bool := crcBytes (crcOf covered) == [high, low]

/-! ### Frames (10.2) -/

/-- The address byte, the length byte and the counted bytes of a frame. -/
def frameBody (address : Nat) (kind tag : Byte) (payload : List Byte) : List Byte :=
  [BitVec.ofNat 8 address, BitVec.ofNat 8 (payload.length + 2), kind, tag] ++ payload

/-- A whole frame (10.6). -/
def frameBytes (address : Nat) (kind tag : Byte) (payload : List Byte) : List Byte :=
  [0xC3#8] ++ frameBody address kind tag payload ++ crcBytes (crcOf (frameBody address kind tag payload))

/-- R166: the reply frame, with the header of the state as it stands once the request has been taken. Its kind is the
request kind plus 0x80; for a request kind of 0x80 or above the sum is taken modulo 256: MODEL's choice (log 13). -/
def State.replyFrame (s : State) (kind tag : Byte) (r : Reply) : List Byte :=
  frameBytes s.linkAddress (kind + 0x80#8) tag
    (byte1 r.status.code ++ byte1 s.run.state.code ++ byte1 s.notices.length ++ r.detail ++ r.body)

/-! ### Taking a request (R165) -/

/-- The rule that owns a request kind (10.5); none for a kind outside the catalogue. -/
def handlerOf : Nat → Option (List Byte → State → State × Reply)
  | 0x01 => some handleIdentify
  | 0x02 => some handleStatus
  | 0x10 => some handleProbeSet
  | 0x11 => some handleProbeGet
  | 0x12 => some handleProbeBlock
  | 0x13 => some handleProbeUnblock
  | 0x14 => some handleProbeReadmit
  | 0x15 => some handleProbeConfig
  | 0x16 => some handleStatsGet
  | 0x17 => some handleScanConfig
  | 0x18 => some handleScanNow
  | 0x1A => some handleCurvePut
  | 0x1B => some handleCurveGet
  | 0x1C => some handleCurveClear
  | 0x20 => some handleSchedClear
  | 0x21 => some handleSchedPutStep
  | 0x22 => some handleSchedTruncate
  | 0x23 => some handleSchedCopyActive
  | 0x24 => some handleSchedGetStep
  | 0x25 => some handleSchedAdopt
  | 0x26 => some handleSchedAdoptCancel
  | 0x28 => some handleRunStart
  | 0x29 => some handleRunHold
  | 0x2A => some handleRunResume
  | 0x2B => some handleRunRestart
  | 0x2C => some handleRunAbort
  | 0x2D => some handleRunGet
  | 0x30 => some handleZoneConfig
  | 0x31 => some handleZoneGet
  | 0x32 => some handleLoopMode
  | 0x33 => some handleFanConfig
  | 0x38 => some handleInterlockConfig
  | 0x39 => some handleInterlockGet
  | 0x3A => some handleInterlockClear
  | 0x40 => some handleHistoryRead
  | 0x41 => some handleHistoryLatest
  | 0x42 => some handleNoticeFetch
  | 0x48 => some handleSettingsSave
  | 0x49 => some handleResetBlock
  | 0x4A => some handleRestartPart
  | _ => none

/-- R165: a request that is served before READY: IDENTIFY and STATUS. -/
def servedEarly (kind : Byte) : Bool := kind == 0x01#8 || kind == 0x02#8

/-- R165: an accepted frame is dispatched; the first case that applies decides. -/
def State.dispatch (s : State) (kind : Byte) (payload : List Byte) : State × Reply :=
  match handlerOf kind.toNat with
  | none => (s, .bare .unknownRequest)
  | some handle => if s.ready || servedEarly kind then handle payload s else (s, .bare .notReady)

/-- R165: the reply is in hand and the receiver is ANSWERING. It is formed in the event that takes the request, so no
notice is queued between the two, as R161 allows: DEDUCED from R165 (log 25). -/
def State.answer (s : State) (kind tag : Byte) (r : Reply) : State :=
  { s with link := { s.link with receiver := .answering, reply := some (s.replyFrame kind tag r), driver := false } }

/-- R164, R165: an accepted frame. -/
def State.accept (s : State) (kind tag : Byte) (payload : List Byte) : State :=
  (s.dispatch kind payload).1.answer kind tag (s.dispatch kind payload).2

/-! ### The receiver (R163) -/

/-- The receiver's state replaced. -/
def State.setReceiver (s : State) (r : Receiver) : State := { s with link := { s.link with receiver := r } }

/-- R163: a length byte that no frame has. -/
def lengthInvalid (b : Byte) : Bool := b.toNat < 2 || 250 < b.toNat

/-- R163, state LENGTH. -/
def afterLength (linkAddress : Nat) (address length : Byte) : Receiver :=
  if lengthInvalid length then .hunt
  else if address.toNat = linkAddress then .body address length []
  else .skip (length.toNat + 2)

/-- R163, state BODY: a counted byte is stored. -/
def afterBody (address length : Byte) (bytes : List Byte) : Receiver :=
  if bytes.length < length.toNat then .body address length bytes else .crc address length bytes none

/-- R163, state SKIP. -/
def afterSkipped (remaining : Nat) : Receiver := if remaining ≤ 1 then .hunt else .skip (remaining - 1)

/-- R164: the second CRC byte: the frame is judged. -/
def State.judgeFrame (s : State) (address length : Byte) (bytes : List Byte) (high low : Byte) : State :=
  if crcAgrees (address :: length :: bytes) high low then
    match bytes with
    | kind :: tag :: payload => s.accept kind tag payload
    | _ => s.setReceiver .hunt
  else s.setReceiver .hunt

/-- R163: a byte is received. -/
def State.receiveByte (s : State) (b : Byte) : State :=
  match s.link.receiver with
  | .hunt => if b = 0xC3#8 then s.setReceiver .address else s
  | .address => s.setReceiver (.length b)
  | .length address => s.setReceiver (afterLength s.linkAddress address b)
  | .body address length bytes => s.setReceiver (afterBody address length (bytes ++ [b]))
  | .crc address length bytes none => s.setReceiver (.crc address length bytes (some b))
  | .crc address length bytes (some high) => s.judgeFrame address length bytes high b
  | .skip remaining => s.setReceiver (afterSkipped remaining)
  | .answering => s

/-- A request of the host: a whole frame addressed to this part arrives. In HUNT it is accepted (R164), in ANSWERING it
is lost (R165), and in the middle of another frame its bytes meet the receiver one by one (log 17). -/
def State.request (s : State) (kind tag : Byte) (payload : List Byte) : State :=
  match s.link.receiver with
  | .hunt => s.accept kind tag payload
  | .answering => s
  | .address | .length _ | .body _ _ _ | .crc _ _ _ _ | .skip _ =>
    (frameBytes s.linkAddress kind tag payload).foldl State.receiveByte s

/-! ### The line's own events (R163, R165) -/

/-- R163: a gap of more than 10 ms in a partial frame. -/
def State.gap (s : State) : State :=
  match s.link.receiver with
  | .address | .length _ | .body _ _ _ | .crc _ _ _ _ | .skip _ => s.setReceiver .hunt
  | .hunt | .answering => s

/-- R163: a length byte of 0, 1 or 251 to 255. -/
def State.refuseLength (s : State) (b : Byte) : State :=
  match s.link.receiver with
  | .length _ => if lengthInvalid b then s.setReceiver .hunt else s
  | .hunt | .address | .body _ _ _ | .crc _ _ _ _ | .skip _ | .answering => s

/-- R163: the last byte of a frame for another part. -/
def State.endSkip (s : State) : State :=
  match s.link.receiver with
  | .skip _ => s.setReceiver .hunt
  | .hunt | .address | .length _ | .body _ _ _ | .crc _ _ _ _ | .answering => s

/-- R164: a second CRC byte that does not agree. -/
def State.refuseCrc (s : State) (low : Byte) : State :=
  match s.link.receiver with
  | .crc address length bytes (some high) =>
    if crcAgrees (address :: length :: bytes) high low then s else s.setReceiver .hunt
  | .hunt | .address | .length _ | .body _ _ _ | .crc _ _ _ none | .skip _ | .answering => s

/-- R162, R165: the start bit of a reply's first character enables the driver. -/
def State.startReply (s : State) : State :=
  if decide (s.link.receiver = .answering) && s.link.reply.isSome then
    { s with link := { s.link with driver := true } }
  else s

/-- R162, R165: the stop bit of a reply's last character. -/
def State.endReply (s : State) : State :=
  match s.link.receiver with
  | .answering => { s with link := { s.link with receiver := .hunt, reply := none, driver := false } }
  | .hunt | .address | .length _ | .body _ _ _ | .crc _ _ _ _ | .skip _ => s

end Sys2Proof.Machine
end

