-- ==== Sys2Proof/Machine/SupplyCommands.lean ====
section
/-! DEFINITION. The commands of the supply and of the settings memory: one meaning for each. -/

namespace Sys2Proof.Machine

/-- R171: POWER_ON, once what is due has been taken (log 2). -/
def execPowerOn (straps : Straps) (contacts : Inputs Bool) (s : State) : Host.Outcome State Fault Refusal :=
  .next (s.caughtUp.takePowerOn straps contacts)

/-- R171, R173, R174: LOAD_END. -/
def execLoadEnd (settingsReads checkpointReads : Bool) (s : State) : Host.Outcome State Fault Refusal :=
  .next (s.event fun t =>
    if decide (t.memory.op = .load) && !t.ready then t.endLoad settingsReads checkpointReads else t)

/-- R175: CHECKPOINT_WRITE_END. -/
def execCheckpointWriteEnd (result : CheckpointEnd) (s : State) : Host.Outcome State Fault Refusal :=
  .next (s.event fun t => t.endCheckpointWrite result)

/-- R175: SAVE_WRITE_END. -/
def execSaveWriteEnd (result : SaveEnd) (s : State) : Host.Outcome State Fault Refusal :=
  .next (s.event fun t => t.endSaveWrite result)

/-- R177: PART_RESTART, due once the reply to RESTART_PART has been sent. -/
def execPartRestart (s : State) : Host.Outcome State Fault Refusal :=
  .next (s.afterMinute State.takeRestart)

/-- R175: POWER_LOSS, once what is due has been taken (log 2). -/
def execPowerLoss (tear : Tear) (s : State) : Host.Outcome State Fault Refusal :=
  .next (if s.powered then s.caughtUp.losePower tear else s)

end Sys2Proof.Machine
end

