-- ==== Sys2Proof/Machine/ClockCommands.lean ====
section
/-! DEFINITION. The commands of the Part Clock, the Temperature Sampler and the Probe Scanner. -/

namespace Sys2Proof.Machine

/-- R172: SECOND_EVENT. -/
def execSecondEvent (s : State) : Host.Outcome State Fault Refusal :=
  .next (s.event State.countSecond)

/-- R172: MINUTE_EVENT, the second event at which the second count would pass 59 (log 1). -/
def execMinuteEvent (s : State) : Host.Outcome State Fault Refusal :=
  .next (s.event fun t => if t.clock.second = 59 then t.countSecond else t)

/-- R109: SAMPLE_SET. -/
def execSampleSet (samples : Zones ZoneSamples) (s : State) : Host.Outcome State Fault Refusal :=
  .next (s.event fun t => if t.ready && t.sampler.setIsDue then t.takeSet samples else t)

/-- R12: SCAN_TIMER_EXPIRY. -/
def execScanTimerExpiry (s : State) : Host.Outcome State Fault Refusal :=
  .next (s.afterMinute State.takeScanExpiry)

/-- R2, R3: SETTLE_END. -/
def execSettleEnd (s : State) : Host.Outcome State Fault Refusal :=
  .next (s.event State.settleEnds)

/-- R1: THRESHOLD_CROSSED at count n. -/
def execThresholdCrossed (n : Nat) (s : State) : Host.Outcome State Fault Refusal :=
  .next (s.event fun t => if n ≤ 65534 then t.countEnds n else t)

/-- R1: COUNTER_FULL. -/
def execCounterFull (s : State) : Host.Outcome State Fault Refusal :=
  .next (s.event fun t => t.countEnds 65535)

end Sys2Proof.Machine
end

