-- ==== Sys2Proof/Machine/KilnCommands.lean ====
section
/-! DEFINITION. The events of the run (R89 to R93, R106), of the interlock contacts, the fans and the valves. -/

namespace Sys2Proof.Machine

/-- R89, R90: HOURS_TEST_PASS. -/
def execHoursTestPass (s : State) : Host.Outcome State Fault Refusal :=
  .next (s.dueEvent fun t => if t.due.hours && t.hoursTestPasses then t.takeHours else t)

/-- R91: SETTLE_TIMER_PASS. -/
def execSettleTimerPass (s : State) : Host.Outcome State Fault Refusal :=
  .next (s.dueEvent fun t => if t.due.settle && t.settleTestPasses then t.takeSettle else t)

/-- R93: STEP_TIMEOUT; the hours part and the SETTLED timer of the same minute event are judged before it. -/
def execStepTimeout (s : State) : Host.Outcome State Fault Refusal :=
  .next (s.dueEvent fun t =>
    if t.takeHours.takeSettle.due.timeout && t.takeHours.takeSettle.timedOutStep.isSome then t.takeTimeout else t)

/-- R106: RUN_HOUR_CHECKPOINT. -/
def execRunHourCheckpoint (s : State) : Host.Outcome State Fault Refusal :=
  .next (s.dueEvent State.takeHourCheckpoint)

/-- R144: LIVE_LEVEL_CHANGE. -/
def execLiveLevelChange (input : Input) (closed : Bool) (s : State) : Host.Outcome State Fault Refusal :=
  .next (s.event fun t => t.changeLive input closed)

/-- R137: START_CONFIRM_EXPIRY. -/
def execStartConfirmExpiry (s : State) : Host.Outcome State Fault Refusal :=
  .next (s.afterMinute State.takeConfirmExpiry)

/-- R138: REVERSAL_DUE. -/
def execReversalDue (s : State) : Host.Outcome State Fault Refusal :=
  .next (s.dueEvent State.checkReversal)

/-- R139: COAST_END. -/
def execCoastEnd (s : State) : Host.Outcome State Fault Refusal :=
  .next (s.dueEvent State.takeCoastEnd)

/-- R129: VALVE_ON_TIME_REACHED. -/
def execValveOnTimeReached (zone : ZoneId) (kind : ValveKind) (s : State) : Host.Outcome State Fault Refusal :=
  .next (s.event fun t => t.mapValve zone kind Valve.reachOnTime)

/-- R129: VALVE_CYCLE_END. -/
def execValveCycleEnd (zone : ZoneId) (kind : ValveKind) (s : State) : Host.Outcome State Fault Refusal :=
  .next (s.event fun t => t.mapValve zone kind fun v => v.reachPeriod (t.settings.period kind))

end Sys2Proof.Machine
end

