-- ==== Sys2Proof/Machine/LinkCommands.lean ====
section
/-! DEFINITION. The events of the supervisor link (chapter 10). -/

namespace Sys2Proof.Machine

/-- R163, R164: CHARACTER_RECEIVED. -/
def execCharacterReceived (byte : Byte) (s : State) : Host.Outcome State Fault Refusal :=
  .next (s.event fun t => t.receiveByte byte)

/-- R163: GAP_TIMEOUT. -/
def execGapTimeout (s : State) : Host.Outcome State Fault Refusal :=
  .next (s.event State.gap)

/-- R163: FRAME_LENGTH_INVALID. -/
def execFrameLengthInvalid (length : Byte) (s : State) : Host.Outcome State Fault Refusal :=
  .next (s.event fun t => t.refuseLength length)

/-- R163: FRAME_SKIPPED. -/
def execFrameSkipped (s : State) : Host.Outcome State Fault Refusal :=
  .next (s.event State.endSkip)

/-- R164: FRAME_CRC_FAIL. -/
def execFrameCrcFail (crcLow : Byte) (s : State) : Host.Outcome State Fault Refusal :=
  .next (s.event fun t => t.refuseCrc crcLow)

/-- R165: UNKNOWN_REQUEST, a frame whose kind is not in the catalogue. -/
def execUnknownRequest (kind tag : Byte) (payload : List Byte) (s : State) : Host.Outcome State Fault Refusal :=
  .next (s.event fun t => if (handlerOf kind.toNat).isNone then t.request kind tag payload else t)

/-- R165: REPLY_FIRST_CHARACTER. -/
def execReplyFirstCharacter (s : State) : Host.Outcome State Fault Refusal :=
  .next (s.event State.startReply)

/-- R165: REPLY_END. -/
def execReplyEnd (s : State) : Host.Outcome State Fault Refusal :=
  .next (s.event State.endReply)

end Sys2Proof.Machine
end

