-- ==== Sys2Proof/Machine/RequestCommands.lean ====
section
/-! DEFINITION. The requests of the catalogue (10.5): each is a whole frame taken by the Link Interface (R165). -/

namespace Sys2Proof.Machine

/-- R167: IDENTIFY. -/
def execIdentify (tag : Byte) (payload : List Byte) (s : State) : Host.Outcome State Fault Refusal :=
  .next (s.event fun t => t.request 0x01#8 tag payload)

/-- R168: STATUS. -/
def execStatus (tag : Byte) (payload : List Byte) (s : State) : Host.Outcome State Fault Refusal :=
  .next (s.event fun t => t.request 0x02#8 tag payload)

/-- R42, R43: PROBE_SET. -/
def execProbeSet (tag : Byte) (payload : List Byte) (s : State) : Host.Outcome State Fault Refusal :=
  .next (s.event fun t => t.request 0x10#8 tag payload)

/-- R55: PROBE_GET. -/
def execProbeGet (tag : Byte) (payload : List Byte) (s : State) : Host.Outcome State Fault Refusal :=
  .next (s.event fun t => t.request 0x11#8 tag payload)

/-- R51: PROBE_BLOCK. -/
def execProbeBlock (tag : Byte) (payload : List Byte) (s : State) : Host.Outcome State Fault Refusal :=
  .next (s.event fun t => t.request 0x12#8 tag payload)

/-- R52: PROBE_UNBLOCK. -/
def execProbeUnblock (tag : Byte) (payload : List Byte) (s : State) : Host.Outcome State Fault Refusal :=
  .next (s.event fun t => t.request 0x13#8 tag payload)

/-- R53: PROBE_READMIT. -/
def execProbeReadmit (tag : Byte) (payload : List Byte) (s : State) : Host.Outcome State Fault Refusal :=
  .next (s.event fun t => t.request 0x14#8 tag payload)

/-- R60: PROBE_CONFIG. -/
def execProbeConfig (tag : Byte) (payload : List Byte) (s : State) : Host.Outcome State Fault Refusal :=
  .next (s.event fun t => t.request 0x15#8 tag payload)

/-- R61: STATS_GET. -/
def execStatsGet (tag : Byte) (payload : List Byte) (s : State) : Host.Outcome State Fault Refusal :=
  .next (s.event fun t => t.request 0x16#8 tag payload)

/-- R15 to R18: SCAN_CONFIG. -/
def execScanConfig (tag : Byte) (payload : List Byte) (s : State) : Host.Outcome State Fault Refusal :=
  .next (s.event fun t => t.request 0x17#8 tag payload)

/-- R13: SCAN_NOW. -/
def execScanNow (tag : Byte) (payload : List Byte) (s : State) : Host.Outcome State Fault Refusal :=
  .next (s.event fun t => t.request 0x18#8 tag payload)

/-- R33, R34: CURVE_PUT. -/
def execCurvePut (tag : Byte) (payload : List Byte) (s : State) : Host.Outcome State Fault Refusal :=
  .next (s.event fun t => t.request 0x1A#8 tag payload)

/-- R36: CURVE_GET. -/
def execCurveGet (tag : Byte) (payload : List Byte) (s : State) : Host.Outcome State Fault Refusal :=
  .next (s.event fun t => t.request 0x1B#8 tag payload)

/-- R35: CURVE_CLEAR. -/
def execCurveClear (tag : Byte) (payload : List Byte) (s : State) : Host.Outcome State Fault Refusal :=
  .next (s.event fun t => t.request 0x1C#8 tag payload)

/-- R68: SCHED_CLEAR. -/
def execSchedClear (tag : Byte) (payload : List Byte) (s : State) : Host.Outcome State Fault Refusal :=
  .next (s.event fun t => t.request 0x20#8 tag payload)

/-- R69: SCHED_PUT_STEP. -/
def execSchedPutStep (tag : Byte) (payload : List Byte) (s : State) : Host.Outcome State Fault Refusal :=
  .next (s.event fun t => t.request 0x21#8 tag payload)

/-- R70: SCHED_TRUNCATE. -/
def execSchedTruncate (tag : Byte) (payload : List Byte) (s : State) : Host.Outcome State Fault Refusal :=
  .next (s.event fun t => t.request 0x22#8 tag payload)

/-- R71: SCHED_COPY_ACTIVE. -/
def execSchedCopyActive (tag : Byte) (payload : List Byte) (s : State) : Host.Outcome State Fault Refusal :=
  .next (s.event fun t => t.request 0x23#8 tag payload)

/-- R72: SCHED_GET_STEP. -/
def execSchedGetStep (tag : Byte) (payload : List Byte) (s : State) : Host.Outcome State Fault Refusal :=
  .next (s.event fun t => t.request 0x24#8 tag payload)

/-- R74 to R77: SCHED_ADOPT_NOW. -/
def execSchedAdoptNow (tag : Byte) (rest : List Byte) (s : State) : Host.Outcome State Fault Refusal :=
  .next (s.event fun t => t.request 0x25#8 tag (0x00#8 :: rest))

/-- R74, R78, R81: SCHED_ADOPT_AT_STEP_END. -/
def execSchedAdoptAtStepEnd (tag : Byte) (rest : List Byte) (s : State) : Host.Outcome State Fault Refusal :=
  .next (s.event fun t => t.request 0x25#8 tag (0x01#8 :: rest))

/-- R80: SCHED_ADOPT_CANCEL. -/
def execSchedAdoptCancel (tag : Byte) (payload : List Byte) (s : State) : Host.Outcome State Fault Refusal :=
  .next (s.event fun t => t.request 0x26#8 tag payload)

/-- R84, R85: RUN_START. -/
def execRunStart (tag : Byte) (payload : List Byte) (s : State) : Host.Outcome State Fault Refusal :=
  .next (s.event fun t => t.request 0x28#8 tag payload)

/-- R99: RUN_HOLD. -/
def execRunHold (tag : Byte) (payload : List Byte) (s : State) : Host.Outcome State Fault Refusal :=
  .next (s.event fun t => t.request 0x29#8 tag payload)

/-- R100: RUN_RESUME. -/
def execRunResume (tag : Byte) (payload : List Byte) (s : State) : Host.Outcome State Fault Refusal :=
  .next (s.event fun t => t.request 0x2A#8 tag payload)

/-- R102: RUN_RESTART. -/
def execRunRestart (tag : Byte) (payload : List Byte) (s : State) : Host.Outcome State Fault Refusal :=
  .next (s.event fun t => t.request 0x2B#8 tag payload)

/-- R103: RUN_ABORT. -/
def execRunAbort (tag : Byte) (payload : List Byte) (s : State) : Host.Outcome State Fault Refusal :=
  .next (s.event fun t => t.request 0x2C#8 tag payload)

/-- R105: RUN_GET. -/
def execRunGet (tag : Byte) (payload : List Byte) (s : State) : Host.Outcome State Fault Refusal :=
  .next (s.event fun t => t.request 0x2D#8 tag payload)

/-- R123: ZONE_CONFIG. -/
def execZoneConfig (tag : Byte) (payload : List Byte) (s : State) : Host.Outcome State Fault Refusal :=
  .next (s.event fun t => t.request 0x30#8 tag payload)

/-- R124: ZONE_GET. -/
def execZoneGet (tag : Byte) (payload : List Byte) (s : State) : Host.Outcome State Fault Refusal :=
  .next (s.event fun t => t.request 0x31#8 tag payload)

/-- R121: LOOP_MODE. -/
def execLoopMode (tag : Byte) (payload : List Byte) (s : State) : Host.Outcome State Fault Refusal :=
  .next (s.event fun t => t.request 0x32#8 tag payload)

/-- R141: FAN_CONFIG. -/
def execFanConfig (tag : Byte) (payload : List Byte) (s : State) : Host.Outcome State Fault Refusal :=
  .next (s.event fun t => t.request 0x33#8 tag payload)

/-- R149, R150: INTERLOCK_CONFIG. -/
def execInterlockConfig (tag : Byte) (payload : List Byte) (s : State) : Host.Outcome State Fault Refusal :=
  .next (s.event fun t => t.request 0x38#8 tag payload)

/-- R152: INTERLOCK_GET. -/
def execInterlockGet (tag : Byte) (payload : List Byte) (s : State) : Host.Outcome State Fault Refusal :=
  .next (s.event fun t => t.request 0x39#8 tag payload)

/-- R151: INTERLOCK_CLEAR. -/
def execInterlockClear (tag : Byte) (payload : List Byte) (s : State) : Host.Outcome State Fault Refusal :=
  .next (s.event fun t => t.request 0x3A#8 tag payload)

/-- R156: HISTORY_READ. -/
def execHistoryRead (tag : Byte) (payload : List Byte) (s : State) : Host.Outcome State Fault Refusal :=
  .next (s.event fun t => t.request 0x40#8 tag payload)

/-- R157: HISTORY_LATEST. -/
def execHistoryLatest (tag : Byte) (payload : List Byte) (s : State) : Host.Outcome State Fault Refusal :=
  .next (s.event fun t => t.request 0x41#8 tag payload)

/-- R160: NOTICE_FETCH. -/
def execNoticeFetch (tag : Byte) (payload : List Byte) (s : State) : Host.Outcome State Fault Refusal :=
  .next (s.event fun t => t.request 0x42#8 tag payload)

/-- R176: SETTINGS_SAVE. -/
def execSettingsSave (tag : Byte) (payload : List Byte) (s : State) : Host.Outcome State Fault Refusal :=
  .next (s.event fun t => t.request 0x48#8 tag payload)

/-- R165, R177: RESTART_PART. -/
def execRestartPart (tag : Byte) (payload : List Byte) (s : State) : Host.Outcome State Fault Refusal :=
  .next (s.event fun t => t.request 0x4A#8 tag payload)

/-- R21, R178: SCANNER_BLOCK_RESET. -/
def execScannerBlockReset (tag : Byte) (rest : List Byte) (s : State) : Host.Outcome State Fault Refusal :=
  .next (s.event fun t => t.request 0x49#8 tag (0x00#8 :: rest))

/-- R62, R178: PROBES_BLOCK_RESET. -/
def execProbesBlockReset (tag : Byte) (rest : List Byte) (s : State) : Host.Outcome State Fault Refusal :=
  .next (s.event fun t => t.request 0x49#8 tag (0x01#8 :: rest))

/-- R125, R178: ZONE_BLOCK_RESET. -/
def execZoneBlockReset (tag : Byte) (rest : List Byte) (s : State) : Host.Outcome State Fault Refusal :=
  .next (s.event fun t => t.request 0x49#8 tag (0x02#8 :: rest))

/-- R158, R178: HISTORY_BLOCK_RESET. -/
def execHistoryBlockReset (tag : Byte) (rest : List Byte) (s : State) : Host.Outcome State Fault Refusal :=
  .next (s.event fun t => t.request 0x49#8 tag (0x03#8 :: rest))

/-- R161, R178: NOTICES_BLOCK_RESET. -/
def execNoticesBlockReset (tag : Byte) (rest : List Byte) (s : State) : Host.Outcome State Fault Refusal :=
  .next (s.event fun t => t.request 0x49#8 tag (0x04#8 :: rest))

end Sys2Proof.Machine
end

