-- ==== Sys2Proof/Machine/Dispatch.lean ====
section
/-! DEFINITION. The arm of each command. -/

namespace Sys2Proof.Machine

def exec (i : Instr) (s : State) : Host.Outcome State Fault Refusal :=
  match i with
  | .powerOn straps contacts => Sys2Proof.Machine.execPowerOn straps contacts s
  | .loadEnd settingsReads checkpointReads => Sys2Proof.Machine.execLoadEnd settingsReads checkpointReads s
  | .secondEvent => Sys2Proof.Machine.execSecondEvent s
  | .minuteEvent => Sys2Proof.Machine.execMinuteEvent s
  | .sampleSet samples => Sys2Proof.Machine.execSampleSet samples s
  | .scanTimerExpiry => Sys2Proof.Machine.execScanTimerExpiry s
  | .settleEnd => Sys2Proof.Machine.execSettleEnd s
  | .thresholdCrossed n => Sys2Proof.Machine.execThresholdCrossed n s
  | .counterFull => Sys2Proof.Machine.execCounterFull s
  | .hoursTestPass => Sys2Proof.Machine.execHoursTestPass s
  | .settleTimerPass => Sys2Proof.Machine.execSettleTimerPass s
  | .stepTimeout => Sys2Proof.Machine.execStepTimeout s
  | .runHourCheckpoint => Sys2Proof.Machine.execRunHourCheckpoint s
  | .liveLevelChange input closed => Sys2Proof.Machine.execLiveLevelChange input closed s
  | .startConfirmExpiry => Sys2Proof.Machine.execStartConfirmExpiry s
  | .reversalDue => Sys2Proof.Machine.execReversalDue s
  | .coastEnd => Sys2Proof.Machine.execCoastEnd s
  | .valveOnTimeReached zone kind => Sys2Proof.Machine.execValveOnTimeReached zone kind s
  | .valveCycleEnd zone kind => Sys2Proof.Machine.execValveCycleEnd zone kind s
  | .checkpointWriteEnd result => Sys2Proof.Machine.execCheckpointWriteEnd result s
  | .saveWriteEnd result => Sys2Proof.Machine.execSaveWriteEnd result s
  | .gapTimeout => Sys2Proof.Machine.execGapTimeout s
  | .frameLengthInvalid length => Sys2Proof.Machine.execFrameLengthInvalid length s
  | .frameSkipped => Sys2Proof.Machine.execFrameSkipped s
  | .frameCrcFail crcLow => Sys2Proof.Machine.execFrameCrcFail crcLow s
  | .unknownRequest kind tag payload => Sys2Proof.Machine.execUnknownRequest kind tag payload s
  | .replyEnd => Sys2Proof.Machine.execReplyEnd s
  | .partRestart => Sys2Proof.Machine.execPartRestart s
  | .identify tag payload => Sys2Proof.Machine.execIdentify tag payload s
  | .status tag payload => Sys2Proof.Machine.execStatus tag payload s
  | .probeSet tag payload => Sys2Proof.Machine.execProbeSet tag payload s
  | .probeGet tag payload => Sys2Proof.Machine.execProbeGet tag payload s
  | .probeBlock tag payload => Sys2Proof.Machine.execProbeBlock tag payload s
  | .probeUnblock tag payload => Sys2Proof.Machine.execProbeUnblock tag payload s
  | .probeReadmit tag payload => Sys2Proof.Machine.execProbeReadmit tag payload s
  | .probeConfig tag payload => Sys2Proof.Machine.execProbeConfig tag payload s
  | .statsGet tag payload => Sys2Proof.Machine.execStatsGet tag payload s
  | .scanConfig tag payload => Sys2Proof.Machine.execScanConfig tag payload s
  | .scanNow tag payload => Sys2Proof.Machine.execScanNow tag payload s
  | .curvePut tag payload => Sys2Proof.Machine.execCurvePut tag payload s
  | .curveGet tag payload => Sys2Proof.Machine.execCurveGet tag payload s
  | .curveClear tag payload => Sys2Proof.Machine.execCurveClear tag payload s
  | .schedClear tag payload => Sys2Proof.Machine.execSchedClear tag payload s
  | .schedPutStep tag payload => Sys2Proof.Machine.execSchedPutStep tag payload s
  | .schedTruncate tag payload => Sys2Proof.Machine.execSchedTruncate tag payload s
  | .schedCopyActive tag payload => Sys2Proof.Machine.execSchedCopyActive tag payload s
  | .schedGetStep tag payload => Sys2Proof.Machine.execSchedGetStep tag payload s
  | .schedAdoptNow tag rest => Sys2Proof.Machine.execSchedAdoptNow tag rest s
  | .schedAdoptAtStepEnd tag rest => Sys2Proof.Machine.execSchedAdoptAtStepEnd tag rest s
  | .schedAdoptCancel tag payload => Sys2Proof.Machine.execSchedAdoptCancel tag payload s
  | .runStart tag payload => Sys2Proof.Machine.execRunStart tag payload s
  | .runHold tag payload => Sys2Proof.Machine.execRunHold tag payload s
  | .runResume tag payload => Sys2Proof.Machine.execRunResume tag payload s
  | .runRestart tag payload => Sys2Proof.Machine.execRunRestart tag payload s
  | .runAbort tag payload => Sys2Proof.Machine.execRunAbort tag payload s
  | .runGet tag payload => Sys2Proof.Machine.execRunGet tag payload s
  | .zoneConfig tag payload => Sys2Proof.Machine.execZoneConfig tag payload s
  | .zoneGet tag payload => Sys2Proof.Machine.execZoneGet tag payload s
  | .loopMode tag payload => Sys2Proof.Machine.execLoopMode tag payload s
  | .fanConfig tag payload => Sys2Proof.Machine.execFanConfig tag payload s
  | .interlockConfig tag payload => Sys2Proof.Machine.execInterlockConfig tag payload s
  | .interlockGet tag payload => Sys2Proof.Machine.execInterlockGet tag payload s
  | .interlockClear tag payload => Sys2Proof.Machine.execInterlockClear tag payload s
  | .historyRead tag payload => Sys2Proof.Machine.execHistoryRead tag payload s
  | .historyLatest tag payload => Sys2Proof.Machine.execHistoryLatest tag payload s
  | .noticeFetch tag payload => Sys2Proof.Machine.execNoticeFetch tag payload s
  | .settingsSave tag payload => Sys2Proof.Machine.execSettingsSave tag payload s
  | .restartPart tag payload => Sys2Proof.Machine.execRestartPart tag payload s
  | .scannerBlockReset tag rest => Sys2Proof.Machine.execScannerBlockReset tag rest s
  | .probesBlockReset tag rest => Sys2Proof.Machine.execProbesBlockReset tag rest s
  | .zoneBlockReset tag rest => Sys2Proof.Machine.execZoneBlockReset tag rest s
  | .historyBlockReset tag rest => Sys2Proof.Machine.execHistoryBlockReset tag rest s
  | .noticesBlockReset tag rest => Sys2Proof.Machine.execNoticesBlockReset tag rest s
  | .characterReceived byte => Sys2Proof.Machine.execCharacterReceived byte s
  | .replyFirstCharacter => Sys2Proof.Machine.execReplyFirstCharacter s
  | .powerLoss tear => Sys2Proof.Machine.execPowerLoss tear s

end Sys2Proof.Machine
end

