-- ==== Sys2Proof/Safety.lean ====
section
/-! DEFINITION. What a safe state of the part is, in the terms the statements use: the conditions of the manual that hold
between events, each with the rule that gives it. -/

namespace Sys2Proof.Machine

/-- R155, R159: the ring holds at most 96 unread frames and the queue at most 32 notices. -/
def State.Bounded (s : State) : Prop := s.notices.length ≤ 32 ∧ s.history.frames.length ≤ 96

/-- R45, R41: a probe's value list holds at most 3 values, and its counts are at most 3. -/
def ProbeRecord.Bounded (r : ProbeRecord) : Prop := r.values.length ≤ 3 ∧ r.faultCount ≤ 3 ∧ r.jumpCount ≤ 3

/-- R41: every record keeps its bounds. -/
def State.ProbesBounded (s : State) : Prop := ∀ p, (s.probe p).Bounded

/-- R41: a record is UNASSIGNED exactly when its assignment is absent. -/
def State.AssignmentsAgree (s : State) : Prop :=
  ∀ p, (s.probe p).state = .unassigned ↔ (s.probe p).assignment = none

/-- R82, R97: a RUNNING run has no hold reason, a HELD run has one, and a run that is not in progress has none. -/
def Run.HoldAgrees (r : Run) : Prop :=
  (r.state = .held → r.reasons.isEmpty = false) ∧
  (r.state ≠ .held → r.state ≠ .safe → r.reasons.isEmpty = true)

/-- R128: every valve's forcing set holds exactly the causes present. -/
def State.ForcingAgrees (s : State) : Prop := ∀ z k, ((s.outputs.get z).valve k).forcing = s.forcingFor z k

/-- R127, R130: a valve is cycling exactly when nothing forces it, and a forced valve is OFF. -/
def Valve.Sound (v : Valve) : Prop := v.cycle.isSome = !v.forcing.any ∧ (v.forcing.any = true → v.output = false)

/-- R127: every valve record is sound. -/
def State.ValvesSound (s : State) : Prop := ∀ z k, ((s.outputs.get z).valve k).Sound

/-- R127, R128, R130: no valve is ON unless the fans run, the run is not SAFE and the outputs of its zone are driven. -/
def State.ValvesSafe (s : State) : Prop :=
  ∀ z k, ((s.outputs.get z).valve k).output = true →
    s.fans.state.isRunning = true ∧ s.run.state ≠ .safe ∧ s.ready = true ∧ s.zoneActive z = true

/-- R132: every vent shows the condition its sources give and the current of that condition. -/
def State.VentsAgree (s : State) : Prop :=
  ∀ z, (s.outputs.get z).vent.condition = s.ventConditionFor z ∧
    (s.outputs.get z).vent.current =
      commandedCurrent (s.ventConditionFor z) (s.outputs.get z).vent.demand s.settings.ventSafePosition

/-- R101: while a level-3 latch is set, the run is neither RUNNING nor HELD. -/
def State.TripsHold (s : State) : Prop := s.anyLatchOfLevel 3 = true → s.run.state.going = false

/-- R82, R101, R134, R143, R168: before READY no latch is set, no run is in progress, the scanner is OFF, the fans are
STOPPED and FAN_RUN is not compared. -/
def State.ColdAgrees (s : State) : Prop :=
  s.ready = false →
    (∀ i, (s.input i).latch = false) ∧ s.run.state.inProgress = false ∧ s.scanner.state = .off ∧
      s.fans.state = .stopped ∧ s.fans.compareActive = false

/-- R98: the hold-reason set of a run in progress has INTERLOCK exactly while a level-2 latch is set. -/
def State.InterlockAgrees (s : State) : Prop :=
  s.run.state.inProgress = true → s.run.reasons.interlock = s.anyLatchOfLevel 2

/-- R87: the step running minutes of a run never exceed its total minutes. -/
def Run.ClocksAgree (r : Run) : Prop := r.stepMinutes ≤ r.totalMinutes ∧ r.totalMinutes ≤ 4294967295

/-- R87, R106: the same of the run that a checkpoint holds. -/
def CheckpointBody.ClocksAgree (b : CheckpointBody) : Prop :=
  b.stepMinutes ≤ b.totalMinutes ∧ b.totalMinutes ≤ 4294967295

/-- R87, R174: the same of every run that the external memory holds, that is being written to it, or that waits. -/
def Memory.ClocksAgree (m : Memory) : Prop :=
  (∀ b, m.checkpointRegion = .run b → b.ClocksAgree) ∧ (∀ b, m.pendingCheckpoint = some (.run b) → b.ClocksAgree) ∧
    ∀ contents before, m.op = .checkpointWrite contents before →
      (∀ b, contents = .run b → b.ClocksAgree) ∧ ∀ b, before = .run b → b.ClocksAgree

/-- R87: the run clocks, in the run record and in every checkpoint. -/
def State.ClocksSound (s : State) : Prop := s.run.ClocksAgree ∧ s.memory.ClocksAgree

/-- R117: no zone sprays and vents at once. -/
def State.NoSprayWithVent (s : State) : Prop := ∀ z, (s.zone z).sprayDemand = 0 ∨ (s.zone z).ventDemand = 0

/-- 1.6: a measurement is in progress exactly in SCANNING, and otherwise the excitation is OFF. -/
def Scanner.Agrees (x : Scanner) : Prop :=
  (x.measurement.isSome = true ↔ x.state = .scanning) ∧ (x.state ≠ .scanning → x.excitation = .off)

/-- R134: the comparison of FAN_RUN and the state of the sequencer go together. -/
def Fans.Agrees (f : Fans) : Prop :=
  match f.state with
  | .stopped => f.expectRunning = false ∧ f.compareActive = false
  | .starting | .coasting => f.compareActive = false
  | .runningFwd => f.direction = .fwd ∧ f.expectRunning = true ∧ f.compareActive = true
  | .runningRev => f.direction = .rev ∧ f.expectRunning = true ∧ f.compareActive = true
  | .failed => f.expectRunning = false ∧ f.compareActive = true

/-- R134 to R140: the sequencer and its FAN_RUN input: an input that reads running has confirmed a start, and a set
FAN_RUN latch finds the sequencer FAILED or STOPPED. -/
def State.FansSound (s : State) : Prop :=
  s.fans.Agrees ∧ (s.fans.state = .starting → (s.input .fanRun).live = false) ∧
    ((s.input .fanRun).latch = true → s.fans.state = .failed ∨ s.fans.state = .stopped)

/-- R127 to R132, R117: forcing sets, cycles and vents agree with their sources, and no zone sprays and vents. -/
def State.OutputsSound (s : State) : Prop :=
  s.ForcingAgrees ∧ s.ValvesSound ∧ s.VentsAgree ∧ s.NoSprayWithVent

/-- R41, R45, R155, R159: every collection keeps its bound, and a record is UNASSIGNED exactly without an assignment. -/
def State.CollectionsSound (s : State) : Prop := s.Bounded ∧ s.ProbesBounded ∧ s.AssignmentsAgree

/-- R98, R101 with R82, R134, R143 and R168: while a level-3 latch is set the run is neither RUNNING nor HELD, INTERLOCK
is among the reasons of a run exactly while a level-2 latch is set, and the part before READY is as start-up left it. -/
def State.InterlocksSound (s : State) : Prop := s.TripsHold ∧ s.ColdAgrees ∧ s.InterlockAgrees

/-- R82, R91, R65: the in-band flag is set only in RUNNING, the step index is absent exactly in IDLE, a completion record
is there exactly in COMPLETE, and an adoption waits only for a run in progress. -/
def State.RunSound (s : State) : Prop :=
  s.run.HoldAgrees ∧ (s.run.inBand = true → s.run.state = .running) ∧ (s.run.stepIndex = none ↔ s.run.state = .idle) ∧
    (s.run.completion.isSome = true ↔ s.run.state = .complete) ∧
    (s.schedule.adoption.isSome = true → s.run.state.inProgress = true)

/-- R114: a loop's integrator and demand within its range. -/
def Loop.Within (lo hi : Int) (x : Loop) : Prop :=
  (lo ≤ x.integrator ∧ x.integrator ≤ hi) ∧ lo ≤ x.demand ∧ x.demand ≤ hi

/-- R115: a working setpoint between the ramp origin and the target. -/
def Ramp.Within (r : Ramp) : Prop := min r.origin r.dbTarget ≤ r.setpoint ∧ r.setpoint ≤ max r.origin r.dbTarget

/-- R114, R115: a zone within its ranges. -/
def ZoneLoops.Within (x : ZoneLoops) : Prop :=
  x.heat.Within 0 1000 ∧ x.humidity.Within (-1000) 1000 ∧ x.sprayDemand ≤ 1000 ∧ x.ventDemand ≤ 1000 ∧
    ∀ r, x.ramp = some r → r.Within

/-- R123: every manual value within its range. -/
def Settings.ManualWithin (x : Settings) : Prop :=
  ∀ z, (0 ≤ (x.zones.get z).heatManual ∧ (x.zones.get z).heatManual ≤ 1000) ∧
    -1000 ≤ (x.zones.get z).humidityManual ∧ (x.zones.get z).humidityManual ≤ 1000

/-- 11.1: the settings of every image that may be loaded, is being written or waits meet a condition. -/
def Memory.ImagesMeet (m : Memory) (condition : Settings → Prop) : Prop :=
  (∀ i, m.settingsRegion = .image i → condition i.settings) ∧ (∀ i, m.op = .saveWrite i → condition i.settings) ∧
    ∀ i, m.pendingSave = some i → condition i.settings

/-- R114, R115, R123: every zone and every manual value within its range. -/
def State.ZonesSound (s : State) : Prop :=
  (∀ z, (s.zone z).Within) ∧ s.settings.ManualWithin ∧ s.memory.ImagesMeet Settings.ManualWithin

/-- R141: the five settings of FAN_CONFIG within their ranges. -/
def Settings.FansWithin (x : Settings) : Prop :=
  (5 ≤ x.startConfirmWindow ∧ x.startConfirmWindow ≤ 60) ∧ (30 ≤ x.coastTime ∧ x.coastTime ≤ 300) ∧
    (10 ≤ x.heatPeriod ∧ x.heatPeriod ≤ 120) ∧ (10 ≤ x.sprayPeriod ∧ x.sprayPeriod ≤ 120) ∧
    (x.ventSafePosition = 0 ∨ x.ventSafePosition = 1000)

/-- R141: the fan and output settings within their ranges, in force and in every settings image (11.1). -/
def State.FanSettingsSound (s : State) : Prop := s.settings.FansWithin ∧ s.memory.ImagesMeet Settings.FansWithin

/-- Nothing is due: no event already taken has work left (log 2). -/
def State.Quiet (s : State) : Prop :=
  s.due = .none ∧ s.coastIsOver = false ∧ s.confirmIsOver = false ∧ s.scanExpiryDue = false ∧ s.reversalIsDue = false ∧
    s.restartIsDue = false

/-- A powered part with nothing due. -/
def State.Awake (s : State) : Prop := s.powered = true ∧ s.Quiet

/-- The part can take a request: awake, READY and in HUNT (R163, R165). -/
def State.Receptive (s : State) : Prop := s.Awake ∧ s.ready = true ∧ s.link.receiver = .hunt

/-- Everything but the Link Interface is as it was. -/
def OnlyLink (s t : State) : Prop := t = { s with link := t.link }

/-- Nothing of a zone, the fans, the outputs, the interlocks, the link, the clock or the supply has changed. -/
def KilnKept (s t : State) : Prop :=
  t.zones = s.zones ∧ t.fans = s.fans ∧ t.outputs = s.outputs ∧ t.interlocks = s.interlocks ∧ t.link = s.link ∧
    t.clock = s.clock ∧ t.powered = s.powered ∧ t.ready = s.ready

/-- R106: the event has asked for its checkpoint: it is requested, or it waits for the end of the minute event. -/
def AsksCheckpoint (s t : State) : Prop :=
  t.due.checkpoint = true ∨ t.memory = s.memory.requestCheckpoint t.checkpointNow

/-- R86, R104: at a step end the run has entered a step at an index, each active zone ramping from the setpoint it held;
the first EQUALIZE step of a run latches the spread of the latest publication. -/
def EntersStep (s t : State) (i : Nat) (x : StepRecord) : Prop :=
  t.run.stepIndex = some i ∧ t.run.stepMinutes = 0 ∧ t.run.settleTimer = 0 ∧ t.run.mcMet = false ∧
    t.run.timeoutTaken = false ∧ t.run.inBand = false ∧ t.run.state = s.run.state ∧ t.run.reasons = s.run.reasons ∧
    t.run.totalMinutes = s.run.totalMinutes ∧ t.run.completion = s.run.completion ∧
    (x.kind = .equalize → s.run.equalizeEntered = false →
      t.run.equalizeEntered = true ∧
        t.run.spread = (t.statistics.latest.bind (·.figures)).map fun f => f.wettest - f.driest) ∧
    (x.kind ≠ .equalize ∨ s.run.equalizeEntered = true →
      t.run.equalizeEntered = s.run.equalizeEntered ∧ t.run.spread = s.run.spread) ∧
    t.fans.reversalInterval = x.reversalInterval ∧ t.fans.speed = x.speed ∧
    (∀ z, s.zoneActive z = false → t.zone z = s.zone z) ∧
    ∀ z q, s.zoneActive z = true → (s.zone z).ramp = some q →
      t.zone z =
        { s.zone z with
          ramp :=
            some
              { dbTarget := x.dbTarget, depression := x.depression, rampRate := x.rampRate, kind := x.kind
                origin := q.setpoint, setpoint := q.setpoint } }

/-- R159: the queue after some notices of one event, in their order. -/
def noticesAfter (s : State) (xs : List (NoticeKind × Nat × Nat)) : List Notice :=
  xs.foldl
    (fun q x => pushNotice q { kind := x.1, minute := s.clock.minute, argA := x.2.1, argB := x.2.2, lostBefore := false })
    s.notices

/-- R97: a reason that follows a condition has been judged in a run `before`: it is added if the condition holds and
removed otherwise, with the notices of the change, and a HELD run whose set is then empty is RUNNING. -/
def ReasonJudged (before : Run) (reason : HoldReason) (code : Nat) (present : Prop) (after : Run)
    (notices : List (NoticeKind × Nat × Nat)) : Prop :=
  (before.state.inProgress = false ∨ (present ↔ before.reasons.has reason = true) → after = before ∧ notices = []) ∧
  (before.state.inProgress = true → present → before.reasons.has reason = false →
    let reasons := before.reasons.put reason true
    (before.state = .running →
      after = { before with state := .held, reasons, inBand := false } ∧
        notices = [(.runHeld, code, reasons.count)]) ∧
    (before.state = .held → after = { before with reasons } ∧ notices = [(.runHeld, code, reasons.count)]) ∧
    (before.state = .safe → after = { before with reasons } ∧ notices = [])) ∧
  (before.state.inProgress = true → ¬ present → before.reasons.has reason = true →
    let reasons := before.reasons.put reason false
    (before.state = .held → reasons = .empty →
      after = { before with state := .running, reasons } ∧
        ∀ i, before.stepIndex = some i → notices = [(.runResumed, i, 0)]) ∧
    (before.state ≠ .held ∨ reasons ≠ .empty → after = { before with reasons } ∧ notices = []))

/-- R110, R111: the notice that a sample of a channel brings. -/
def newsNotices (channel : Nat) : ChannelNews → List (NoticeKind × Nat × Nat)
  | .quiet => []
  | .fault cause => [(.sensorFault, channel, cause.code)]
  | .recovered => [(.sensorRecovered, channel, 0)]

/-- R110 to R112: the notices of a sample set, in ascending channel number (log 13). -/
def setNotices (s : State) (x : Zones ZoneSamples) : List (NoticeKind × Nat × Nat) :=
  [ZoneId.z1, .z2, .z3, .z4].flatMap fun z =>
    newsNotices (3 * z.number - 2) ((s.channels z).db.take (x.get z).db).2 ++
    newsNotices (3 * z.number - 1) ((s.channels z).wb.take (x.get z).wb).2 ++
    if (s.zoneSettings z).woodFitted then newsNotices (3 * z.number) ((s.channels z).wood.take (x.get z).wood).2 else []

/-- R109: the count of seconds to the next sample set at a second event; the mark is MODEL's own (log 2). -/
def SamplerCounts (s t : State) : Prop :=
  t.sampler.channels = s.sampler.channels ∧ (s.ready = false → t.sampler = s.sampler) ∧
    (s.ready = true → s.sampler.timer < 9 → t.sampler = { s.sampler with timer := s.sampler.timer + 1 }) ∧
    (s.ready = true → 9 ≤ s.sampler.timer →
      t.sampler.timer = 0 ∧ (s.sampler.mark ≠ .early → t.sampler.mark = .due) ∧
        (s.sampler.mark = .early → t.sampler.mark = .none))

/-- R115: a ramp with its working setpoint after the step running minutes. -/
def Ramp.after (r : Ramp) (minutes : Nat) : Ramp :=
  { r with
    setpoint :=
      if r.rampRate = 0 then (r.dbTarget : Int)
      else
        r.origin + Int.sign (r.dbTarget - r.origin) *
          min |(r.dbTarget : Int) - r.origin| ((r.rampRate * minutes / 60 : Nat) : Int) }

/-- R109 to R115, R98: a sample set has been taken, but for the advance test: every channel has its sample (a WOOD
channel only when fitted), each zone that holds targets its setpoint, and SENSOR is judged. -/
def SetTaken (s : State) (x : Zones ZoneSamples) (u : State) : Prop :=
  u =
    { s with sampler := u.sampler, zones := u.zones, outputs := u.outputs, run := u.run, notices := u.notices } ∧
  u.sampler.timer = s.sampler.timer ∧ u.sampler.mark = (if s.sampler.mark = .due then .none else .early) ∧
  (∀ z,
    (u.channels z).db = ((s.channels z).db.take (x.get z).db).1 ∧
    (u.channels z).wb = ((s.channels z).wb.take (x.get z).wb).1 ∧
    (u.channels z).wood =
      (if (s.zoneSettings z).woodFitted then ((s.channels z).wood.take (x.get z).wood).1 else (s.channels z).wood) ∧
    (u.zone z).ramp = (s.zone z).ramp.map fun r => r.after s.run.stepMinutes) ∧
  ∃ notices,
    ReasonJudged s.run .sensor 4 (∃ z, s.zoneActive z = true ∧ (u.channels z).db.state = .fault) u.run notices ∧
    u.notices = noticesAfter s (setNotices s x ++ notices)

/-- R91: a zone is in band: its DB, and its WB clamped to the DB unless it has failed or was never published, within the
settle band of the working setpoints. -/
def State.ZoneWithinBand (s : State) (z : ZoneId) : Prop :=
  ∃ r db, (s.zone z).ramp = some r ∧ (s.channels z).db.published = some db ∧
    |db - r.setpoint| ≤ (s.settings.settleBand : Int) ∧
    ∀ wb, (s.channels z).wb.state = .ok → (s.channels z).wb.published = some wb →
      let published := if (s.channels z).db.state = .ok then min wb db else wb
      |published - (r.setpoint - r.depression)| ≤ (s.settings.settleBand : Int)

/-- R88: the step in force has this test, and the test may be evaluated. -/
def State.Evaluates (s : State) (test : StepTest) (x : StepRecord) : Prop :=
  s.run.state = .running ∧ s.currentStep = some x ∧ x.test = test ∧ 60 * x.minHours.getD 0 ≤ s.run.stepMinutes

/-- R92: every active zone, and there is one, has a published DB at or below a target. -/
def State.CooledTo (s : State) (target : Nat) : Prop :=
  (∃ z, s.zoneActive z = true) ∧
    ∀ z, s.zoneActive z = true → ∃ v, (s.channels z).db.published = some v ∧ v ≤ target

/-- R91: the settle judgement of a sample set: what the run becomes. -/
def SettleJudged (s : State) (after : Run) : Prop :=
  ((∀ x, ¬ s.Evaluates .settled x) → after = s.run) ∧
  ∀ x, s.Evaluates .settled x →
    ((∀ z, s.zoneActive z = false) → after = { s.run with inBand := false }) ∧
    ((∃ z, s.zoneActive z = true) → (∀ z, s.zoneActive z = true → s.ZoneWithinBand z) →
      after = { s.run with inBand := true }) ∧
    ((∃ z, s.zoneActive z = true ∧ ¬ s.ZoneWithinBand z) → after = { s.run with inBand := false, settleTimer := 0 })

/-- R49: the notice of a probe that its reading has faulted. -/
def faultNotices (p : Fin 48) (before after : ProbeRecord) : List (NoticeKind × Nat × Nat) :=
  match after.faultKind with
  | some k => if before.state ≠ .faulted ∧ after.state = .faulted then [(.probeFaulted, p.val + 1, k.code)] else []
  | none => []

/-- R7, R8, R44, R49: a reading has been handed over: applied to the record of its probe, with the range memory, every
other record kept; PROBE_FAULTED is queued when it faults the probe, and nothing else unless the scan is over. -/
def HandedOver (s t : State) (m : Measurement) (reading : Reading) : Prop :=
  t.probe m.probe = (s.probe m.probe).apply s.settings.jumpLimit m.range reading ∧
    (t.probe m.probe).last = some reading ∧ (t.probe m.probe).rangeMemory = m.range ∧
    (∀ q, q ≠ m.probe → t.probe q = s.probe q) ∧
    ∃ more, t.notices = noticesAfter s (faultNotices m.probe (s.probe m.probe) (t.probe m.probe) ++ more) ∧
      ((∃ q, m.probe < q ∧ (s.probe q).qualifies = true) → more = [])

/-- R58: the notice of a publication whose quorum flag differs from the kept one, in a run that is RUNNING or HELD. -/
def quorumNotices (s : State) (eligible : Nat) : List (NoticeKind × Nat × Nat) :=
  match s.run.state.going, s.statistics.keptQuorum, decide (eligible < s.settings.q) with
  | true, .held, true => [(.quorumLost, eligible, s.settings.q)]
  | true, .lost, false => [(.quorumRegained, eligible, s.settings.q)]
  | true, .held, false | true, .lost, true | false, _, _ => []

/-- R56, R58, R94: the reading of a scan's last measurement, at a probe, and the publication have been taken, but for the
advance test: the publication is the latest, its notices are queued after that of the probe, and QUORUM is judged. -/
def PublicationTaken (s : State) (p : Fin 48) (u : State) : Prop :=
  let publication := u.publicationNow s.scanner.scanNumber
  let lost := u.eligibleProbes.length < s.settings.q
  u = { s with probes := u.probes, statistics := u.statistics, run := u.run, notices := u.notices } ∧
    u.statistics = { latest := some publication, keptQuorum := if lost then .lost else .held } ∧
    ∃ notices,
      ReasonJudged s.run .quorum 3 (lost ∧ s.settings.quorumAction = .hold) u.run notices ∧
        u.notices =
          noticesAfter s
            (faultNotices p (s.probe p) (u.probe p) ++ quorumNotices s u.eligibleProbes.length ++ notices)

/-- R89: the MC part of a step's test passes with the figures of the latest publication: the named statistic is there, and
at or below the threshold. -/
def State.McPartPasses (s : State) (x : StepRecord) : Prop :=
  ∃ publication figures statistic limit,
    s.statistics.latest = some publication ∧ publication.figures = some figures ∧ x.statistic = some statistic ∧
      x.mcThreshold = some limit ∧
      (match statistic with
        | .controlling => figures.controlling
        | .driest => figures.driest
        | .mean => figures.mean) ≤ limit

/-- R88 to R90: a step's advance test passes at the publication just taken. -/
def State.PublicationTestPasses (s : State) (x : StepRecord) : Prop :=
  s.Evaluates x.test x ∧
    ((x.test = .mc ∨ x.test = .mcOrHours) ∧ s.McPartPasses x ∨
      x.test = .mcAndHours ∧ (s.run.mcMet = true ∨ s.McPartPasses x) ∧
        ∃ h, x.testHours = some h ∧ 60 * h ≤ s.run.stepMinutes)

/-- R173: the cause that SETTINGS_DEFAULTED carries, the first that applies; none when the image is applied. -/
def defaultedCause (s : State) (settingsReads : Bool) : Option Nat :=
  if s.straps.skipSettings then some 5
  else if settingsReads = false then some 2
  else
    match s.memory.settingsRegion with
    | .unmarked => some 1
    | .otherVersion => some 3
    | .crcDisagrees => some 4
    | .image _ => none

/-- R173, R174: the notices of the load, in their order. -/
def loadNotices (s : State) (settingsReads checkpointReads : Bool) : List (NoticeKind × Nat × Nat) :=
  (defaultedCause s settingsReads).toList.map (fun cause => (.settingsDefaulted, cause, 0)) ++
    if s.straps.skipSettings ∨ settingsReads = false then []
    else if checkpointReads = false then [(.checkpointLost, 0, 0)]
    else
      match s.memory.checkpointRegion with
      | .noHeader | .noRun => []
      | .writing | .crcDisagrees => [(.checkpointLost, 0, 0)]
      | .run b => [(.runRestored, b.stepIndex, 0)]

/-- R75: the roles of the buffers have been exchanged. -/
def RolesExchanged (s t : State) : Prop :=
  t.schedule.activeSteps = s.schedule.editSteps ∧ t.schedule.editSteps = s.schedule.activeSteps ∧
    t.schedule.active ≠ s.schedule.active

/-- R83, R122, R135: what a run end leaves: the hold reasons empty, no zone on a step, every demand and integrator 0, the
fans STOPPED. -/
def RunEnded (t : State) : Prop :=
  t.run.reasons = .empty ∧ t.run.inBand = false ∧ t.fans.state = .stopped ∧
    ∀ z,
      (t.zone z).ramp = none ∧ (t.zone z).heat.integrator = 0 ∧ (t.zone z).heat.demand = 0 ∧
        (t.zone z).humidity.integrator = 0 ∧ (t.zone z).humidity.demand = 0 ∧ (t.zone z).sprayDemand = 0 ∧
        (t.zone z).ventDemand = 0 ∧ (t.outputs.get z).heat.demand = 0 ∧ (t.outputs.get z).spray.demand = 0 ∧
        (t.outputs.get z).vent.demand = 0

/-- R95, R96: what a step end leaves, after notices already queued in its event: the pending adoption's step, the run
COMPLETE after the last step, or the next step. -/
def StepEnds (s t : State) (before : List (NoticeKind × Nat × Nat)) : Prop :=
  (∀ a y, s.schedule.adoption = some a → s.schedule.editSteps[a.target]? = some y →
    RolesExchanged s t ∧ t.schedule.adoption = none ∧ EntersStep s t a.target y ∧ AsksCheckpoint s t ∧
      t.notices =
        noticesAfter s (before ++ [(.adoptionApplied, a.target, 1), (.stepEntered, a.target, y.kind.code)])) ∧
  (∀ i y, s.schedule.adoption = none → s.run.stepIndex = some i → s.schedule.activeSteps[i + 1]? = some y →
    t.schedule = s.schedule ∧ EntersStep s t (i + 1) y ∧ AsksCheckpoint s t ∧
      t.notices = noticesAfter s (before ++ [(.stepEntered, i + 1, y.kind.code)])) ∧
  ∀ i, s.schedule.adoption = none → s.run.stepIndex = some i → s.schedule.activeSteps.length = i + 1 →
    t.schedule = s.schedule ∧ RunEnded t ∧ AsksCheckpoint s t ∧
      t.run =
        { s.run with
          state := .complete, reasons := .empty, inBand := false, mcMet := t.run.mcMet
          completion :=
            some
              { totalMinutes := s.run.totalMinutes
                controlling := (t.statistics.latest.bind (·.figures)).map (·.controlling)
                driest := (t.statistics.latest.bind (·.figures)).map (·.driest)
                mean := (t.statistics.latest.bind (·.figures)).map (·.mean) } } ∧
      t.notices = noticesAfter s (before ++ [(.runComplete, i, 0)])

/-- R88 to R91, R123: the part of the advance test that a minute event carries passes; with no active zone the SETTLED
test does not. -/
def MinuteTestPasses (c : Instr) (s : State) (x : StepRecord) : Prop :=
  s.run.state = .running ∧ s.currentStep = some x ∧ 60 * x.minHours.getD 0 ≤ s.run.stepMinutes ∧
    (c = .hoursTestPass ∧ s.due.hours = true ∧ (∃ h, x.testHours = some h ∧ 60 * h ≤ s.run.stepMinutes) ∧
        (x.test = .hours ∨ x.test = .mcOrHours ∨ x.test = .mcAndHours ∧ s.run.mcMet = true) ∨
      c = .settleTimerPass ∧ s.due.settle = true ∧ s.run.inBand = true ∧ x.test = .settled ∧
        (∃ z, s.zoneActive z = true) ∧ ∃ n, x.settleMinutes = some n ∧ n ≤ s.run.settleTimer)

/-- R63, R64: a step record within its ranges, with its optional fields present as its test and its maximum hours
require. -/
def StepRecord.Legal (x : StepRecord) : Prop :=
  (200 ≤ x.dbTarget ∧ x.dbTarget ≤ 1200) ∧ x.depression ≤ 400 ∧ x.rampRate ≤ 300 ∧
    (x.reversalInterval = 0 ∨ 30 ≤ x.reversalInterval ∧ x.reversalInterval ≤ 480) ∧
    x.statistic.isSome = x.test.isMc ∧ x.mcThreshold.isSome = x.test.isMc ∧
    (∀ n, x.mcThreshold = some n → 20 ≤ n ∧ n ≤ 600) ∧ x.testHours.isSome = x.test.isHours ∧
    (∀ n, x.testHours = some n → 1 ≤ n ∧ n ≤ 999) ∧ (x.settleMinutes.isSome = true ↔ x.test = .settled) ∧
    (∀ n, x.settleMinutes = some n → 10 ≤ n ∧ n ≤ 240) ∧ (∀ n, x.minHours = some n → n ≤ 999) ∧
    (∀ n, x.maxHours = some n → 1 ≤ n ∧ n ≤ 999) ∧ x.timeoutAction.isSome = x.maxHours.isSome

/-- R170: the widths of the optional fields that a presence mask marks. -/
def optionalWidth (mask : Byte) : Nat :=
  ([1, 2, 2, 1, 2, 2, 1].zipIdx.map fun (width, bit) => if mask.getLsbD bit then width else 0).sum

/-- R170: the fields of a step record, whatever their values, in the byte form of SCHED_PUT_STEP: the fixed part with the
mask of the fields present, and those fields in field order. -/
def RawStep.bytes (x : RawStep) : List Byte :=
  let marks :=
    [x.statistic, x.mcThreshold, x.testHours, x.settleMinutes, x.minHours, x.maxHours, x.timeoutAction].zipIdx.map
      fun (field, bit) => if field.isSome then 2 ^ bit else 0
  byte1 x.kind ++ byte2 x.dbTarget ++ byte2 x.depression ++ byte2 x.rampRate ++ byte2 x.reversalInterval ++
  byte1 x.speed ++ byte1 x.test ++ byte1 marks.sum ++ (x.statistic.map byte1).getD [] ++
  (x.mcThreshold.map byte2).getD [] ++ (x.testHours.map byte2).getD [] ++ (x.settleMinutes.map byte1).getD [] ++
  (x.minHours.map byte2).getD [] ++ (x.maxHours.map byte2).getD [] ++ (x.timeoutAction.map byte1).getD []

/-- Every field fits its width on the link. -/
def RawStep.Fits (x : RawStep) : Prop :=
  (x.kind < 256 ∧ x.speed < 256 ∧ x.test < 256) ∧
    (x.dbTarget < 65536 ∧ x.depression < 65536 ∧ x.rampRate < 65536 ∧ x.reversalInterval < 65536) ∧
    (∀ n, x.statistic = some n ∨ x.settleMinutes = some n ∨ x.timeoutAction = some n → n < 256) ∧
    ∀ n, x.mcThreshold = some n ∨ x.testHours = some n ∨ x.minHours = some n ∨ x.maxHours = some n → n < 65536

/-- R63, R64, R69: what fields 2 to 15 of a step record must meet, in field order: the range of each, and for an optional
field its presence too. The tests are 0 SETTLED, 1 COOLED, 2 MC, 3 HOURS, 4 MC_OR_HOURS and 5 MC_AND_HOURS. -/
def RawStep.conditions (x : RawStep) : List Prop :=
  let isMc := x.test = 2 ∨ x.test = 4 ∨ x.test = 5
  let isHours := x.test = 3 ∨ x.test = 4 ∨ x.test = 5
  let needs := fun (needed : Prop) (field : Option Nat) (lo hi : Nat) =>
    (needed ↔ field.isSome = true) ∧ ∀ n, field = some n → lo ≤ n ∧ n ≤ hi
  [x.kind ≤ 4, 200 ≤ x.dbTarget ∧ x.dbTarget ≤ 1200, x.depression ≤ 400, x.rampRate ≤ 300,
    x.reversalInterval = 0 ∨ 30 ≤ x.reversalInterval ∧ x.reversalInterval ≤ 480, x.speed ≤ 1, x.test ≤ 5,
    needs isMc x.statistic 0 2, needs isMc x.mcThreshold 20 600, needs isHours x.testHours 1 999,
    needs (x.test = 0) x.settleMinutes 10 240, ∀ n, x.minHours = some n → n ≤ 999,
    ∀ n, x.maxHours = some n → 1 ≤ n ∧ n ≤ 999, needs (x.maxHours.isSome = true) x.timeoutAction 0 1]

/-- The condition at an index is the first of a list that does not hold. -/
def FirstFailing (conditions : List Prop) (i : Nat) : Prop :=
  (∃ x, conditions[i]? = some x ∧ ¬ x) ∧ ∀ j x, j < i → conditions[j]? = some x → x

/-- 10.5: the kind, tag and payload of a request of the host; none for the part's own events. -/
def requestOf : Instr → Option (Byte × Byte × List Byte)
  | .identify t p => some (0x01, t, p)
  | .status t p => some (0x02, t, p)
  | .probeSet t p => some (0x10, t, p)
  | .probeGet t p => some (0x11, t, p)
  | .probeBlock t p => some (0x12, t, p)
  | .probeUnblock t p => some (0x13, t, p)
  | .probeReadmit t p => some (0x14, t, p)
  | .probeConfig t p => some (0x15, t, p)
  | .statsGet t p => some (0x16, t, p)
  | .scanConfig t p => some (0x17, t, p)
  | .scanNow t p => some (0x18, t, p)
  | .curvePut t p => some (0x1A, t, p)
  | .curveGet t p => some (0x1B, t, p)
  | .curveClear t p => some (0x1C, t, p)
  | .schedClear t p => some (0x20, t, p)
  | .schedPutStep t p => some (0x21, t, p)
  | .schedTruncate t p => some (0x22, t, p)
  | .schedCopyActive t p => some (0x23, t, p)
  | .schedGetStep t p => some (0x24, t, p)
  | .schedAdoptNow t p => some (0x25, t, 0x00 :: p)
  | .schedAdoptAtStepEnd t p => some (0x25, t, 0x01 :: p)
  | .schedAdoptCancel t p => some (0x26, t, p)
  | .runStart t p => some (0x28, t, p)
  | .runHold t p => some (0x29, t, p)
  | .runResume t p => some (0x2A, t, p)
  | .runRestart t p => some (0x2B, t, p)
  | .runAbort t p => some (0x2C, t, p)
  | .runGet t p => some (0x2D, t, p)
  | .zoneConfig t p => some (0x30, t, p)
  | .zoneGet t p => some (0x31, t, p)
  | .loopMode t p => some (0x32, t, p)
  | .fanConfig t p => some (0x33, t, p)
  | .interlockConfig t p => some (0x38, t, p)
  | .interlockGet t p => some (0x39, t, p)
  | .interlockClear t p => some (0x3A, t, p)
  | .historyRead t p => some (0x40, t, p)
  | .historyLatest t p => some (0x41, t, p)
  | .noticeFetch t p => some (0x42, t, p)
  | .settingsSave t p => some (0x48, t, p)
  | .scannerBlockReset t p => some (0x49, t, 0x00 :: p)
  | .probesBlockReset t p => some (0x49, t, 0x01 :: p)
  | .zoneBlockReset t p => some (0x49, t, 0x02 :: p)
  | .historyBlockReset t p => some (0x49, t, 0x03 :: p)
  | .noticesBlockReset t p => some (0x49, t, 0x04 :: p)
  | .restartPart t p => some (0x4A, t, p)
  | .unknownRequest k t p => some (k, t, p)
  | .powerOn _ _ | .loadEnd _ _ | .secondEvent | .minuteEvent | .sampleSet _ | .scanTimerExpiry | .settleEnd
  | .thresholdCrossed _ | .counterFull | .hoursTestPass | .settleTimerPass | .stepTimeout | .runHourCheckpoint
  | .liveLevelChange _ _ | .startConfirmExpiry | .reversalDue | .coastEnd | .valveOnTimeReached _ _
  | .valveCycleEnd _ _ | .checkpointWriteEnd _ | .saveWriteEnd _ | .gapTimeout | .frameLengthInvalid _ | .frameSkipped
  | .frameCrcFail _ | .replyEnd | .partRestart | .characterReceived _ | .replyFirstCharacter | .powerLoss _ => none

/-- Characters received one after another. -/
def receiveAll : List Byte → State → Host.Outcome State Fault Refusal
  | [], s => .next s
  | b :: rest, s =>
    match exec (.characterReceived b) s with
    | .next t => receiveAll rest t
    | .fault f => .fault f
    | .refused r => .refused r

/-- R165, R166: after a request taken in `s`, the part is ANSWERING in `t` with the reply frame of this status, detail and
request-specific part, the header showing the run state and pending count of `t`. -/
def Answered (s t : State) (kind tag : Byte) (r : Reply) : Prop :=
  t.link = { s.link with receiver := .answering, reply := some (t.replyFrame kind tag r), driver := false }

/-- R164, R165: the receiver awaits the last CRC byte of a frame of this kind, tag and payload, whose CRC that byte
completes. -/
def AwaitsLastByte (s : State) (kind tag : Byte) (payload : List Byte) (low : Byte) : Prop :=
  ∃ address length high, s.link.receiver = .crc address length (kind :: tag :: payload) (some high) ∧
    crcBytes (crcOf (address :: length :: kind :: tag :: payload)) = [high, low]

/-- A request is taken in `s`, and the reply in hand in `t` is its reply. -/
def Served (c : Instr) (s t : State) (r : Reply) : Prop :=
  ∃ kind tag payload, requestOf c = some (kind, tag, payload) ∧ exec c s = .next t ∧ Answered s t kind tag r

/-- A request is taken and answered, and nothing but the Link Interface has changed. -/
def ServedUnchanged (c : Instr) (s : State) (r : Reply) : Prop := ∃ t, Served c s t r ∧ OnlyLink s t

/-- R135, R140: the notices of a start of STOPPED fans: none, or FAN_FAILED when the FAN_RUN latch is set, after the second
trip of a latched input that reads running (R146; its place is log 9). -/
def fanStartNotices (s : State) : List (NoticeKind × Nat × Nat) :=
  if s.fans.state = .stopped ∧ (s.input .fanRun).latch = true then
    (if (s.input .fanRun).live = true ∧ 1 ≤ s.inputLevel .fanRun then
      [(.interlockTripped, 2, s.inputLevel .fanRun)]
    else []) ++ [(.fanFailed, 0, 0)]
  else []

/-- R1: a threshold crossing at count n, or the counter full, which is a count of 65535. -/
def CountsTo (c : Instr) (n : Nat) : Prop := c = .thresholdCrossed n ∧ n ≤ 65534 ∨ c = .counterFull ∧ n = 65535

/-- R4, R6: a count that ends the measurement in progress, and the outcome. -/
def EndsMeasurement (m : Measurement) (n : Nat) (outcome : Outcome) : Prop :=
  m.phase = .counting ∧
    ((m.nPlus = none ∧
        (n < 1024 ∧ m.range = 0 ∧ outcome = .short ∨ 60000 < n ∧ m.range = 3 ∧ outcome = .dryLimit ∨
          (n < 1024 ∧ m.range ≠ 0 ∨ 60000 < n ∧ m.range ≠ 3) ∧ 4 ≤ m.attempt ∧ outcome = .unstable)) ∨
      (m.nPlus.isSome = true ∧
        ((1024 ≤ n ∧ n ≤ 60000) ∧ outcome = .pair ∨ (n < 1024 ∨ 60000 < n) ∧ outcome = .polarized)))

/-- R138: no reversal begins when the fans run. -/
def Fans.NoReversal (f : Fans) : Prop := f.reversalInterval = 0 ∨ f.reversalTimer < f.reversalInterval

/-- R128: every valve is OFF and FORCED, with no cycle. -/
def State.AllValvesForced (s : State) : Prop :=
  ∀ z k, ((s.outputs.get z).valve k).output = false ∧ ((s.outputs.get z).valve k).cycle = none ∧
    ((s.outputs.get z).valve k).forcing.any = true

/-- R101, R135: what a run's entry into SAFE leaves on an input's level-3 trip: the run SAFE, the fans STOPPED, every
valve forced and every driven vent at its safe position. -/
def EntersSafe (s t : State) : Prop :=
  t.run = { s.run with state := .safe, inBand := false } ∧
    t.fans =
      { s.fans with
        state := .stopped, expectRunning := false, compareActive := false, coastTimer := 0, confirmTimer := 0 } ∧
    t.AllValvesForced ∧ AsksCheckpoint s t ∧
    ∀ z, s.ready = true → s.zoneActive z = true →
      (t.outputs.get z).vent.condition = .safe ∧
        (t.outputs.get z).vent.current = 4000 + 16 * s.settings.ventSafePosition

/-- R97: a RUNNING run with no reason is HELD by INTERLOCK. -/
def HeldByInterlock (s t : State) : Prop :=
  t.run = { s.run with state := .held, reasons := { HoldSet.empty with interlock := true }, inBand := false } ∧
    AsksCheckpoint s t

/-- R146, R140, R98, R101: FAN_RUN, stopped where it should run, has tripped by its level: at level 1 the fans fail, at
level 2 a RUNNING run is HELD as well, at level 3 a run that is RUNNING or HELD is SAFE and the fans are STOPPED. The
order of the notices of level 2 and 3 is free (R140, R142, R147, log 4): at level 3 the sequencer may take SAFE before the
latch, and FAN_FAILED is then not queued. `left` is the code of the state left. -/
def FanRunTrips (s t : State) (left : Nat) : Prop :=
  let failed :=
    { s.fans with state := .failed, expectRunning := false, compareActive := true, confirmTimer := 0, coastTimer := 0 }
  let tripped := (NoticeKind.interlockTripped, 2, s.inputLevel .fanRun)
  let fanFailed := (NoticeKind.fanFailed, s.fans.direction.code, left)
  t =
      { s with
        interlocks := s.interlocks.set .fanRun { live := false, latch := true, trippedAt := some s.clock.minute }
        notices := t.notices, run := t.run, fans := t.fans, outputs := t.outputs, memory := t.memory
        draws := s.draws + 1 } ∧
    t.AllValvesForced ∧
    (s.inputLevel .fanRun = 1 → t.fans = failed ∧ t.run = s.run ∧ t.notices = noticesAfter s [tripped, fanFailed]) ∧
    (s.inputLevel .fanRun = 2 → s.run.state = .running → s.run.reasons = .empty →
      t.fans = failed ∧ HeldByInterlock s t ∧
        (t.notices = noticesAfter s [tripped, fanFailed, (.runHeld, 5, 1)] ∨
          t.notices = noticesAfter s [tripped, (.runHeld, 5, 1), fanFailed])) ∧
    (s.inputLevel .fanRun = 3 → s.run.state.going = true →
      EntersSafe s t ∧
        (t.notices = noticesAfter s [tripped, fanFailed, (.runSafe, 2, 0)] ∨
          t.notices = noticesAfter s [tripped, (.runSafe, 2, 0), fanFailed] ∨
          t.notices = noticesAfter s [tripped, (.runSafe, 2, 0)]))

/-- R136, R137: the fans run in the direction they were started, with the comparison resumed; a valve that only the fans
forced starts a cycle (R128, R130), and every other valve stays as it is but for the cause FANS. -/
def FansRun (s t : State) (confirmed : Bool) : Prop :=
  t.fans =
      { s.fans with
        state := if s.fans.direction = .fwd then .runningFwd else .runningRev
        confirmed, expectRunning := true, compareActive := true } ∧
    ∀ z k,
      let v := (s.outputs.get z).valve k
      (t.outputs.get z).valve k =
        if v.forcing = { released := false, safe := false, fans := true, dbFault := false } then
          { v with forcing := { released := false, safe := false, fans := false, dbFault := false } }.startCycle
            (s.settings.period k)
        else { v with forcing := { v.forcing with fans := false } }

/-- R11: a scan has completed with start-due clear: no channel, the excitation OFF, WAITING with the timer as it stands,
or OFF with the timer at 0. -/
def Scanner.rested (x : Scanner) (enable : Bool) : Scanner :=
  { x with
    excitation := .off, measurement := none, state := if enable then .waiting else .off
    timer := if enable then x.timer else 0 }

/-- R154: the frame of a publication: its own figures, the run as it has then been left, the DB and clamped WB of every
active zone, and the entry of every assigned probe. -/
def frameFor (s t : State) (p : Publication) : Frame :=
  { sequence := (s.history.sequence + 1) % 65536, minute := s.clock.minute, scanNumber := p.scanNumber
    runState := t.run.state, stepIndex := if t.run.state.inProgress then t.run.stepIndex else none
    eligible := p.eligible, slip := false
    figures :=
      p.figures.map fun f =>
        { controlling := f.controlling, wettest := f.wettest, driest := f.driest, mean := f.mean }
    zones :=
      ([ZoneId.z1, .z2, .z3, .z4].filter s.zoneActive).map fun z =>
        { zone := z, db := (s.channels z).db.usable
          wb := (s.channels z).wb.usable.map fun wb => ((s.channels z).db.usable.map (min wb)).getD wb }
    probes := p.entries }

/-- R155: the frame of a publication has been taken into the ring: appended with room for it, and otherwise with the
oldest frame discarded, the ring's slip flag set and the frame that is now oldest marked. -/
def FrameTaken (s t : State) (p : Publication) : Prop :=
  (s.history.frames.length < 96 →
    t.history =
      { frames := s.history.frames ++ [frameFor s t p], latest := some (frameFor s t p), slip := s.history.slip
        sequence := (s.history.sequence + 1) % 65536 }) ∧
  ∀ oldest next rest, s.history.frames = oldest :: next :: rest → s.history.frames.length = 96 →
    t.history =
      { frames := { next with slip := true } :: rest ++ [frameFor s t p], latest := some (frameFor s t p), slip := true
        sequence := (s.history.sequence + 1) % 65536 }

/-- R11, R56, R155: a scan is over with start-due clear: the scanner rests, the statistics are published from what then
stands, and the frame is taken. -/
def ScanEnds (s t : State) : Prop :=
  t.scanner = s.scanner.rested s.settings.scanEnable ∧
    let publication := t.publicationNow s.scanner.scanNumber
    t.statistics = { latest := some publication, keptQuorum := publication.quorum } ∧ FrameTaken s t publication

/-- R42, R51, R53 with R19: a request that writes one probe's record. A measurement of another probe is left; one of this
probe is discarded, and the next qualifying probe above it is selected with the level kept; with none the scan completes
(R11). -/
def WritesRecord (c : Instr) (s : State) (p : Fin 48) (r : ProbeRecord) : Prop :=
  (s.underMeasurement p = false →
    ∃ t, Served c s t (.of .ok (t.probePart p)) ∧ t = { s with probes := setTable s.probes p r, link := t.link }) ∧
  (∀ m q, s.scanner.measurement = some m → m.probe = p → p < q → (s.probe q).qualifies = true →
    (∀ x, p < x → x < q → (s.probe x).qualifies = false) →
    ∃ t, Served c s t (.of .ok (t.probePart p)) ∧
      t =
        { s with
          probes := setTable s.probes p r, scanner := s.scanner.select q (s.probe q).rangeMemory, link := t.link }) ∧
  ∀ m, s.scanner.measurement = some m → m.probe = p → (∀ x, p < x → (s.probe x).qualifies = false) →
    s.scanner.startDue = false →
    ∃ t, Served c s t (.of .ok (t.probePart p)) ∧ t.probe p = r ∧ (∀ q, q ≠ p → t.probe q = s.probe q) ∧
      ScanEnds s t ∧ t.settings = s.settings ∧ t.sampler = s.sampler ∧
      t.interlocks = s.interlocks ∧ t.clock = s.clock ∧ t.ready = s.ready

/-- R9, R10: a scan has started at a probe. -/
def ScanStarts (s t : State) (p : Fin 48) : Prop :=
  t.scanner =
    { (s.scanner.select p (s.probe p).rangeMemory) with
      state := .scanning, scanNumber := (s.scanner.scanNumber + 1) % 65536
      timer := if t.settings.scanEnable then 0 else s.scanner.timer
      startDue := if t.settings.scanEnable then false else s.scanner.startDue }

/-- R9, R11, R56, R155: a scan has started with no probe to measure and scan enable ON: it has completed at its start, with
its own number, and the scanner waits. -/
def ScanStartsEmpty (s t : State) : Prop :=
  let number := (s.scanner.scanNumber + 1) % 65536
  let publication := t.publicationNow number
  t.scanner =
      { s.scanner with
        state := .waiting, scanNumber := number, timer := 0, startDue := false, excitation := .off, measurement := none } ∧
    t.statistics = { latest := some publication, keptQuorum := publication.quorum } ∧ FrameTaken s t publication

/-- R10: the lowest-numbered qualifying probe. -/
def State.FirstProbe (s : State) (p : Fin 48) : Prop :=
  (s.probe p).qualifies = true ∧ ∀ q, q < p → (s.probe q).qualifies = false

/-- R31, R33: points that a curve may have. -/
def LegalPoints (points : List CurvePoint) : Prop :=
  (2 ≤ points.length ∧ points.length ≤ 12) ∧ (∀ p ∈ points, p.lc ≤ 2000 ∧ 20 ≤ p.mc ∧ p.mc ≤ 600) ∧
    points.IsChain fun p q => p.lc < q.lc ∧ q.mc ≤ p.mc

/-- R33, check 4: what the fields of a curve's points must meet, in field order from field 4 on: the range of each Lc and
MC, each Lc above the one before and each MC at or below the one before. -/
def pointConditions (points : List CurvePoint) : List Prop :=
  points.zipIdx.flatMap fun (p, i) =>
    [p.lc ≤ 2000 ∧ ∀ q, 1 ≤ i → points[i - 1]? = some q → q.lc < p.lc,
      (20 ≤ p.mc ∧ p.mc ≤ 600) ∧ ∀ q, 1 ≤ i → points[i - 1]? = some q → p.mc ≤ q.mc]

/-- The byte form of a curve's points (R33). -/
def pointBytes (points : List CurvePoint) : List Byte := points.flatMap fun p => byte2 p.lc ++ byte2 p.mc

/-- R132, R127, 1.6, R134, R114, R41, R82, R87, R98, R101: what every step keeps. -/
structure State.Sound (s : State) : Prop where
  collections : s.CollectionsSound
  run : s.RunSound
  clocks : s.ClocksSound
  outputs : s.OutputsSound
  interlocks : s.InterlocksSound
  fans : s.FansSound
  fanSettings : s.FanSettingsSound
  scanner : s.scanner.Agrees
  zones : s.ZonesSound

end Sys2Proof.Machine
end

