-- ==== Sys2Proof/Certificates/Slice0/Obligations.lean ====
section
/-! DEFINITION. The statements about the part. A statement of a command's result says that it completes: its hypotheses
are on the state and the operands alone, and its conclusion is that the command answers a next state. -/

open Sys2Proof Sys2Proof.Machine

/-! ### The machine, the supply and the settings memory -/

/-- Requests and events are taken one after another (R107, R165). That they stand in a queue, first in, first out, is
MODEL's choice (log 18): a step takes the command at the front of the queue, with the queue's rest. -/
def Obligations.StepTakesTheFrontCommand : Prop :=
  ∀ (c : Instr) (rest : List Instr) (s : State), s.pending = c :: rest → step s = exec c { s with pending := rest }

/-- R171: POWER_ON of a part with no write in flight: the straps are latched, every block takes its power-on values, the
live levels are those of the contacts, the Part Clock is at 0, and the load is in flight. DEDUCED (log 2): the
work that a powered part still has due is done before, which can only change the external memory and the draws. -/
def Obligations.PowerOnStartsEveryBlockAfresh : Prop :=
  (∀ (s : State) (straps : Straps) (contacts : Inputs Bool),
    let u := s.caughtUp
    u.memory.op = .none ∨ u.memory.op = .load →
    exec (.powerOn straps contacts) s =
      .next
        { State.reset with
          straps
          interlocks := contacts.map fun _ closed => { live := closed, latch := false, trippedAt := none }
          memory :=
            { settingsRegion := u.memory.settingsRegion, checkpointRegion := u.memory.checkpointRegion, op := .load,
              pendingCheckpoint := none, pendingSave := none, loadWaits := false }
          draws := u.draws
          pending := s.pending }) ∧
  ∀ s : State, s.powered = false ∨ s.Quiet → s.caughtUp = s

/-- R175, with MODEL's choice of what is left of the state (log 6), and the due work done before the loss, DEDUCED (log 2):
a power loss leaves a settings region whose CRC disagrees when a save write was in flight, a torn checkpoint region when
a checkpoint write was, and the other region as it was; without supply every command but POWER_ON changes nothing. -/
def Obligations.PowerLossTearsOnlyTheRegionBeingWritten : Prop :=
  (∀ (s : State) (tear : Tear), s.powered = true →
    let u := s.caughtUp
    ∃ t, exec (.powerLoss tear) s = .next t ∧ t.powered = false ∧ t.ready = false ∧ t.memory.op = .none ∧
      t.memory.pendingCheckpoint = none ∧ t.memory.pendingSave = none ∧
      t.memory.checkpointRegion =
        (match u.memory.op, tear with
          | .checkpointWrite _ _, .writing => .writing
          | .checkpointWrite _ _, .crcDisagrees => .crcDisagrees
          | .none, _ | .load, _ | .saveWrite _, _ => u.memory.checkpointRegion) ∧
      t.memory.settingsRegion =
        (match u.memory.op with
          | .saveWrite _ => .crcDisagrees
          | .none | .load | .checkpointWrite _ _ => u.memory.settingsRegion) ∧
      t.run.state = .idle ∧ t.notices = [] ∧ t.history.frames = [] ∧ t.fans.state = .stopped ∧ t.AllValvesForced) ∧
  ∀ (c : Instr) (s : State), s.powered = false → (∀ straps contacts, c ≠ .powerOn straps contacts) → exec c s = .next s

/-- R171, R173: LOAD_END brings READY. A region that holds an image, read without SKIP_SETTINGS, gives every setting and
the probe assignments of R41; otherwise the settings and probes stay at the defaults power-on gave them.
The notices of the load come first: SETTINGS_DEFAULTED with its cause, then RUN_RESTORED or CHECKPOINT_LOST (R174).
R173, R174: with default settings, contacts that conform and no run restored they are the only notices, and the run stays
IDLE; with the probes all UNASSIGNED the first scan is scan 1 and completes at its start. -/
def Obligations.LoadEndReachesReady : Prop :=
  (∀ (s : State) (settingsReads checkpointReads : Bool),
    s.Awake → s.ready = false → s.memory.op = .load → s.memory.loadWaits = false →
    ∃ t, exec (.loadEnd settingsReads checkpointReads) s = .next t ∧ t.ready = true ∧ t.memory.op ≠ .load ∧
      t.sampler.timer = 0 ∧ t.straps = s.straps ∧ t.clock = s.clock ∧ t.link = s.link ∧ t.pending = s.pending ∧
      t.powered = true ∧ (∃ more, t.notices = noticesAfter s (loadNotices s settingsReads checkpointReads ++ more)) ∧
      (∀ image, s.memory.settingsRegion = .image image → s.straps.skipSettings = false → settingsReads = true →
        t.settings = image.settings ∧
        ∀ p,
          t.probe p =
            match (getTable image.probes p).assignment with
            | none => ProbeRecord.cleared
            | some a =>
              { ProbeRecord.cleared with
                assignment := some a, state := if (getTable image.probes p).blocked then .blocked else .new }) ∧
      ((∀ image, s.memory.settingsRegion ≠ .image image) ∨ s.straps.skipSettings = true ∨ settingsReads = false →
        t.settings = s.settings ∧ t.probes = s.probes)) ∧
  (∀ (s : State) (settingsReads checkpointReads : Bool),
    s.Awake → s.ready = false → s.memory.op = .load → s.memory.loadWaits = false → s.memory.pendingCheckpoint = none →
    s.memory.pendingSave = none → s.run = .cleared → s.settings = .default → s.scanner = .powerOn → s.notices = [] →
    s.fans = .powerOn →
    (∀ p, s.probe p = .cleared) →
    (∀ i, (s.settings.interlocks.get i).compare = true → i ≠ .fanRun → (s.input i).live = true) →
    (∀ image, s.memory.settingsRegion = .image image → s.straps.skipSettings = true ∨ settingsReads = false) →
    (∀ b, s.memory.checkpointRegion = .run b →
      checkpointReads = false ∨ s.straps.skipSettings = true ∨ settingsReads = false) →
    ∃ t, exec (.loadEnd settingsReads checkpointReads) s = .next t ∧
      t.notices = noticesAfter s (loadNotices s settingsReads checkpointReads) ∧ t.run = .cleared ∧ t.memory.op = .none ∧
      t.scanner = { Scanner.powerOn with state := .waiting, scanNumber := 1 } ∧ t.fans = s.fans ∧
      t.statistics.keptQuorum = .lost ∧ t.history.sequence = (s.history.sequence + 1) % 65536)

/-- R174, R82, R65, R114: a checkpoint that marks a run is restored: the schedule in buffer A as ACTIVE, the run HELD (or
SAFE, if a level-3 input trips at READY) with RESTORED among its reasons, and each active zone at its stored origin.
RUN_RESTORED with the step index stands after SETTINGS_DEFAULTED, if that is queued (R173), and before every notice of
READY. -/
def Obligations.LoadEndRestoresTheRun : Prop :=
  ∀ (s : State) (b : CheckpointBody),
    s.Awake → s.ready = false → s.memory.op = .load → s.memory.loadWaits = false → s.straps.skipSettings = false →
    s.memory.checkpointRegion = .run b →
    ∃ t, exec (.loadEnd true true) s = .next t ∧ t.ready = true ∧
      t.schedule = { bufferA := b.schedule, bufferB := [], active := .a, adoption := none } ∧
      (∃ more,
        t.notices =
          noticesAfter s
            ((defaultedCause s true).toList.map (fun cause => (.settingsDefaulted, cause, 0)) ++
              (.runRestored, b.stepIndex, 0) :: more)) ∧
      (t.run.state = .held ∨ t.run.state = .safe) ∧ t.run.reasons.restored = true ∧ t.run.restored = true ∧
      t.run.stepIndex = some b.stepIndex ∧ t.run.stepMinutes = b.stepMinutes ∧ t.run.totalMinutes = b.totalMinutes ∧
      t.run.mcMet = b.mcMet ∧ t.run.timeoutTaken = b.timeoutTaken ∧ t.run.equalizeEntered = b.equalizeEntered ∧
      t.run.spread = b.spread ∧ t.run.settleTimer = 0 ∧ t.run.inBand = false ∧ t.run.completion = none ∧
      ∀ step, b.schedule[b.stepIndex]? = some step →
        t.fans.reversalInterval = step.reversalInterval ∧ t.fans.speed = step.speed ∧
        ∀ z, t.zoneActive z = true →
          (t.zone z).ramp =
            some
              { dbTarget := step.dbTarget, depression := step.depression, rampRate := step.rampRate, kind := step.kind
                origin := (b.origins.get z).getD step.dbTarget, setpoint := (b.origins.get z).getD step.dbTarget }

/-- R175: the end of a checkpoint write leaves in its region what was written when the read-back agrees, queues no
notice, and starts the pending checkpoint, else the load a restart waits for (R177), else the pending save.
R175: the end of a save write whose read-back agrees leaves the image and queues SAVE_DONE, any other end queues
SAVE_FAILED; then the pending checkpoint starts, else the pending save. After a restart no notice is queued (R177). -/
def Obligations.WriteEndsStartTheNextOperation : Prop :=
  (∀ (s : State) (contents : Checkpoint) (before : CheckpointRegion) (result : CheckpointEnd),
    s.Awake → s.memory.op = .checkpointWrite contents before →
    ∃ t region, exec (.checkpointWriteEnd result) s = .next t ∧ t = { s with memory := t.memory } ∧
      (result = .agrees → region = match contents with | .noRun => .noRun | .run body => .run body) ∧
      (∀ d, s.memory.pendingCheckpoint = some d →
        t.memory =
          { s.memory with op := .checkpointWrite d region, checkpointRegion := .writing, pendingCheckpoint := none }) ∧
      (s.memory.pendingCheckpoint = none → s.memory.loadWaits = true →
        t.memory = { s.memory with checkpointRegion := region, op := .load, loadWaits := false }) ∧
      (s.memory.pendingCheckpoint = none → s.memory.loadWaits = false → ∀ i, s.memory.pendingSave = some i →
        t.memory = { s.memory with checkpointRegion := region, op := .saveWrite i, pendingSave := none }) ∧
      (s.memory.pendingCheckpoint = none → s.memory.loadWaits = false → s.memory.pendingSave = none →
        t.memory = { s.memory with checkpointRegion := region, op := .none })) ∧
  (∀ (s : State) (image : Image) (result : SaveEnd), s.Awake → s.memory.op = .saveWrite image →
    ∃ t region, exec (.saveWriteEnd result) s = .next t ∧
      t = { s with memory := t.memory, notices := t.notices } ∧ (result = .agrees → region = .image image) ∧
      (s.memory.loadWaits = true → t.notices = s.notices) ∧
      (s.memory.loadWaits = false →
        t.notices = noticesAfter s [(if result = .agrees then .saveDone else .saveFailed, 0, 0)]) ∧
      (∀ d, s.memory.pendingCheckpoint = some d →
        t.memory =
          { s.memory with
            settingsRegion := region, op := .checkpointWrite d s.memory.checkpointRegion, checkpointRegion := .writing,
            pendingCheckpoint := none }) ∧
      (s.memory.pendingCheckpoint = none → s.memory.loadWaits = true →
        t.memory = { s.memory with settingsRegion := region, op := .load, loadWaits := false }) ∧
      (s.memory.pendingCheckpoint = none → s.memory.loadWaits = false → ∀ i, s.memory.pendingSave = some i →
        t.memory = { s.memory with settingsRegion := region, op := .saveWrite i, pendingSave := none }) ∧
      (s.memory.pendingCheckpoint = none → s.memory.loadWaits = false → s.memory.pendingSave = none →
        t.memory = { s.memory with settingsRegion := region, op := .none }))

/-- R177: a restart acts as power-on but for the straps, the History Ring and the Part Clock; the pending save is dropped,
and the load starts at once with nothing in flight, or waits for the operation in flight. DEDUCED (log 2): a minute
event already taken is finished before. The live levels are those of the contacts as they stand (R143), which the part
has not taken and which are free values (MODEL's, log 6). -/
def Obligations.PartRestartKeepsClockRingAndStraps : Prop :=
  (∀ s : State, s.powered = true → s.link.restart = true → s.link.receiver ≠ .answering →
    let u := s.takeMinuteWork
    (u.memory.op = .none → u.memory.pendingCheckpoint = none) →
    exec .partRestart s =
      .next
        { State.reset with
          straps := s.straps, clock := s.clock, history := s.history
          interlocks :=
            s.interlocks.map fun i _ =>
              { live := Config.contactAtRestart s.draws i.number, latch := false, trippedAt := none }
          memory :=
            if u.memory.op = .none then { u.memory with op := .load, pendingSave := none, loadWaits := false }
            else { u.memory with pendingSave := none, loadWaits := true }
          draws := s.draws + 1
          pending := s.pending }) ∧
  ∀ s : State, s.due = .none → s.takeMinuteWork = s

/-! ### Clocks, sample sets and zones -/

/-- R172, R109, R137, R139: a SECOND_EVENT that is not the 60th: the second count, the coast and start-confirm timers,
and after READY the count of seconds to the next sample set (its mark is MODEL's own, log 2).
R172, R87, R91, R12, R138: the second event at which the second count would pass 59 is also a minute event, and
MINUTE_EVENT is that event (log 1): the minute counter, the two run clocks, the settle timer, the scan timer and the
reversal timer count, with the timers that count every second, and the run judgements of the event are marked as due
(log 2). A run clock past the top of its range takes a free value (log 7). -/
def Obligations.ClockEventsCount : Prop :=
  (∀ s : State, s.Awake → s.clock.second < 59 →
    ∃ t, exec .secondEvent s = .next t ∧ t = { s with clock := t.clock, fans := t.fans, sampler := t.sampler } ∧
      t.clock = { minute := s.clock.minute, second := s.clock.second + 1 } ∧
      t.fans =
        (match s.fans.state with
          | .coasting => { s.fans with coastTimer := s.fans.coastTimer + 1 }
          | .starting => { s.fans with confirmTimer := s.fans.confirmTimer + 1 }
          | .stopped | .runningFwd | .runningRev | .failed => s.fans) ∧
      SamplerCounts s t) ∧
  ((∀ s : State, s.Awake → s.clock.second ≠ 59 → exec .minuteEvent s = .next s) ∧
  ∀ s : State, s.Awake → s.clock.second = 59 →
    ∃ t, exec .minuteEvent s = .next t ∧ exec .secondEvent s = .next t ∧
      t = { s with clock := t.clock, fans := t.fans, sampler := t.sampler, scanner := t.scanner, run := t.run, due := t.due } ∧
      t.clock = { minute := (s.clock.minute + 1) % 4294967296, second := 0 } ∧
      t.run =
        { s.run with
          stepMinutes := t.run.stepMinutes, totalMinutes := t.run.totalMinutes, settleTimer := t.run.settleTimer } ∧
      (s.run.state = .running → s.run.stepMinutes < 4294967295 → t.run.stepMinutes = s.run.stepMinutes + 1) ∧
      (s.run.state ≠ .running → t.run.stepMinutes = s.run.stepMinutes) ∧
      (s.run.state.inProgress = true → s.run.totalMinutes < 4294967295 → t.run.totalMinutes = s.run.totalMinutes + 1) ∧
      (s.run.state.inProgress = false → t.run.totalMinutes = s.run.totalMinutes) ∧
      (s.run.state = .running → s.run.inBand = true → s.run.settleTimer < 240 →
        t.run.settleTimer = s.run.settleTimer + 1) ∧
      (s.run.state ≠ .running ∨ s.run.inBand = false → t.run.settleTimer = s.run.settleTimer) ∧
      t.scanner =
        { s.scanner with
          timer :=
            if s.settings.scanEnable = true ∧ s.scanner.state ≠ .off ∧ s.scanner.timer < s.settings.scanInterval then
              s.scanner.timer + 1
            else s.scanner.timer } ∧
      (s.fans.state.isRunning = true →
        t.fans =
          { s.fans with
            reversalTimer := if s.fans.reversalTimer < 480 then s.fans.reversalTimer + 1 else s.fans.reversalTimer }) ∧
      (s.fans.state.isRunning = false →
        t.fans =
          match s.fans.state with
          | .coasting => { s.fans with coastTimer := s.fans.coastTimer + 1 }
          | .starting => { s.fans with confirmTimer := s.fans.confirmTimer + 1 }
          | .stopped | .runningFwd | .runningRev | .failed => s.fans) ∧
      SamplerCounts s t ∧
      t.due.hours = decide (s.run.state = .running) ∧ t.due.timeout = decide (s.run.state = .running) ∧
      t.due.settle = (decide (s.run.state = .running) && s.run.inBand) ∧ t.due.checkpoint = false ∧
      t.due.hourCheckpoint = (s.run.state.inProgress && t.run.totalMinutes % 60 == 0))

/-- R109 to R115, R97, R98: a SAMPLE_SET that is due: every channel takes its sample (a WOOD channel only when fitted),
each zone that holds targets recomputes its setpoint, the notices of the channels are queued, SENSOR is judged, and the
loops and outputs follow (O11). R91: a SETTLED test that may be evaluated judges every active zone, sets or clears the
in-band flag and resets the settle timer out of band. R92, R95: a COOLED test that passes ends the step.
DEDUCED: the set may be taken from just before its tenth second event on, and the mark says that it has been (log 2);
the notices of the channels stand in ascending channel number (log 13); with no active zone the settle timer is kept and
only the in-band flag is cleared (log 16); the tests look at the run as SENSOR has left it, so a set that resumes the run
is evaluated (log 23). -/
def Obligations.SampleSetTakesSamplesAndSetpoints : Prop :=
  ∀ (s : State) (x : Zones ZoneSamples), s.Awake → s.ready = true →
    s.sampler.mark = .due ∨ s.sampler.mark = .none ∧ s.sampler.timer = 9 →
    ∃ u t, exec (.sampleSet x) s = .next t ∧ SetTaken s x u ∧
      ((∀ step, u.Evaluates .cooled step → ¬ u.CooledTo step.dbTarget) →
        t = { u with run := t.run, memory := t.memory } ∧ SettleJudged u t.run ∧
          (u.run.state = s.run.state → t.memory = s.memory) ∧ (u.run.state ≠ s.run.state → AsksCheckpoint s t)) ∧
      ∀ step, u.Evaluates .cooled step → u.CooledTo step.dbTarget →
        StepEnds u t [] ∧
          t =
            { u with
              run := t.run, zones := t.zones, outputs := t.outputs, fans := t.fans, schedule := t.schedule,
              notices := t.notices, memory := t.memory }

/-- R110: three bad samples one after another put an OK channel in FAULT, and no fewer; the published value is held. A
good sample between them clears the count. R111: three good samples one after another bring it back with the third.
R110, R111: the notices SENSOR_FAULT and SENSOR_RECOVERED of a zone's DB, with its channel number 3z − 2, when every
other channel gives a good sample and is OK and no run is in progress. -/
def Obligations.BadSamplesFaultAndGoodSamplesRecover : Prop :=
  ((∀ (c : Channel) (x y w : Sample) (k k' k'' : BadCause), c.state = .ok → c.badCount = 0 →
    sampleCause x = some k → sampleCause y = some k' → sampleCause w = some k'' →
    (c.take x).2 = .quiet ∧ ((c.take x).1.take y).2 = .quiet ∧ ((c.take x).1.take y).1.state = .ok ∧
      (((c.take x).1.take y).1.take w) =
        ({ c with state := .fault, badCount := 3, goodCount := 0, cause := some k'' }, .fault k'')) ∧
  (∀ (c : Channel) (v : Int), c.state = .ok → -400 ≤ v → v ≤ 1500 →
    c.take (.value v) = ({ c with last := some v, published := some v, badCount := 0 }, .quiet)) ∧
  (∀ (c : Channel) (u v w : Int), c.state = .fault → c.goodCount = 0 → -400 ≤ u → u ≤ 1500 → -400 ≤ v → v ≤ 1500 →
    -400 ≤ w → w ≤ 1500 →
    ((c.take (.value u)).1.take (.value v)).1.state = .fault ∧
      ((c.take (.value u)).1.take (.value v)).1.published = c.published ∧
      (((c.take (.value u)).1.take (.value v)).1.take (.value w)) =
        ({ c with last := some w, published := some w, state := .ok, badCount := 0, goodCount := 0 }, .recovered)) ∧
  (∀ (c : Channel) (x : Sample) (k : BadCause), c.state = .fault → sampleCause x = some k →
    c.take x = ({ c with goodCount := 0, cause := some k }, .quiet)) ∧
  sampleCause .readsOpen = some .readsOpen ∧ sampleCause .readsShorted = some .readsShorted ∧
  ∀ v : Int, sampleCause (.value v) = if -400 ≤ v ∧ v ≤ 1500 then none else some .outOfRange) ∧
  (∀ (s : State) (x : Zones ZoneSamples) (z : ZoneId), s.Awake → s.ready = true → s.sampler.mark = .due →
    s.run.state.inProgress = false →
    (∀ y, y ≠ z → (s.channels y).db.state = .ok ∧ sampleCause (x.get y).db = none) →
    (∀ y, (s.channels y).wb.state = .ok ∧ sampleCause (x.get y).wb = none ∧ (s.channels y).wood.state = .ok ∧
      sampleCause (x.get y).wood = none) →
    (∀ cause, (s.channels z).db.state = .ok → (s.channels z).db.badCount = 2 → sampleCause (x.get z).db = some cause →
      ∃ t, exec (.sampleSet x) s = .next t ∧
        t.notices = noticesAfter s [(.sensorFault, 3 * z.number - 2, cause.code)] ∧ (t.channels z).db.state = .fault ∧
        ((t.outputs.get z).heat.forcing.dbFault = true)) ∧
    ((s.channels z).db.state = .fault → (s.channels z).db.goodCount = 2 → sampleCause (x.get z).db = none →
      ∃ t, exec (.sampleSet x) s = .next t ∧
        t.notices = noticesAfter s [(.sensorRecovered, 3 * z.number - 2, 0)] ∧ (t.channels z).db.state = .ok ∧
        ((t.outputs.get z).heat.forcing.dbFault = false)))

/-- R117: the rows of the loop table at a SAMPLE_SET that does not end a COOLED step, for a zone whose row is decided by
what stands when the set is taken and by the channels of the set. R118, R119: an evaluated heat loop takes the error SP −
DB, an evaluated humidity loop SP_WB − WB with WB clamped to DB (R113), each with its own gains and range. The rows COOL
and SAFE_HOLD are DEDUCED where they leave u and the demands (log 15). -/
def Obligations.LoopRowsFollowTheTable : Prop :=
  ∀ (s : State) (x : Zones ZoneSamples) (z : ZoneId), s.Awake → s.ready = true → s.sampler.mark = .due →
    (∀ step, s.currentStep = some step → step.test = .cooled → s.run.state.going = true →
      ∃ z v, s.zoneActive z = true ∧ ((s.channels z).db.take (x.get z).db).1.published = some v ∧ step.dbTarget < v) →
    ∃ t, exec (.sampleSet x) s = .next t ∧
      let g := s.zoneSettings z
      let before := s.zone z
      let after := t.zone z
      let db := ((s.channels z).db.take (x.get z).db).1.usable
      let wb := ((s.channels z).wb.take (x.get z).wb).1.usable
      let fansRun := s.fans.state.isRunning
      let cool := s.run.state.going = true ∧ ∃ r, before.ramp = some r ∧ r.kind = .cool
      let judged := g.active = true ∧ s.run.state.going = true ∧ ∀ r, before.ramp = some r → r.kind ≠ .cool
      (g.active = false →
        after.heat = { before.heat with demand := 0, condition := .inactive } ∧
          after.humidity = { before.humidity with demand := 0, condition := .inactive }) ∧
      (g.active = true → s.run.state.inProgress = false →
        after.heat = { integrator := 0, demand := 0, condition := .noRun } ∧
          after.humidity = { integrator := 0, demand := 0, condition := .noRun }) ∧
      (g.active = true → s.run.state = .safe →
        after.heat = { before.heat with condition := .safeHold } ∧
          after.humidity = { before.humidity with condition := .safeHold } ∧ after.sprayDemand = before.sprayDemand ∧
          after.ventDemand = before.ventDemand) ∧
      (g.active = true → cool →
        after.heat = { before.heat with demand := 0, condition := .cool } ∧
          after.humidity.integrator = before.humidity.integrator ∧ after.humidity.condition = .cool ∧
          after.sprayDemand = 0 ∧ after.ventDemand = 1000) ∧
      (judged → g.heatMode = .manual → after.heat = { before.heat with demand := g.heatManual, condition := .manual }) ∧
      (judged → g.humidityMode = .manual →
        after.humidity = { before.humidity with demand := g.humidityManual, condition := .manual }) ∧
      (judged → g.heatMode = .auto → fansRun = false → after.heat = { before.heat with condition := .fanHold }) ∧
      (judged → g.humidityMode = .auto → fansRun = false →
        after.humidity = { before.humidity with condition := .fanHold }) ∧
      (judged → g.heatMode = .auto → fansRun = true → db = none →
        after.heat = { before.heat with demand := 0, condition := .sensorHold }) ∧
      (judged → g.humidityMode = .auto → fansRun = true → db = none ∨ wb = none →
        after.humidity = { before.humidity with condition := .sensorHold }) ∧
      (judged → g.heatMode = .auto → fansRun = true → db.isSome = true → after.heat.condition = .evaluated) ∧
      (∀ r d, judged → g.heatMode = .auto → fansRun = true → before.ramp = some r → db = some d →
        after.heat =
          ({ before.heat with condition := .evaluated } : Loop).evaluate 0 1000 g.heatKp g.heatKi
            ((r.after s.run.stepMinutes).setpoint - d)) ∧
      (judged → g.humidityMode = .auto → fansRun = true → db.isSome = true → wb.isSome = true →
        after.humidity.condition = .evaluated) ∧
      (∀ r d w, judged → g.humidityMode = .auto → fansRun = true → before.ramp = some r → db = some d → wb = some w →
        after.humidity =
          ({ before.humidity with condition := .evaluated } : Loop).evaluate (-1000) 1000 g.humidityKp g.humidityKi
            ((r.after s.run.stepMinutes).setpoint - r.depression - min w d)) ∧
      (¬ cool → s.run.state ≠ .safe ∨ g.active = false →
        (after.sprayDemand : Int) = max 0 after.humidity.demand ∧ (after.ventDemand : Int) = max 0 (-after.humidity.demand)) ∧
      (after.sprayDemand = 0 ∨ after.ventDemand = 0 ∨
        s.run.state = .safe ∧ after.sprayDemand = before.sprayDemand ∧ after.ventDemand = before.ventDemand) ∧
      (t.outputs.get z).heat.demand = after.heat.demand.toNat ∧ (t.outputs.get z).spray.demand = after.sprayDemand ∧
      (t.outputs.get z).vent.demand = after.ventDemand

/-- R118, R119: an evaluation of a loop on a demand range, step by step: P, I', the windup test, the clamps; the truncation
is toward zero. -/
def Obligations.LoopEvaluationFollowsTheFourSteps : Prop :=
  ∀ (x : Loop) (lo hi kp ki error : Int), lo ≤ hi →
    let e := max (-500) (min 500 error)
    let p := kp * e
    let i' := x.integrator + (if 0 ≤ ki * e then ki * e / 60 else -(-(ki * e) / 60))
    let y := x.evaluate lo hi kp ki error
    y.condition = x.condition ∧
      (p + i' > hi ∧ e > 0 ∨ p + i' < lo ∧ e < 0 → y.integrator = x.integrator) ∧
      (¬ (p + i' > hi ∧ e > 0 ∨ p + i' < lo ∧ e < 0) → y.integrator = max lo (min hi i')) ∧
      y.demand = max lo (min hi (p + y.integrator))

/-! ### The Probe Scanner and the Moisture Arithmetic -/

/-- R12, R9, R10, R3: the expiry of the scan timer. In WAITING a scan starts: the next number, the timer at 0, and the
lowest-numbered assigned probe that is not BLOCKED selected; in SCANNING start-due is set. -/
def Obligations.ScanTimerExpiryStartsAScan : Prop :=
  ∀ s : State, s.powered = true → s.due = .none → s.settings.scanEnable = true →
    s.settings.scanInterval ≤ s.scanner.timer →
    (s.scanner.state = .scanning →
      exec .scanTimerExpiry s = .next { s with scanner := { s.scanner with startDue := true } }) ∧
    (s.scanner.state = .waiting →
      (∀ p, (s.probe p).qualifies = true → (∀ q, q < p → (s.probe q).qualifies = false) →
        exec .scanTimerExpiry s =
          .next
            { s with
              scanner :=
                { state := .scanning, scanNumber := (s.scanner.scanNumber + 1) % 65536, timer := 0, startDue := false
                  polarity := .positive, excitation := rangeLevel (s.probe p).rangeMemory
                  measurement :=
                    some
                      { probe := p, range := (s.probe p).rangeMemory, attempt := 1, nPlus := none
                        phase :=
                          .settling
                            (if s.scanner.excitation = rangeLevel (s.probe p).rangeMemory then .channel
                            else .channelAndExcitation) } } }) ∧
      ((∀ p, (s.probe p).qualifies = false) →
        ∃ t, exec .scanTimerExpiry s = .next t ∧
          t.scanner =
            { state := .waiting, excitation := .off, polarity := s.scanner.polarity, measurement := none
              scanNumber := (s.scanner.scanNumber + 1) % 65536, timer := 0, startDue := false } ∧
          t.statistics.latest.map (·.scanNumber) = some ((s.scanner.scanNumber + 1) % 65536)))

/-- R2, R3, R5, R6: when the settle in progress ends the count starts, at the range and polarity set before it.
R4, R5, R6: a positive count that does not end the measurement. In window the positive part ends and the polarity is
reversed; low or high, with attempts left and a range to step to, the next attempt runs a range down or up, at once
within a level and after the excitation settle across the levels. -/
def Obligations.SettlesAndPositiveCountsGoOn : Prop :=
  (∀ (s : State) (m : Measurement) (k : Settle), s.Awake → s.scanner.measurement = some m → m.phase = .settling k →
    exec .settleEnd s = .next { s with scanner := { s.scanner with measurement := some { m with phase := .counting } } }) ∧
  (∀ (s : State) (m : Measurement) (c : Instr) (n : Nat), CountsTo c n → s.Awake → s.scanner.measurement = some m →
    m.phase = .counting → m.nPlus = none →
    (1024 ≤ n → n ≤ 60000 →
      exec c s =
        .next
          { s with
            scanner :=
              { s.scanner with
                polarity := .negative, measurement := some { m with nPlus := some n, phase := .settling .polarity } } }) ∧
    ∀ r : Fin 4, m.attempt < 4 → (n < 1024 ∧ r.val + 1 = m.range.val ∨ 60000 < n ∧ r.val = m.range.val + 1) →
      exec c s =
        .next
          { s with
            scanner :=
              { s.scanner with
                excitation := if r.val < 2 then .low else .high
                measurement :=
                  some
                    { m with
                      range := r, attempt := m.attempt + 1
                      phase :=
                        if s.scanner.excitation = (if r.val < 2 then Excitation.low else Excitation.high) then .counting
                        else .settling .excitation } } })

/-- R7, R8, R23, R24, R39, R44, R49: the hand-over of a SHORT, DRY_LIMIT, UNSTABLE or POLARIZED outcome: its reading is
applied to the record of the probe (O20), with the range memory, PROBE_FAULTED is queued when that faults the probe, and
every other record is kept. -/
def Obligations.OutcomeWithoutPairIsHandedOver : Prop :=
  ∀ (s : State) (m : Measurement) (c : Instr) (n : Nat) (outcome : Outcome) (a : Assignment) (curve : Curve)
    (point : CurvePoint),
    CountsTo c n → s.Awake → s.scanner.measurement = some m → EndsMeasurement m n outcome → outcome ≠ .pair →
    (s.probe m.probe).assignment = some a → s.curve a.group = some curve → curve.points.getLast? = some point →
    ∃ t, exec c s = .next t ∧ (t.probe m.probe).assignment = some a ∧
      HandedOver s t m
        { kind :=
            match outcome with
            | .short => .short
            | .dryLimit => .dryLimit
            | .unstable => .unstable
            | .pair | .polarized => .polarized
          l := none, lc := none, mc := if outcome = .dryLimit then some point.mc else none, clamp := .none
          minute := s.clock.minute } ∧
      t.settings = s.settings ∧ t.sampler = s.sampler ∧ t.interlocks = s.interlocks ∧ t.link = s.link ∧
      t.clock = s.clock ∧ t.ready = s.ready

/-- R23, R27, R28, R29, R30, R37, R38: the hand-over of a PAIR: POLARIZED beyond the tolerance, else NO_TEMPERATURE with the
averaged L when the zone has no usable temperature, else VALID with the corrected log-resistance and its MC on the
group's curve. R44, R49: the reading is applied to the record of the probe (O20), and PROBE_FAULTED is queued when that
faults the probe. -/
def Obligations.PairIsConverted : Prop :=
  ∀ (s : State) (m : Measurement) (c : Instr) (n p : Nat) (a : Assignment) (curve : Curve) (first : CurvePoint)
    (rest : List CurvePoint),
    CountsTo c n → s.Awake → s.scanner.measurement = some m → EndsMeasurement m n .pair → m.nPlus = some p →
    (s.probe m.probe).assignment = some a → s.curve a.group = some curve → curve.points = first :: rest →
    ∃ t, exec c s = .next t ∧
      let lPlus := logOfCount m.range p
      let lMinus := logOfCount m.range n
      let l := (lPlus + lMinus + 1) / 2
      let wood := (s.channels a.zone).wood.usable
      let db := (s.channels a.zone).db.usable
      let tw := if (s.zoneSettings a.zone).woodFitted = true ∧ wood.isSome = true then wood else db
      let gap : Int := |(lPlus : Int) - lMinus|
      (s.settings.polarityTolerance < gap →
        HandedOver s t m
          { kind := .polarized, l := none, lc := none, mc := none, clamp := .none, minute := s.clock.minute }) ∧
      (gap ≤ s.settings.polarityTolerance → tw = none →
        HandedOver s t m
          { kind := .noTemperature, l := some l, lc := none, mc := none, clamp := .none, minute := s.clock.minute }) ∧
      ∀ temperature, gap ≤ s.settings.polarityTolerance → tw = some temperature →
        let lc := (l : Int) + roundHalfAway (curve.coefficient * (temperature - 200)) 100
        HandedOver s t m
          { kind := .valid, l := some l, lc := some lc, mc := some (curveMc first rest lc).1
            clamp := (curveMc first rest lc).2, minute := s.clock.minute }

/-- R10, R11, R3: after a measurement has ended, the next qualifying probe above it is selected; with none the scan
completes: the excitation is OFF, no channel is selected, the statistics are published with the scan's number (O21), and
with start-due clear the scanner waits, or rests in OFF with scan enable OFF. R154, R155: the frame of the publication is
taken into the ring, which discards its oldest frame for a 97th and marks the loss. -/
def Obligations.ScanGoesOnOrCompletes : Prop :=
  ∀ (s : State) (m : Measurement) (c : Instr) (n : Nat) (outcome : Outcome), CountsTo c n → s.Awake →
    s.scanner.state = .scanning → s.scanner.measurement = some m → EndsMeasurement m n outcome →
    (∀ p, m.probe < p → (s.probe p).qualifies = true → (∀ q, m.probe < q → q < p → (s.probe q).qualifies = false) →
      ∃ t, exec c s = .next t ∧
        t.scanner =
          { s.scanner with
            polarity := .positive, excitation := rangeLevel (s.probe p).rangeMemory
            measurement :=
              some
                { probe := p, range := (s.probe p).rangeMemory, attempt := 1, nPlus := none
                  phase :=
                    .settling
                      (if s.scanner.excitation = rangeLevel (s.probe p).rangeMemory then .channel
                      else .channelAndExcitation) } } ∧
        t.statistics = s.statistics ∧ t.history = s.history ∧ t.run = s.run) ∧
    ((∀ p, m.probe < p → (s.probe p).qualifies = false) → s.scanner.startDue = false →
      ∃ t, exec c s = .next t ∧ ScanEnds s t) ∧
    ((∀ p, m.probe < p → (s.probe p).qualifies = false) → s.scanner.startDue = true →
      ∀ p, (s.probe p).qualifies = true → (∀ q, q < p → (s.probe q).qualifies = false) →
        ∃ t, exec c s = .next t ∧ t.scanner.state = .scanning ∧
          t.scanner.scanNumber = (s.scanner.scanNumber + 1) % 65536 ∧ t.scanner.measurement.map (·.probe) = some p ∧
          (let publication := t.publicationNow s.scanner.scanNumber
          t.statistics = { latest := some publication, keptQuorum := publication.quorum } ∧
            FrameTaken s t publication) ∧
          (s.settings.scanEnable = true → t.scanner.timer = 0 ∧ t.scanner.startDue = false))

/-- R26: the log-resistance of every in-window count of every range is 100 × log10 of its resistance rounded half up, and
lies within the span of its range. -/
def Obligations.LogResistanceIsExact : Prop :=
  ∀ (r : Fin 4) (n : Nat), 1024 ≤ n → n ≤ 60000 →
    (logOfCount r n : Int) = ⌊100 * Real.logb 10 ((n : ℝ) * (10 * 32 ^ r.val)) + 1 / 2⌋ ∧
    (r = 0 → 401 ≤ logOfCount r n ∧ logOfCount r n ≤ 578) ∧ (r = 1 → 552 ≤ logOfCount r n ∧ logOfCount r n ≤ 728) ∧
    (r = 2 → 702 ≤ logOfCount r n ∧ logOfCount r n ≤ 879) ∧ (r = 3 → 853 ≤ logOfCount r n ∧ logOfCount r n ≤ 1029)

/-- R37, R38: on a curve that meets R31 the MC of a corrected log-resistance within the curve is that of the lowest
segment that holds it, and outside it is clamped to the nearer end with its flag; it lies between the curve's ends. -/
def Obligations.CurveIsInterpolatedAndClamped : Prop :=
  ∀ (first : CurvePoint) (rest : List CurvePoint) (lc : Int), rest ≠ [] →
    (first :: rest).IsChain (fun p q => p.lc < q.lc ∧ q.mc ≤ p.mc) →
    let last := (first :: rest).getLastD first
    (lc < first.lc → curveMc first rest lc = (first.mc, .wetClamp)) ∧
    (last.lc < lc → curveMc first rest lc = (last.mc, .dryClamp)) ∧
    (first.lc ≤ lc → lc ≤ last.lc →
      ∃ before p q after, first :: rest = before ++ p :: q :: after ∧ p.lc ≤ lc ∧ lc ≤ q.lc ∧
        (∀ x ∈ before, (x.lc : Int) < lc) ∧ (before ≠ [] → (p.lc : Int) < lc) ∧
        (curveMc first rest lc).2 = .none ∧
        ((curveMc first rest lc).1 : Int) = p.mc + roundHalfAway ((lc - p.lc) * ((q.mc : Int) - p.mc)) (q.lc - p.lc)) ∧
    last.mc ≤ (curveMc first rest lc).1 ∧ (curveMc first rest lc).1 ≤ first.mc

/-! ### The Probe Table -/

/-- R45: an append keeps the three newest values in arrival order, and the filtered MC is the median of three (none of the
three is above it twice or below it twice), or the newest of one or two.
R46 to R50: what each class of reading does to a record in each state; the assignment is kept, and NO_TEMPERATURE
changes the last reading and the range memory alone. -/
def Obligations.ReadingsAreFilteredAndApplied : Prop :=
  ((∀ (values : List Nat) (mc : Nat), values.length ≤ 3 →
    (appendValue values mc).length ≤ 3 ∧ (appendValue values mc).getLast? = some mc ∧
      appendValue values mc = (values ++ [mc]).drop (values.length + 1 - 3)) ∧
  filteredMc [] = none ∧ (∀ a, filteredMc [a] = some a) ∧ (∀ a b, filteredMc [a, b] = some b) ∧
  ∀ a b c, ∃ m, filteredMc [a, b, c] = some m ∧ m ∈ [a, b, c] ∧ ([a, b, c].filter (· < m)).length ≤ 1 ∧
    ([a, b, c].filter (m < ·)).length ≤ 1) ∧
  (∀ (r : ProbeRecord) (limit : Nat) (range : Fin 4) (x : Reading),
    let y := r.apply limit range x
    let kept := { r with last := some x, rangeMemory := range }
    (x.kind = .noTemperature → y = kept) ∧ (r.state = .faulted → y = kept) ∧
    (∀ k, x.kind.faultKind = some k →
      (r.state = .good → y = { kept with faultCount := 1, state := .suspect }) ∧
      (r.state = .new ∨ r.state = .suspect → r.faultCount < 2 → y = { kept with faultCount := r.faultCount + 1 }) ∧
      (r.state = .new ∨ r.state = .suspect → r.faultCount = 2 →
        y = { kept with faultCount := 3, state := .faulted, faultKind := some k })) ∧
    ∀ mc, x.validMc = some mc →
      (r.state = .new →
        y =
          { kept with
            faultCount := 0, values := appendValue r.values mc
            state := if (appendValue r.values mc).length < 3 then .new else .good }) ∧
      (r.state = .good ∨ r.state = .suspect → ∀ f, r.filtered = some f →
        ((mc : Int) - f ≤ limit → (f : Int) - mc ≤ limit →
          y = { kept with jumpCount := 0, values := appendValue r.values mc, faultCount := 0, state := .good }) ∧
        ((mc : Int) - f > limit ∨ (f : Int) - mc > limit → r.jumpCount < 2 →
          y =
            { kept with
              jumpCount := r.jumpCount + 1, values := appendValue r.values mc, faultCount := 0, state := .good }) ∧
        ((mc : Int) - f > limit ∨ (f : Int) - mc > limit → r.jumpCount = 2 →
          y = { kept with jumpCount := 3, state := .faulted, faultKind := some .erratic })))

/-- R57: when the quorum is held, the figures of a publication: the order of the eligible probes, the controlling set, and
the four MC figures with their bounds.
R56: which probes are eligible, what else a publication carries, and the quorum flag; without quorum it carries no
figures. -/
def Obligations.PublishedFiguresFollowTheOrder : Prop :=
  (∀ (s : State) (scan : Nat),
    let p := s.publicationNow scan
    p.scanNumber = scan ∧ p.minute = s.clock.minute ∧ p.w = s.settings.w ∧ p.q = s.settings.q ∧
      p.eligible = s.eligibleProbes.length ∧ (p.quorum = .held ↔ s.settings.q ≤ s.eligibleProbes.length) ∧
      (s.eligibleProbes.length < s.settings.q → p.figures = none) ∧
      (∀ q mc, (q, mc) ∈ s.eligibleProbes ↔
        (∃ a, (s.probe q).assignment = some a ∧ a.role = .control) ∧
          ((s.probe q).state = .good ∨ (s.probe q).state = .suspect) ∧ (s.probe q).filtered = some mc) ∧
      s.eligibleProbes.Pairwise (fun x y => x.1 < y.1) ∧
      (∀ e, e ∈ p.entries ↔
        (s.probe e.probe).assignment.isSome = true ∧ e.state = (s.probe e.probe).state ∧
          e.filtered = (s.probe e.probe).filtered) ∧
      p.entries.Pairwise fun x y => x.probe < y.probe) ∧
  ∀ (s : State) (scan : Nat), 1 ≤ s.settings.w → 1 ≤ s.settings.q → s.settings.q ≤ s.eligibleProbes.length →
    ∃ (f : McFigures) (order : List (Fin 48 × Nat)), (s.publicationNow scan).figures = some f ∧ order.Perm s.eligibleProbes ∧
      order.Pairwise (fun x y => y.2 < x.2 ∨ x.2 = y.2 ∧ x.1 < y.1) ∧
      f.controllingSet = (order.take (min s.settings.w order.length)).map (·.1) ∧
      (∀ set : List (Fin 48 × Nat), set = order.take (min s.settings.w order.length) →
        f.controlling = (2 * (set.map (·.2)).sum + set.length) / (2 * set.length)) ∧
      order.head?.map (·.2) = some f.wettest ∧ (∀ x ∈ s.eligibleProbes, x.2 ≤ f.wettest) ∧
      (∃ x ∈ s.eligibleProbes, x.2 = f.driest) ∧ (∀ x ∈ s.eligibleProbes, f.driest ≤ x.2) ∧
      f.mean = (2 * (s.eligibleProbes.map (·.2)).sum + s.eligibleProbes.length) / (2 * s.eligibleProbes.length) ∧
      (f.driest ≤ f.controlling ∧ f.controlling ≤ f.wettest) ∧ (f.driest ≤ f.mean ∧ f.mean ≤ f.wettest) ∧
      (s.eligibleProbes.length ≤ s.settings.w → f.controlling = f.mean)

/-- R58, R94, R97: the publication at the end of a scan's last measurement, whatever its count and outcome, in a run whose
step has no MC test: after the PROBE_FAULTED that the reading may bring (R49), QUORUM_LOST or QUORUM_REGAINED is queued
when the flag differs from the kept one and the run is RUNNING or HELD, and QUORUM is added with quorum action HOLD and
the quorum lost, and removed otherwise (with CONTINUE always).
R56, R58, R94: such a publication without quorum, of a RUNNING run under HOLD whose kept flag was HELD: it carries no
figures, and the run is HELD by QUORUM. -/
def Obligations.LostQuorumHoldsTheRun : Prop :=
  (∀ (s : State) (m : Measurement) (c : Instr) (n : Nat) (outcome : Outcome),
    CountsTo c n → s.Awake → s.scanner.measurement = some m → EndsMeasurement m n outcome →
    (∀ p, m.probe < p → (s.probe p).qualifies = false) → s.scanner.startDue = false →
    (∀ x, s.currentStep = some x → x.test.isMc = false) →
    ∃ t notices, exec c s = .next t ∧
      let eligible := t.eligibleProbes.length
      let lost := eligible < s.settings.q
      ReasonJudged s.run .quorum 3 (lost ∧ s.settings.quorumAction = .hold) t.run notices ∧
      t.notices =
        noticesAfter s
          (faultNotices m.probe (s.probe m.probe) (t.probe m.probe) ++ quorumNotices s eligible ++ notices) ∧
      t.statistics.keptQuorum = (if lost then .lost else .held) ∧
      (t.run.state = s.run.state → t.memory = s.memory) ∧ (t.run.state ≠ s.run.state → AsksCheckpoint s t) ∧
      t.zones = s.zones ∧ t.fans = s.fans ∧ t.outputs = s.outputs ∧ t.schedule = s.schedule ∧ t.settings = s.settings) ∧
  ∀ (s : State) (m : Measurement) (c : Instr) (n : Nat),
    CountsTo c n → s.Awake → s.scanner.measurement = some m → m.phase = .counting → m.nPlus = none →
    60000 < n → m.range = 3 → (s.probe m.probe).state = .faulted →
    (∀ p, m.probe < p → (s.probe p).qualifies = false) → s.scanner.startDue = false →
    s.eligibleProbes.length < s.settings.q → s.settings.quorumAction = .hold → s.run.state = .running →
    s.run.reasons = .empty → s.statistics.keptQuorum = .held →
    ∃ t, exec c s = .next t ∧
      t.run = { s.run with state := .held, reasons := { HoldSet.empty with quorum := true }, inBand := false } ∧
      t.notices = noticesAfter s [(.quorumLost, s.eligibleProbes.length, s.settings.q), (.runHeld, 3, 1)] ∧
      t.statistics.keptQuorum = .lost ∧ (t.statistics.latest.bind (·.figures)) = none ∧
      t.statistics.latest.map (·.eligible) = some s.eligibleProbes.length ∧ AsksCheckpoint s t ∧ t.zones = s.zones ∧
      t.fans = s.fans ∧ t.schedule = s.schedule

/-! ### The Schedule Store and the Run Controller -/

/-- The judgements of a minute event that are still due are MODEL's marks, DEDUCED from R87 (log 2).
R87 to R91, R95, R96, R86: HOURS_TEST_PASS and SETTLE_TIMER_PASS end the step: the pending adoption is applied, the
last step completes the run, or the next step is entered.
A settle timer that stands above the settle minutes already passes too, MODEL's choice (log 16). R123: with no active zone
the SETTLED test does not pass.
R93, R95, R97: STEP_TIMEOUT, where neither passes. With ADVANCE, STEP_TIMED_OUT is queued and the step ends; with HOLD,
TIMEOUT is added, the run is HELD and the timeout-taken flag is set. A row whose judgement does not pass, or is not due,
changes nothing (log 1, DEDUCED). -/
def Obligations.MinuteJudgementsEndOrHoldTheStep : Prop :=
  (∀ (s : State) (c : Instr) (x : StepRecord), s.powered = true → MinuteTestPasses c s x →
    ∃ t, exec c s = .next t ∧ StepEnds s t [] ∧
      t =
        { s with
          run := t.run, zones := t.zones, outputs := t.outputs, fans := t.fans, schedule := t.schedule,
          notices := t.notices, memory := t.memory, due := t.due } ∧
      t.due.hours = false ∧ t.due.settle = false ∧ t.due.timeout = false ∧ t.due.hourCheckpoint = s.due.hourCheckpoint) ∧
  (∀ (s : State) (x : StepRecord) (h i : Nat), s.powered = true → (∀ y, ¬ MinuteTestPasses .hoursTestPass s y) →
    (∀ y, ¬ MinuteTestPasses .settleTimerPass s y) → s.due.timeout = true → s.run.state = .running →
    s.run.timeoutTaken = false → s.currentStep = some x → s.run.stepIndex = some i → x.maxHours = some h →
    60 * h ≤ s.run.stepMinutes →
    (x.timeoutAction = some .advance →
      ∃ t, exec .stepTimeout s = .next t ∧ StepEnds s t [(.stepTimedOut, i, 0)] ∧
        t =
          { s with
            run := t.run, zones := t.zones, outputs := t.outputs, fans := t.fans, schedule := t.schedule,
            notices := t.notices, memory := t.memory, due := t.due } ∧
        t.due.hours = false ∧ t.due.settle = false ∧ t.due.timeout = false ∧
        t.due.hourCheckpoint = s.due.hourCheckpoint) ∧
    (x.timeoutAction = some .hold → s.run.reasons.timeout = false →
      ∃ t, exec .stepTimeout s = .next t ∧
        t = { s with run := t.run, notices := t.notices, memory := t.memory, due := t.due } ∧
        t.run =
          { s.run with
            state := .held, reasons := { s.run.reasons with timeout := true }, timeoutTaken := true, inBand := false } ∧
        t.notices = noticesAfter s [(.runHeld, 2, t.run.reasons.count)] ∧ AsksCheckpoint s t ∧
        t.due.hours = false ∧ t.due.settle = false ∧ t.due.timeout = false ∧
        t.due.hourCheckpoint = s.due.hourCheckpoint)) ∧
  ∀ s : State, s.powered = true → s.due.checkpoint = false →
    ((∀ y, ¬ MinuteTestPasses .hoursTestPass s y) → exec .hoursTestPass s = .next s) ∧
    ((∀ y, ¬ MinuteTestPasses .settleTimerPass s y) → exec .settleTimerPass s = .next s) ∧
    (s.due.timeout = false → exec .stepTimeout s = .next s)

/-- R106, R175, 11.1: RUN_HOUR_CHECKPOINT requests a checkpoint of the run as it stands: it starts at once with nothing in
flight, and otherwise takes the pending slot. -/
def Obligations.RunHourRequestsACheckpoint : Prop :=
  ∀ (s : State) (i : Nat), s.powered = true → s.due.hourCheckpoint = true → s.due.hours = false → s.due.settle = false →
    s.due.timeout = false → s.run.state.inProgress = true → s.run.stepIndex = some i →
    ∃ t contents, exec .runHourCheckpoint s = .next t ∧ t = { s with memory := t.memory, due := .none } ∧
      contents =
        .run
          { schedule := s.schedule.activeSteps, stepIndex := i, stepMinutes := s.run.stepMinutes,
            totalMinutes := s.run.totalMinutes, mcMet := s.run.mcMet, timeoutTaken := s.run.timeoutTaken,
            equalizeEntered := s.run.equalizeEntered, spread := s.run.spread
            origins := s.zones.map fun _ z => z.ramp.map fun r => r.origin } ∧
      (s.memory.op = .none →
        t.memory =
          { s.memory with op := .checkpointWrite contents s.memory.checkpointRegion, checkpointRegion := .writing }) ∧
      (s.memory.op ≠ .none → t.memory = { s.memory with pendingCheckpoint := some contents })

/-- R92, R88, R96: a COOLED step that is the last ends at a SAMPLE_SET at which every active zone, and there is one, reads
at or below the DB target, and the run completes.
R89, R90, R94, R88: at the publication that completes a scan, an MC or MC_OR_HOURS test whose statistic is at or below
the threshold ends the step; for MC_AND_HOURS it sets the MC-met flag, and ends the step when the hours are met too.
R88 to R90, R94, R95: at the publication that any last measurement completes, whatever its count and outcome, QUORUM is
judged first; then a test that may be evaluated and passes ends the step. Where it does not pass (the statistic is absent
or above the threshold, the run is not RUNNING, the minimum hours have not run, the test is of another kind), the step goes
on, and only an MC_AND_HOURS test whose MC part passes sets MC-met. The run looked at is that which QUORUM has left
(log 23, DEDUCED). -/
def Obligations.SetsAndPublicationsEndSteps : Prop :=
  (∀ (s : State) (x : Zones ZoneSamples) (step : StepRecord) (i : Nat), s.Awake → s.ready = true → s.sampler.mark = .due →
    s.run.state = .running → s.currentStep = some step → s.run.stepIndex = some i → step.test = .cooled →
    60 * step.minHours.getD 0 ≤ s.run.stepMinutes → s.schedule.adoption = none →
    s.schedule.activeSteps.length = i + 1 → (∃ z, s.zoneActive z = true) →
    (∀ z, s.zoneActive z = true →
      ((s.channels z).db.take (x.get z).db).1.state = .ok ∧
        ∃ v, ((s.channels z).db.take (x.get z).db).1.published = some v ∧ v ≤ step.dbTarget) →
    ∃ t, exec (.sampleSet x) s = .next t ∧ t.run.state = .complete ∧ RunEnded t ∧ t.run.stepIndex = some i ∧
      t.run.stepMinutes = s.run.stepMinutes ∧ t.run.totalMinutes = s.run.totalMinutes ∧ t.schedule = s.schedule ∧
      t.run.completion.map (·.totalMinutes) = some s.run.totalMinutes ∧ AsksCheckpoint s t) ∧
  (∀ (s : State) (m : Measurement) (c : Instr) (n : Nat) (x : StepRecord) (st : Statistic) (limit : Nat) (f : McFigures),
    CountsTo c n → s.Awake → s.scanner.measurement = some m → m.phase = .counting → m.nPlus = none →
    60000 < n → m.range = 3 → (s.probe m.probe).state = .faulted →
    (∀ p, m.probe < p → (s.probe p).qualifies = false) → s.scanner.startDue = false →
    (s.publicationNow s.scanner.scanNumber).figures = some f → (s.publicationNow s.scanner.scanNumber).quorum = .held →
    s.statistics.keptQuorum = .held → s.run.state = .running → s.run.reasons = .empty → s.currentStep = some x →
    60 * x.minHours.getD 0 ≤ s.run.stepMinutes → x.statistic = some st → x.mcThreshold = some limit →
    (match st with
      | .controlling => f.controlling
      | .driest => f.driest
      | .mean => f.mean) ≤ limit →
    ∃ t, exec c s = .next t ∧
      (x.test = .mc ∨ x.test = .mcOrHours → StepEnds s t []) ∧
      (x.test = .mcAndHours → (∃ h, x.testHours = some h ∧ 60 * h ≤ s.run.stepMinutes) → StepEnds s t []) ∧
      (x.test = .mcAndHours → (∀ h, x.testHours = some h → s.run.stepMinutes < 60 * h) →
        t.run = { s.run with mcMet := true } ∧ t.notices = s.notices)) ∧
  ∀ (s : State) (m : Measurement) (c : Instr) (n : Nat) (outcome : Outcome) (x : StepRecord),
    CountsTo c n → s.Awake → s.scanner.measurement = some m → EndsMeasurement m n outcome →
    (∀ p, m.probe < p → (s.probe p).qualifies = false) →
    s.scanner.startDue = false ∨ (∃ p, (s.probe p).qualifies = true) → s.currentStep = some x →
    ∃ u t, exec c s = .next t ∧ PublicationTaken s m.probe u ∧
      (u.PublicationTestPasses x →
        StepEnds u t [] ∧
          t =
            { u with
              scanner := t.scanner, run := t.run, zones := t.zones, outputs := t.outputs, fans := t.fans
              schedule := t.schedule, history := t.history, notices := t.notices, memory := t.memory }) ∧
      (¬ u.PublicationTestPasses x →
        t = { u with scanner := t.scanner, run := t.run, history := t.history, memory := t.memory } ∧
          (u.Evaluates .mcAndHours x → u.McPartPasses x → t.run = { u.run with mcMet := true }) ∧
          (¬ u.Evaluates .mcAndHours x ∨ ¬ u.McPartPasses x → t.run = u.run) ∧
          (u.run.state = s.run.state → t.memory = s.memory) ∧ (u.run.state ≠ s.run.state → AsksCheckpoint s t))

/-- R68, R70, R71 with R67: the edit requests but SCHED_PUT_STEP. With no adoption pending they clear, truncate or replace
the EDIT buffer and leave the ACTIVE one; with one pending they are refused; a payload of any other length, and a count
above the EDIT buffer's, are refused. -/
def Obligations.EditRequestsChangeTheEditBufferAlone : Prop :=
  ∀ (s : State) (tag n : Byte), s.Receptive →
    (s.schedule.adoption = none →
      (∃ t, Served (.schedClear tag []) s t (.of .ok t.summary) ∧ t = { s with schedule := t.schedule, link := t.link } ∧
        t.schedule.editSteps = [] ∧ t.schedule.activeSteps = s.schedule.activeSteps ∧
        t.schedule.active = s.schedule.active ∧ t.schedule.adoption = none) ∧
      (n.toNat ≤ s.schedule.editSteps.length →
        ∃ t, Served (.schedTruncate tag [n]) s t (.of .ok t.summary) ∧
          t = { s with schedule := t.schedule, link := t.link } ∧
          t.schedule.editSteps = s.schedule.editSteps.take n.toNat ∧ t.schedule.editSteps.length = n.toNat ∧
          t.schedule.activeSteps = s.schedule.activeSteps ∧ t.schedule.active = s.schedule.active ∧
          t.schedule.adoption = none) ∧
      (s.schedule.editSteps.length < n.toNat →
        ServedUnchanged (.schedTruncate tag [n]) s { status := .badValue, detail := [1], body := s.summary }) ∧
      ∃ t, Served (.schedCopyActive tag []) s t (.of .ok t.summary) ∧
        t = { s with schedule := t.schedule, link := t.link } ∧ t.schedule.editSteps = s.schedule.activeSteps ∧
        t.schedule.activeSteps = s.schedule.activeSteps ∧ t.schedule.active = s.schedule.active ∧
        t.schedule.adoption = none) ∧
    (s.schedule.adoption.isSome = true →
      ServedUnchanged (.schedClear tag []) s (.of .adoptionPending s.summary) ∧
        ServedUnchanged (.schedTruncate tag [n]) s (.of .adoptionPending s.summary) ∧
        ServedUnchanged (.schedCopyActive tag []) s (.of .adoptionPending s.summary)) ∧
    ∀ p : List Byte,
      (p.length ≠ 0 →
        ServedUnchanged (.schedClear tag p) s (.of .badLength s.summary) ∧
          ServedUnchanged (.schedCopyActive tag p) s (.of .badLength s.summary)) ∧
      (p.length ≠ 1 → ServedUnchanged (.schedTruncate tag p) s (.of .badLength s.summary))

/-- R69, R170, R63, R64: the byte form of a step record within its ranges, put by SCHED_PUT_STEP at an index up to the
count and below 24, is read back as that record, with every optional field present or absent as it was.
R67, R69, R170: the refusals in their order, which change nothing: a payload shorter than 13 bytes, a mask with bit 7 set
and a length that is not the mask's; a pending adoption; an index the buffer does not admit, as field 1; and the first of
fields 2 to 15 out of its range, or present or absent against the test. -/
def Obligations.PutStepReadsBackTheRecord : Prop :=
  (∀ (s : State) (tag : Byte) (i : Nat) (x : StepRecord), s.Receptive → x.Legal → s.schedule.adoption = none →
    i ≤ s.schedule.editSteps.length → i < 24 →
    ∃ t, Served (.schedPutStep tag (BitVec.ofNat 8 i :: x.bytes)) s t (.of .ok t.summary) ∧
      t = { s with schedule := t.schedule, link := t.link } ∧
      t.schedule.editSteps =
        (if i < s.schedule.editSteps.length then s.schedule.editSteps.set i x else s.schedule.editSteps ++ [x]) ∧
      t.schedule.editSteps[i]? = some x ∧ t.schedule.activeSteps = s.schedule.activeSteps ∧
      t.schedule.active = s.schedule.active ∧ t.schedule.adoption = none) ∧
  ∀ (s : State) (tag : Byte), s.Receptive →
    (∀ p : List Byte, p.length < 13 → ServedUnchanged (.schedPutStep tag p) s (.of .badLength s.summary)) ∧
    (∀ (index mask : Byte) (fixed rest : List Byte), fixed.length = 11 →
      mask.getLsbD 7 = true ∨ rest.length ≠ optionalWidth mask →
      ServedUnchanged (.schedPutStep tag (index :: fixed ++ mask :: rest)) s (.of .badLength s.summary)) ∧
    ∀ (i : Nat) (x : RawStep), i < 256 → x.Fits →
      let c := Instr.schedPutStep tag (BitVec.ofNat 8 i :: x.bytes)
      let admitted := i ≤ s.schedule.editSteps.length ∧ i < 24
      (s.schedule.adoption.isSome = true → ServedUnchanged c s (.of .adoptionPending s.summary)) ∧
      (s.schedule.adoption = none →
        (¬ admitted → ServedUnchanged c s { status := .badValue, detail := [1], body := s.summary }) ∧
        ∀ k, admitted → FirstFailing x.conditions k →
          ServedUnchanged c s { status := .badValue, detail := [BitVec.ofNat 8 (k + 2)], body := s.summary })

/-- R73: adoption validation passes exactly when the count is 1 to 24 and no step fails; otherwise an empty (or too long)
buffer reports index 0 and EMPTY, and any other the first step that fails and the first reason it fails. -/
def Obligations.ValidationReportsTheFirstFailure : Prop :=
  ∀ steps : List StepRecord,
    let order := fun (i : Nat) (x : StepRecord) =>
      x.kind = .heatup ∧ i ≠ 0 ∨ x.kind = .cool ∧ i + 1 ≠ steps.length
    let test := fun (x : StepRecord) =>
      x.kind = .heatup ∧ x.test ≠ .settled ∨ x.kind = .cool ∧ x.test ≠ .cooled ∨ x.kind = .condition ∧ x.test ≠ .hours ∨
        (x.kind = .dry ∨ x.kind = .equalize) ∧ (x.test = .settled ∨ x.test = .cooled)
    let beyond := fun (x : StepRecord) =>
      ∃ m, x.maxHours = some m ∧ ((∃ n, x.minHours = some n ∧ m < n) ∨ ∃ n, x.testHours = some n ∧ m < n)
    (validate steps = none ↔
      (1 ≤ steps.length ∧ steps.length ≤ 24) ∧
        ∀ i x, steps[i]? = some x → ¬ order i x ∧ ¬ test x ∧ ¬ beyond x) ∧
    (steps.length = 0 ∨ 24 < steps.length → validate steps = some (0, .empty)) ∧
    (1 ≤ steps.length → steps.length ≤ 24 →
      ∀ i r, validate steps = some (i, r) →
        (∀ j x, j < i → steps[j]? = some x → ¬ order j x ∧ ¬ test x ∧ ¬ beyond x) ∧
        ∃ x, steps[i]? = some x ∧
          (r = .kindOrder ∧ order i x ∨ r = .testKind ∧ ¬ order i x ∧ test x ∨
            r = .minOverMax ∧ ¬ order i x ∧ ¬ test x ∧ beyond x))

/-- R74, R75, R76: SCHED_ADOPT_NOW of a valid EDIT buffer. With no run in progress the roles are exchanged and nothing else
changes; with the run RUNNING or HELD the run is put into the target step, with fresh clocks when the restart flag is
set, and ADOPTION_APPLIED is queued. -/
def Obligations.AdoptNowExchangesTheRoles : Prop :=
  ∀ (s : State) (tag target restart : Byte), s.Receptive → target.toNat ≤ 23 → restart.toNat ≤ 1 →
    s.schedule.adoption = none → validate s.schedule.editSteps = none →
    (s.run.state.inProgress = false →
      ∃ t, Served (.schedAdoptNow tag [target, restart]) s t (.of .ok t.summary) ∧ RolesExchanged s t ∧
        t.schedule.adoption = none ∧ t = { s with schedule := t.schedule, link := t.link }) ∧
    ∀ x, s.run.state.going = true → s.schedule.editSteps[target.toNat]? = some x →
      ∃ t, Served (.schedAdoptNow tag [target, restart]) s t (.of .ok t.summary) ∧ RolesExchanged s t ∧
        t.schedule.adoption = none ∧
        t =
          { s with
            schedule := t.schedule, run := t.run, zones := t.zones, fans := t.fans, outputs := t.outputs,
            notices := t.notices, memory := t.memory, link := t.link } ∧
        t.run =
          (if restart = 1 then
            { s.run with
              stepIndex := some target.toNat, stepMinutes := 0, mcMet := false, timeoutTaken := false, settleTimer := 0,
              inBand := false }
          else { s.run with stepIndex := some target.toNat }) ∧
        t.notices = noticesAfter s [(.adoptionApplied, target.toNat, 0)] ∧ AsksCheckpoint s t ∧
        t.fans.reversalInterval = x.reversalInterval ∧ t.fans.speed = x.speed ∧
        ∀ z q, s.zoneActive z = true → (s.zone z).ramp = some q →
          (t.zone z).ramp =
            some
              { dbTarget := x.dbTarget, depression := x.depression, rampRate := x.rampRate, kind := x.kind
                origin := if restart = 1 then q.setpoint else q.origin
                setpoint :=
                  if restart = 1 then q.setpoint
                  else max (min q.origin x.dbTarget) (min (max q.origin x.dbTarget) q.setpoint) }

/-- R78, R80: SCHED_ADOPT_AT_STEP_END stores the record and exchanges nothing, and SCHED_ADOPT_CANCEL removes it, or
answers EMPTY with none there.
R74: the checks of SCHED_ADOPT in their order, for both values of field 1; a refused one changes nothing. A value of field
1 above 1 and an empty payload, which only the bytes on the line bring, are refused too. -/
def Obligations.AdoptionRequestsAreCheckedInOrder : Prop :=
  ((∀ (s : State) (tag target restart : Byte), s.Receptive → target.toNat ≤ 23 → restart.toNat ≤ 1 →
    s.schedule.adoption = none → validate s.schedule.editSteps = none → s.run.state.going = true →
    target.toNat < s.schedule.editSteps.length →
    ∃ t, Served (.schedAdoptAtStepEnd tag [target, restart]) s t (.of .ok t.summary) ∧
      t =
        { s with
          schedule := { s.schedule with adoption := some { target := target.toNat, restart := decide (restart = 1) } }
          link := t.link }) ∧
  ∀ (s : State) (tag : Byte), s.Receptive →
    (s.schedule.adoption.isSome = true →
      ∃ t, Served (.schedAdoptCancel tag []) s t (.of .ok t.summary) ∧
        t = { s with schedule := { s.schedule with adoption := none }, link := t.link }) ∧
    (s.schedule.adoption = none → ServedUnchanged (.schedAdoptCancel tag []) s (.of .empty s.summary)) ∧
    ∀ p : List Byte, p ≠ [] → ServedUnchanged (.schedAdoptCancel tag p) s (.of .badLength s.summary)) ∧
  (∀ (s : State) (tag : Byte) (rest : List Byte) (c : Instr), s.Receptive →
    c = .schedAdoptNow tag rest ∨ c = .schedAdoptAtStepEnd tag rest →
    let refuses := fun (status : Status) (detail : List Byte) =>
      ServedUnchanged c s { status, detail, body := s.summary }
    (rest.length ≠ 2 → refuses .badLength []) ∧
    ∀ target restart, rest = [target, restart] →
      (23 < target.toNat → refuses .badValue [2]) ∧
      (target.toNat ≤ 23 → 1 < restart.toNat → refuses .badValue [3]) ∧
      (target.toNat ≤ 23 → restart.toNat ≤ 1 →
        (s.schedule.adoption.isSome = true → refuses .adoptionPending []) ∧
        (s.schedule.adoption = none →
          (c = .schedAdoptNow tag rest ∧ s.run.state = .safe ∨ c = .schedAdoptAtStepEnd tag rest ∧ s.run.state.going = false →
            refuses .wrongState []) ∧
          (c = .schedAdoptNow tag rest ∧ s.run.state ≠ .safe ∨ c = .schedAdoptAtStepEnd tag rest ∧ s.run.state.going = true →
            (∀ i r, validate s.schedule.editSteps = some (i, r) →
              refuses .invalidSchedule [BitVec.ofNat 8 i, BitVec.ofNat 8 r.code]) ∧
            (validate s.schedule.editSteps = none → s.run.state.going = true →
              s.schedule.editSteps.length ≤ target.toNat → refuses .badValue [2]))))) ∧
  ∀ (s : State) (tag low : Byte) (p : List Byte), s.Awake → s.ready = true → AwaitsLastByte s 0x25 tag p low →
    ∃ t, exec (.characterReceived low) s = .next t ∧
      (p = [] → OnlyLink s t ∧ Answered s t 0x25 tag (.of .badLength s.summary)) ∧
      ∀ when_ target restart, p = [when_, target, restart] → 1 < when_.toNat →
        OnlyLink s t ∧ Answered s t 0x25 tag { status := .badValue, detail := [1], body := s.summary }

/-- R84, R85, R86, R135: an accepted RUN_START. The run record is initialised, the step entered with each active zone's
origin at its published DB (or the step's DB target), the two notices queued, a checkpoint asked for, and stopped fans
started; a DB in FAULT adds SENSOR and a lost quorum under HOLD adds QUORUM, in that order.
The place of the fan start's notices is the model's: FAN_FAILED after RUN_STARTED, STEP_ENTERED and RUN_HELD (log 11,
DEDUCED from R85), and a second INTERLOCK_TRIPPED before FAN_FAILED (log 9, DEDUCED from R140). SENSOR counts a zone made
active since the latest sample set (log 24, DEDUCED from R85 against R98). -/
def Obligations.RunStartEntersTheFirstStep : Prop :=
  ∀ (s : State) (tag i : Byte) (x : StepRecord), s.Receptive → s.run.state.inProgress = false → s.fans.Agrees →
    s.schedule.activeSteps[i.toNat]? = some x →
    (∀ j, (s.input j).latch = true → s.inputLevel j ≠ 2 ∧ s.inputLevel j ≠ 3) → (∃ z, s.zoneActive z = true) →
    let sensor := ∃ z, s.zoneActive z = true ∧ (s.channels z).db.state = .fault
    let lost := s.settings.quorumAction = .hold ∧ ∃ p, s.statistics.latest = some p ∧ p.quorum = .lost
    let entry := [(NoticeKind.runStarted, i.toNat, s.schedule.activeSteps.length), (.stepEntered, i.toNat, x.kind.code)]
    let fans := fanStartNotices s
    let started : Run :=
      { state := .running, reasons := .empty, stepIndex := some i.toNat, stepMinutes := 0, totalMinutes := 0,
        mcMet := false, timeoutTaken := false, settleTimer := 0, inBand := false
        equalizeEntered := decide (x.kind = .equalize)
        spread :=
          if x.kind = .equalize then (s.statistics.latest.bind (·.figures)).map fun f => f.wettest - f.driest else none
        completion := none, restored := false }
    ∃ t, Served (.runStart tag [i]) s t (.of .ok t.runPart) ∧
      t =
        { s with
          run := t.run, zones := t.zones, fans := t.fans, outputs := t.outputs, notices := t.notices,
          memory := t.memory, link := t.link } ∧
      (¬ sensor → ¬ lost → t.run = started ∧ t.notices = noticesAfter s (entry ++ fans)) ∧
      (sensor → ¬ lost →
        t.run = { started with state := .held, reasons := { HoldSet.empty with sensor := true } } ∧
          t.notices = noticesAfter s (entry ++ [(.runHeld, 4, 1)] ++ fans)) ∧
      (¬ sensor → lost →
        t.run = { started with state := .held, reasons := { HoldSet.empty with quorum := true } } ∧
          t.notices = noticesAfter s (entry ++ [(.runHeld, 3, 1)] ++ fans)) ∧
      (sensor → lost →
        t.run = { started with state := .held, reasons := { HoldSet.empty with sensor := true, quorum := true } } ∧
          t.notices = noticesAfter s (entry ++ [(.runHeld, 4, 1), (.runHeld, 3, 2)] ++ fans)) ∧
      AsksCheckpoint s t ∧
      (∀ z, s.zoneActive z = true →
        t.zone z =
          { s.zone z with
            ramp :=
              some
                { dbTarget := x.dbTarget, depression := x.depression, rampRate := x.rampRate, kind := x.kind
                  origin := ((s.channels z).db.usable).getD x.dbTarget
                  setpoint := ((s.channels z).db.usable).getD x.dbTarget } }) ∧
      (s.fans.state = .stopped → (s.input .fanRun).latch = false → (s.input .fanRun).live = false →
        t.fans =
          { s.fans with
            state := .starting, direction := .fwd, speed := x.speed, reversalInterval := x.reversalInterval,
            reversalTimer := 0, confirmTimer := 0, confirmed := false, compareActive := false }) ∧
      (s.fans.state = .stopped → (s.input .fanRun).latch = true → t.fans.state = .failed)

/-- R84: the refusals of RUN_START in their order; a refused one changes nothing. -/
def Obligations.RunStartIsRefusedInOrder : Prop :=
  ∀ (s : State) (tag i : Byte), s.Receptive →
    let tripped := ∃ j, (s.input j).latch = true ∧ (s.inputLevel j = 2 ∨ s.inputLevel j = 3)
    let refuses := fun (status : Status) (detail : List Byte) =>
      ServedUnchanged (.runStart tag [i]) s { status, detail, body := s.runPart }
    (s.run.state.inProgress = true → refuses .wrongState []) ∧
    (s.run.state.inProgress = false →
      (s.schedule.activeSteps = [] → refuses .noSchedule []) ∧
      (s.schedule.activeSteps ≠ [] →
        (s.schedule.activeSteps.length ≤ i.toNat → refuses .badValue [1]) ∧
        (i.toNat < s.schedule.activeSteps.length →
          (tripped → refuses .tripped []) ∧
          (¬ tripped → (∀ z, s.zoneActive z = false) → refuses .noZone [])))) ∧
    ∀ p : List Byte, p.length ≠ 1 → ServedUnchanged (.runStart tag p) s (.of .badLength s.runPart)

/-- R99, R100, R97: RUN_HOLD adds HOST and holds a RUNNING run; RUN_RESUME takes HOST, TIMEOUT and RESTORED out of the set
of a HELD run, which is RUNNING again when the set is then empty. -/
def Obligations.HoldAndResumeChangeTheReasons : Prop :=
  ∀ (s : State) (tag : Byte), s.Receptive →
    let left := { s.run.reasons with host := false, timeout := false, restored := false }
    (s.run.state = .running ∨ s.run.state = .held →
      ∃ t, Served (.runHold tag []) s t (.of .ok t.runPart) ∧
        t = { s with run := t.run, notices := t.notices, memory := t.memory, link := t.link } ∧ AsksCheckpoint s t ∧
        (s.run.reasons.host = true → t.run = s.run ∧ t.notices = s.notices) ∧
        (s.run.reasons.host = false →
          t.run =
              { s.run with
                state := .held, reasons := { s.run.reasons with host := true }
                inBand := if s.run.state = .running then false else s.run.inBand } ∧
            t.notices = noticesAfter s [(.runHeld, 1, t.run.reasons.count)])) ∧
    (s.run.state ≠ .running → s.run.state ≠ .held → ServedUnchanged (.runHold tag []) s (.of .wrongState s.runPart)) ∧
    (s.run.state = .held →
      ∃ t, Served (.runResume tag []) s t (.of .ok t.runPart) ∧
        t = { s with run := t.run, notices := t.notices, memory := t.memory, link := t.link } ∧ AsksCheckpoint s t ∧
        (left = .empty →
          t.run = { s.run with state := .running, reasons := .empty } ∧
            ∀ i, s.run.stepIndex = some i → t.notices = noticesAfter s [(.runResumed, i, 0)]) ∧
        (left ≠ .empty → t.run = { s.run with reasons := left } ∧ t.notices = s.notices)) ∧
    (s.run.state ≠ .held → ServedUnchanged (.runResume tag []) s (.of .wrongState s.runPart)) ∧
    ∀ p : List Byte, p ≠ [] →
      ServedUnchanged (.runHold tag p) s (.of .badLength s.runPart) ∧
        ServedUnchanged (.runResume tag p) s (.of .badLength s.runPart)

/-- R102, R103, R79, R83: RUN_RESTART brings a SAFE run back HELD by HOST when no level-3 latch is set, and is refused with
TRIPPED while one is; RUN_ABORT ends a run in progress and removes the pending adoption.
The place of the fan start's notices is the model's: FAN_FAILED after RUN_HELD (log 11), and a second INTERLOCK_TRIPPED
before FAN_FAILED (log 9), both DEDUCED. -/
def Obligations.RestartHoldsAndAbortEndsTheRun : Prop :=
  ∀ (s : State) (tag : Byte), s.Receptive → s.fans.Agrees →
    (s.run.state = .safe → (∀ j, (s.input j).latch = true → s.inputLevel j ≠ 3) →
      ∃ t, Served (.runRestart tag []) s t (.of .ok t.runPart) ∧
        t =
          { s with
            run := { s.run with state := .held, reasons := { s.run.reasons with host := true } }
            notices := noticesAfter s ((.runHeld, 1, t.run.reasons.count) :: fanStartNotices s)
            outputs := t.outputs, fans := t.fans, memory := t.memory, link := t.link } ∧
        AsksCheckpoint s t ∧
        (s.fans.state = .stopped → (s.input .fanRun).latch = false → (s.input .fanRun).live = false →
          t.fans.state = .starting ∧ t.fans.direction = .fwd ∧ t.fans.reversalTimer = 0)) ∧
    (s.run.state = .safe → (∃ j, (s.input j).latch = true ∧ s.inputLevel j = 3) →
      ServedUnchanged (.runRestart tag []) s (.of .tripped s.runPart)) ∧
    (s.run.state ≠ .safe → ServedUnchanged (.runRestart tag []) s (.of .wrongState s.runPart)) ∧
    (∀ i, s.run.state.inProgress = true → s.run.stepIndex = some i →
      ∃ t, Served (.runAbort tag []) s t (.of .ok t.runPart) ∧ RunEnded t ∧
        t =
          { s with
            run := { s.run with state := .aborted, reasons := .empty, inBand := false }
            schedule := { s.schedule with adoption := none }
            notices := noticesAfter s [(.runAborted, i, 0)], zones := t.zones, outputs := t.outputs, fans := t.fans,
            memory := t.memory, link := t.link } ∧
        t.memory = s.memory.requestCheckpoint .noRun) ∧
    (s.run.state.inProgress = false → ServedUnchanged (.runAbort tag []) s (.of .wrongState s.runPart)) ∧
    ∀ p : List Byte, p ≠ [] →
      ServedUnchanged (.runRestart tag p) s (.of .badLength s.runPart) ∧
        ServedUnchanged (.runAbort tag p) s (.of .badLength s.runPart)

/-! ### Interlocks, fans and valves -/

/-- R143 to R147, R98, R101, R97: LIVE_LEVEL_CHANGE of an input other than FAN_RUN. A change to a level that conforms, or
on an input that is not judged, changes the live level alone; a change that trips queues INTERLOCK_TRIPPED and, when the
latch was clear, sets it: at level 2 a RUNNING run with no hold reason is HELD, at level 3 a run that is RUNNING or HELD
enters SAFE. That a trip of a latch already set queues its notice follows R146 and worked case 8.8 against R153, row 1:
DEDUCED (log 22). -/
def Obligations.LiveLevelChangeTripsByLevel : Prop :=
  ∀ (s : State) (i : Input) (closed : Bool), s.Awake → i ≠ .fanRun → s.InterlockAgrees → s.ValvesSound →
    let c := Instr.liveLevelChange i closed
    let r := s.input i
    let level := s.inputLevel i
    let trips :=
      closed ≠ r.live ∧ s.ready = true ∧ (s.settings.interlocks.get i).compare = true ∧ 1 ≤ level ∧
        closed ≠ (s.settings.interlocks.get i).expectedClosed
    let tripped := (NoticeKind.interlockTripped, i.number, level)
    (closed = r.live → exec c s = .next s) ∧
    (¬ trips → exec c s = .next { s with interlocks := s.interlocks.set i { r with live := closed } }) ∧
    (trips → r.latch = true →
      exec c s =
        .next
          { s with
            interlocks := s.interlocks.set i { r with live := closed }, notices := noticesAfter s [tripped] }) ∧
    (trips → r.latch = false →
      ∃ t, exec c s = .next t ∧
        t =
          { s with
            interlocks := s.interlocks.set i { live := closed, latch := true, trippedAt := some s.clock.minute }
            notices := t.notices, run := t.run, fans := t.fans, outputs := t.outputs, memory := t.memory } ∧
        (level = 1 ∨ s.run.state.inProgress = false →
          t.notices = noticesAfter s [tripped] ∧ t.run = s.run ∧ t.fans = s.fans ∧ t.outputs = s.outputs ∧
            t.memory = s.memory) ∧
        (level = 2 → s.run.state = .running → s.run.reasons = .empty →
          t.notices = noticesAfter s [tripped, (.runHeld, 5, 1)] ∧ HeldByInterlock s t ∧ t.fans = s.fans ∧
            t.outputs = s.outputs) ∧
        (level = 3 → s.run.state.going = true →
          t.notices = noticesAfter s [tripped, (.runSafe, i.number, 0)] ∧ EntersSafe s t))

/-- R136, R137, R140, R144, R146, R147 (which leaves the order of a FAN_RUN latch's two readers free, log 4):
LIVE_LEVEL_CHANGE of FAN_RUN. Reading running in STARTING confirms the start; a reversal already due then begins at once
(R138). Reading running in an unconfirmed run sets the confirmed flag; reading stopped in a running state trips by its
level, or does nothing more at level 0.
R134, R144 to R146: in STOPPED, before READY too, and in COASTING, where the comparison is suspended, a change is that of
the live level alone. So it is in FAILED for reading stopped, and for reading running at level 0; with the latch set,
reading running at any other level trips again, which queues INTERLOCK_TRIPPED and signals nothing. -/
def Obligations.FanRunConfirmsOrTrips : Prop :=
  ∀ s : State, s.Awake → s.fans.Agrees →
    let become := fun (closed : Bool) => s.interlocks.set .fanRun { s.input .fanRun with live := closed }
    (∀ closed, closed = (s.input .fanRun).live → exec (.liveLevelChange .fanRun closed) s = .next s) ∧
    (∀ closed, s.fans.state = .stopped ∨ s.fans.state = .coasting →
      exec (.liveLevelChange .fanRun closed) s = .next { s with interlocks := become closed }) ∧
    (s.fans.state = .failed →
      exec (.liveLevelChange .fanRun false) s = .next { s with interlocks := become false } ∧
      (s.inputLevel .fanRun = 0 ∨ (s.input .fanRun).live = true →
        exec (.liveLevelChange .fanRun true) s = .next { s with interlocks := become true }) ∧
      ((s.input .fanRun).latch = true → 1 ≤ s.inputLevel .fanRun → (s.input .fanRun).live = false →
        exec (.liveLevelChange .fanRun true) s =
          .next
            { s with
              interlocks := become true
              notices := noticesAfter s [(.interlockTripped, 2, s.inputLevel .fanRun)] })) ∧
    (s.InterlockAgrees → s.ValvesSound → s.ForcingAgrees → (s.input .fanRun).latch = false →
      (s.fans.state = .starting → (s.input .fanRun).live = false → s.fans.NoReversal →
        ∃ t, exec (.liveLevelChange .fanRun true) s = .next t ∧ FansRun s t true ∧
          t = { s with interlocks := become true, fans := t.fans, outputs := t.outputs }) ∧
      (s.fans.state = .starting → (s.input .fanRun).live = false → ¬ s.fans.NoReversal →
        ∃ t, exec (.liveLevelChange .fanRun true) s = .next t ∧ t.AllValvesForced ∧
          t = { s with interlocks := become true, fans := t.fans, outputs := t.outputs } ∧
          t.fans =
            { s.fans with
              state := .coasting, confirmed := true, expectRunning := true, compareActive := false, reversalTimer := 0
              coastTimer := 0 }) ∧
      (s.fans.state.isRunning = true → (s.input .fanRun).live = false →
        exec (.liveLevelChange .fanRun true) s =
          .next { s with interlocks := become true, fans := { s.fans with confirmed := true } }) ∧
      (s.fans.state.isRunning = true → (s.input .fanRun).live = true →
        (s.inputLevel .fanRun = 0 →
          exec (.liveLevelChange .fanRun false) s = .next { s with interlocks := become false }) ∧
        (1 ≤ s.inputLevel .fanRun → s.inputLevel .fanRun ≤ 3 →
          ∃ t, exec (.liveLevelChange .fanRun false) s = .next t ∧
            FanRunTrips s t (if s.fans.state = .runningFwd then 2 else 3))))

/-- R137, R138, R139, with R147's free order (log 4): the fan timers. START_CONFIRM_EXPIRY lets the fans run unconfirmed at
level 0 and trips FAN_RUN at any other; REVERSAL_DUE puts running fans in COASTING with RUN off and every valve forced; COAST_END flips the direction
and starts the fans, which run at once when FAN_RUN still reads running. -/
def Obligations.FanTimersExpire : Prop :=
  ∀ s : State, s.powered = true → s.due = .none → s.fans.Agrees → s.ValvesSound → s.ForcingAgrees → s.InterlockAgrees →
    (s.input .fanRun).latch = false →
    (s.fans.state = .starting → s.settings.startConfirmWindow ≤ s.fans.confirmTimer → (s.input .fanRun).live = false →
      (s.inputLevel .fanRun = 0 → s.fans.NoReversal →
        ∃ t, exec .startConfirmExpiry s = .next t ∧ FansRun s t s.fans.confirmed ∧
          t = { s with fans := t.fans, outputs := t.outputs }) ∧
      (1 ≤ s.inputLevel .fanRun → s.inputLevel .fanRun ≤ 3 →
        ∃ t, exec .startConfirmExpiry s = .next t ∧ FanRunTrips s t 1)) ∧
    (s.fans.state.isRunning = true → s.fans.reversalInterval ≠ 0 → s.fans.reversalInterval ≤ s.fans.reversalTimer →
      ∃ t, exec .reversalDue s = .next t ∧ t = { s with fans := t.fans, outputs := t.outputs } ∧
        t.fans = { s.fans with state := .coasting, compareActive := false, reversalTimer := 0, coastTimer := 0 } ∧
        t.fans.expectRunning = true ∧ t.AllValvesForced) ∧
    (s.fans.state = .coasting → s.settings.coastTime ≤ s.fans.coastTimer →
      let direction := if s.fans.direction = .fwd then Direction.rev else Direction.fwd
      ((s.input .fanRun).live = false →
        ∃ t, exec .coastEnd s = .next t ∧ t = { s with fans := t.fans, outputs := t.outputs } ∧
          t.fans =
            { s.fans with
              state := .starting, direction, coastTimer := 0, confirmTimer := 0, confirmed := false
              compareActive := false } ∧
          ∀ z k, (t.outputs.get z).valve k = (s.outputs.get z).valve k) ∧
      ((s.input .fanRun).live = true → s.fans.NoReversal →
        ∃ t, exec .coastEnd s = .next t ∧ t = { s with fans := t.fans, outputs := t.outputs } ∧
          t.fans =
            { s.fans with
              state := if direction = .fwd then .runningFwd else .runningRev
              direction, coastTimer := 0, confirmTimer := 0, confirmed := true, expectRunning := true
              compareActive := true }))

/-- R129: VALVE_ON_TIME_REACHED turns the output OFF, and VALVE_CYCLE_END starts the next cycle with the period setting
and the demand as they stand; the on-time is p × d / 100 truncated, below 10 raised to nothing and above 10p − 10 to the
whole cycle. Every other valve, and every vent, stays as it is; a FORCED valve has no cycle.
MODEL's choice (log 3): with no command waiting and nothing due, a tenth of a second passes for every valve: the
elapsed time of a cycle rises by 1, but for the tenth at which it would reach the on-time or the period; a part
without supply stays as it is. -/
def Obligations.ValveCyclesFollowTheOnTime : Prop :=
  (∀ (s : State) (z : ZoneId) (k : ValveKind), s.Awake →
    let v := (s.outputs.get z).valve k
    let only := fun (t : State) (w : Valve) =>
      t = { s with outputs := s.outputs.set z ((s.outputs.get z).setValve k w) }
    (v.cycle = none → exec (.valveOnTimeReached z k) s = .next s ∧ exec (.valveCycleEnd z k) s = .next s) ∧
    ∀ cycle, v.cycle = some cycle →
      (v.output = true → cycle.onTime < 10 * cycle.period →
        ∃ t, exec (.valveOnTimeReached z k) s = .next t ∧
          only t { v with output := false, cycle := some { cycle with elapsed := cycle.onTime } }) ∧
      ∃ t w, exec (.valveCycleEnd z k) s = .next t ∧ only t w ∧ w.forcing = v.forcing ∧ w.demand = v.demand ∧
        ∃ started, w.cycle = some started ∧ started.elapsed = 0 ∧
          started.period = (match k with | .heat => s.settings.heatPeriod | .spray => s.settings.sprayPeriod) ∧
          (started.period * v.demand / 100 < 10 → started.onTime = 0) ∧
          (10 ≤ started.period * v.demand / 100 → 10 * started.period - 10 < started.period * v.demand / 100 →
            started.onTime = 10 * started.period) ∧
          (10 ≤ started.period * v.demand / 100 → started.period * v.demand / 100 ≤ 10 * started.period - 10 →
            started.onTime = started.period * v.demand / 100) ∧
          w.output = decide (0 < started.onTime)) ∧
  ((∀ s : State, s.pending = [] → s.powered = false → step s = .next s) ∧
  ∀ s : State, s.pending = [] → s.Awake →
    ∃ t, step s = .next t ∧ t = { s with outputs := t.outputs } ∧
      ∀ z k,
        let v := (s.outputs.get z).valve k
        let w := (t.outputs.get z).valve k
        (v.cycle = none → w = v) ∧
        ∀ c, v.cycle = some c →
          (c.elapsed + 1 < c.onTime ∨ c.onTime ≤ c.elapsed ∧ c.elapsed + 1 < 10 * c.period →
            w = { v with cycle := some { c with elapsed := c.elapsed + 1 } }) ∧
          (c.elapsed + 1 = c.onTime ∨ c.onTime ≤ c.elapsed ∧ 10 * c.period ≤ c.elapsed + 1 → w = v))

/-! ### The supervisor link -/

/-- R163, R164, R165: what each character and each event of the line does to the receiver, but for the second CRC byte of
a frame that is accepted. R163 gives HUNT at the last expected byte of a skipped frame; that FRAME_SKIPPED takes SKIP to
HUNT with any number of bytes left is MODEL's choice (log 17). -/
def Obligations.ReceiverFollowsItsTable : Prop :=
  ∀ (s : State) (b : Byte), s.Awake →
    let becomes := fun (c : Instr) (r : Receiver) => exec c s = .next { s with link := { s.link with receiver := r } }
    let char := Instr.characterReceived b
    (s.link.receiver = .hunt → becomes char (if b = 0xC3 then .address else .hunt) ∧ becomes .gapTimeout .hunt) ∧
    (s.link.receiver = .address → becomes char (.length b) ∧ becomes .gapTimeout .hunt) ∧
    (∀ a, s.link.receiver = .length a →
      (b.toNat < 2 ∨ 250 < b.toNat → becomes char .hunt ∧ becomes (.frameLengthInvalid b) .hunt) ∧
      (2 ≤ b.toNat → b.toNat ≤ 250 →
        becomes char (if a.toNat = s.straps.address.toNat + 1 then .body a b [] else .skip (b.toNat + 2))) ∧
      becomes .gapTimeout .hunt) ∧
    (∀ a length bytes, s.link.receiver = .body a length bytes →
      becomes char
          (if bytes.length + 1 < length.toNat then .body a length (bytes ++ [b])
          else .crc a length (bytes ++ [b]) none) ∧
        becomes .gapTimeout .hunt) ∧
    (∀ a length bytes, s.link.receiver = .crc a length bytes none →
      becomes char (.crc a length bytes (some b)) ∧ becomes .gapTimeout .hunt) ∧
    (∀ a length bytes high, s.link.receiver = .crc a length bytes (some high) →
      crcBytes (crcOf (a :: length :: bytes)) ≠ [high, b] →
      becomes char .hunt ∧ becomes (.frameCrcFail b) .hunt ∧ becomes .gapTimeout .hunt) ∧
    (∀ n, s.link.receiver = .skip n →
      becomes char (if n ≤ 1 then .hunt else .skip (n - 1)) ∧ becomes .frameSkipped .hunt ∧ becomes .gapTimeout .hunt) ∧
    (s.link.receiver = .answering →
      exec char s = .next s ∧ exec .gapTimeout s = .next s ∧
        (s.link.reply.isSome = true →
          exec .replyFirstCharacter s = .next { s with link := { s.link with driver := true } }) ∧
        exec .replyEnd s =
          .next { s with link := { s.link with receiver := .hunt, reply := none, driver := false } })

/-- R163, R164, 10.2, 10.5: the bytes of a request's frame, sent one after another to a part in HUNT, are accepted as that
request, with every byte of kind, tag and payload as it was sent; that the
command of the request's row accepts the same as its whole frame is MODEL's choice (log 17). The same bytes for another
address, or with a CRC that does not agree, leave the part as it was. -/
def Obligations.FramesAreReadBackAsTheirRequests : Prop :=
  ∀ (c : Instr) (kind tag : Byte) (payload : List Byte) (s : State), requestOf c = some (kind, tag, payload) →
    wellFormed c = true → s.Awake → s.link.receiver = .hunt →
    let body := frameBody s.linkAddress kind tag payload
    exec c s = .next (s.accept kind tag payload).finishEvent ∧
    (∃ before : State, before = { s with link := { s.link with receiver := before.link.receiver } } ∧
      receiveAll (frameBytes s.linkAddress kind tag payload) s = .next (before.accept kind tag payload).finishEvent) ∧
    (∀ address, address ≠ s.linkAddress → address ≤ 255 →
      receiveAll (frameBytes address kind tag payload) s = .next s) ∧
    ∀ high low, [high, low] ≠ crcBytes (crcOf body) → receiveAll ([0xC3] ++ body ++ [high, low]) s = .next s

/-- R165: the first case that applies. A kind outside the catalogue is answered UNKNOWN_REQUEST, before and after READY; a
request other than IDENTIFY and STATUS is answered NOT_READY before READY; and a request sent while the part is ANSWERING
is lost. -/
def Obligations.RequestsAreDispatchedInOrder : Prop :=
  (∀ (s : State) (kind tag : Byte) (payload : List Byte), s.Awake → s.link.receiver = .hunt →
    wellFormed (.unknownRequest kind tag payload) = true →
    ServedUnchanged (.unknownRequest kind tag payload) s (.of .unknownRequest [])) ∧
  (∀ (c : Instr) (kind tag : Byte) (payload : List Byte) (s : State), requestOf c = some (kind, tag, payload) →
    wellFormed c = true → s.Awake → s.link.receiver = .hunt → s.ready = false →
    catalogue.contains kind.toNat = true → kind ≠ 0x01 → kind ≠ 0x02 → ServedUnchanged c s (.of .notReady [])) ∧
  ∀ (c : Instr) (request : Byte × Byte × List Byte) (s : State), requestOf c = some request → s.Awake →
    s.link.receiver = .answering → exec c s = .next s

/-- R167: IDENTIFY is served before and after READY and changes nothing; its fields, in their order, with the byte-order
pattern low byte first; a payload is refused. The silicon revision is 1 to 255 and the same in every state. -/
def Obligations.IdentifyGivesItsFields : Prop :=
  ∃ revision : Nat, (1 ≤ revision ∧ revision ≤ 255) ∧
    ∀ (s : State) (tag : Byte), s.Awake → s.link.receiver = .hunt →
      ServedUnchanged (.identify tag []) s
          (.of .ok
            [0x26, 0x58, 0x0A, BitVec.ofNat 8 revision, 0x39, 0x4B, s.straps.address.setWidth 8 + 1,
              s.straps.baud.setWidth 8]) ∧
        ∀ p : List Byte, p ≠ [] → ServedUnchanged (.identify tag p) s (.of .badLength [])

/-- R168, R55, R61, R36, R72, R105, R124, R152, R157: the requests that only read change nothing but the Link Interface,
and are answered with the part that shows the state; a payload of another length, and a number that names no record, are
refused, with the part only where the rule gives it to the reply and not to OK (R72's summary; log 12). STATUS is served
before READY too, and then shows the scanner OFF, the fans STOPPED, the latch mask 0 and the outputs released. The order
of STATUS' bytes is that of R168 (log 13). -/
def Obligations.ReadingRequestsChangeNothing : Prop :=
  (∀ (s : State) (tag : Byte), s.Awake → s.link.receiver = .hunt →
    ServedUnchanged (.status tag []) s
        (.of .ok
          (flag1 s.ready ++ byte4 s.clock.minute ++ byte1 s.scanner.state.code ++ byte2 s.scanner.scanNumber ++
            byte1 s.fans.state.code ++ byte1 s.latchMask ++ byte1 s.history.frames.length ++ byte1 s.memory.op.code ++
            flag1 s.memory.pendingCheckpoint.isSome ++ flag1 s.memory.pendingSave.isSome ++ flag1 s.ready)) ∧
      (∀ i, s.latchMask.testBit (i.number - 1) = (s.input i).latch) ∧
      (s.ready = false → s.ColdAgrees →
        ServedUnchanged (.status tag []) s
          (.of .ok
            ([0] ++ byte4 s.clock.minute ++ [0] ++ byte2 s.scanner.scanNumber ++ [0, 0] ++
              byte1 s.history.frames.length ++ byte1 s.memory.op.code ++ flag1 s.memory.pendingCheckpoint.isSome ++
              flag1 s.memory.pendingSave.isSome ++ [0]))) ∧
      ∀ p : List Byte, p ≠ [] → ServedUnchanged (.status tag p) s (.of .badLength [])) ∧
  ∀ (s : State) (tag : Byte), s.Receptive →
    (∀ p : Fin 48, ServedUnchanged (.probeGet tag [BitVec.ofNat 8 (p.val + 1)]) s (.of .ok (s.probePart p))) ∧
    (∀ publication, s.statistics.latest = some publication →
      ServedUnchanged (.statsGet tag []) s (.of .ok publication.part)) ∧
    (s.statistics.latest = none → ServedUnchanged (.statsGet tag []) s (.of .empty [])) ∧
    (∀ g : Fin 8, ServedUnchanged (.curveGet tag [BitVec.ofNat 8 g.val]) s (.of .ok (s.curvePart g))) ∧
    (∀ i x, i < 24 →
      (s.schedule.activeSteps[i]? = some x →
        ServedUnchanged (.schedGetStep tag [0, BitVec.ofNat 8 i]) s (.of .ok (s.summary ++ x.bytes))) ∧
      (s.schedule.editSteps[i]? = some x →
        ServedUnchanged (.schedGetStep tag [1, BitVec.ofNat 8 i]) s (.of .ok (s.summary ++ x.bytes)))) ∧
    (∀ buffer index : Byte,
      let refuses := fun (field : Byte) =>
        ServedUnchanged (.schedGetStep tag [buffer, index]) s { status := .badValue, detail := [field], body := s.summary }
      (1 < buffer.toNat → refuses 1) ∧
      (buffer = 0 → s.schedule.activeSteps.length ≤ index.toNat → refuses 2) ∧
      (buffer = 1 → s.schedule.editSteps.length ≤ index.toNat → refuses 2)) ∧
    ServedUnchanged (.runGet tag []) s (.of .ok s.runPart) ∧
    (∀ z : ZoneId,
      ServedUnchanged (.zoneGet tag [BitVec.ofNat 8 z.number]) s (.of .ok (s.zonePart z)) ∧
        ServedUnchanged (.zoneConfig tag [BitVec.ofNat 8 z.number]) s (.of .ok (s.zonePart z))) ∧
    (∀ i : Input,
      ServedUnchanged (.interlockGet tag [BitVec.ofNat 8 i.number]) s (.of .ok (s.inputPart i)) ∧
        ServedUnchanged (.interlockConfig tag [BitVec.ofNat 8 i.number]) s (.of .ok (s.inputPart i))) ∧
    ServedUnchanged (.interlockGet tag []) s (.of .ok (Input.all.flatMap s.inputPart)) ∧
    (∀ f, s.history.latest = some f →
      ServedUnchanged (.historyLatest tag []) s
        (.of .ok (f.bytes ++ byte1 s.history.frames.length ++ flag1 s.history.slip))) ∧
    (s.history.latest = none → ServedUnchanged (.historyLatest tag []) s (.of .empty [])) ∧
    (∀ b : Byte,
      let refuses := fun (c : Instr) => ServedUnchanged c s { status := .badValue, detail := [1], body := [] }
      (b = 0 ∨ 48 < b.toNat → refuses (.probeGet tag [b])) ∧ (7 < b.toNat → refuses (.curveGet tag [b])) ∧
      (b = 0 ∨ 4 < b.toNat → refuses (.zoneGet tag [b]) ∧ refuses (.zoneConfig tag [b])) ∧
      (b = 0 ∨ 8 < b.toNat → refuses (.interlockGet tag [b]) ∧ refuses (.interlockConfig tag [b]))) ∧
    ∀ p : List Byte,
      (p ≠ [] →
        ServedUnchanged (.statsGet tag p) s (.of .badLength []) ∧ ServedUnchanged (.runGet tag p) s (.of .badLength []) ∧
          ServedUnchanged (.historyLatest tag p) s (.of .badLength [])) ∧
      (p.length ≠ 1 →
        ServedUnchanged (.probeGet tag p) s (.of .badLength []) ∧
          ServedUnchanged (.curveGet tag p) s (.of .badLength []) ∧
          ServedUnchanged (.zoneGet tag p) s (.of .badLength [])) ∧
      (p.length ≠ 2 → ServedUnchanged (.schedGetStep tag p) s (.of .badLength s.summary)) ∧
      (1 < p.length → ServedUnchanged (.interlockGet tag p) s (.of .badLength []))

/-! ### Requests to the blocks -/

/-- R42, R43, R51, R52, R53, R19: the requests that write one probe's record, by its state, and their refusals. The
replies, refused ones too, carry the record; DEDUCED (log 12): with a wrong length as well where the first byte names a
probe, and the header and detail alone where it names none. -/
def Obligations.ProbeRequestsWriteOneRecord : Prop :=
  ∀ (s : State) (tag : Byte) (p : Fin 48), s.Receptive →
    let n := BitVec.ofNat 8 (p.val + 1)
    let r := s.probe p
    let renewed := { r with state := .new, values := [], faultCount := 0, jumpCount := 0, faultKind := none }
    (∀ group role, WritesRecord (.probeSet tag [n, 0, group, role]) s p .cleared) ∧
    (∀ (z : ZoneId) (g : Fin 8) (role : Role), (s.curve g).isSome = true →
      WritesRecord
        (.probeSet tag [n, BitVec.ofNat 8 z.number, BitVec.ofNat 8 g.val, if role = .control then 0 else 1]) s p
        { ProbeRecord.cleared with assignment := some { zone := z, group := g, role }, state := .new }) ∧
    (∀ zone group role : Byte,
      (4 < zone.toNat →
        ServedUnchanged (.probeSet tag [n, zone, group, role]) s { status := .badValue, detail := [2], body := s.probePart p }) ∧
      (1 ≤ zone.toNat → zone.toNat ≤ 4 → (∀ g : Fin 8, g.val = group.toNat → s.curve g = none) →
        ServedUnchanged (.probeSet tag [n, zone, group, role]) s { status := .badValue, detail := [3], body := s.probePart p }) ∧
      (1 ≤ zone.toNat → zone.toNat ≤ 4 → (∃ g : Fin 8, g.val = group.toNat ∧ (s.curve g).isSome = true) → 1 < role.toNat →
        ServedUnchanged (.probeSet tag [n, zone, group, role]) s { status := .badValue, detail := [4], body := s.probePart p })) ∧
    (r.state = .new ∨ r.state = .good ∨ r.state = .suspect ∨ r.state = .faulted →
      WritesRecord (.probeBlock tag [n]) s p { r with state := .blocked, faultKind := none }) ∧
    (r.state = .blocked → ServedUnchanged (.probeBlock tag [n]) s (.of .ok (s.probePart p))) ∧
    (r.state = .unassigned → ServedUnchanged (.probeBlock tag [n]) s (.of .wrongState (s.probePart p))) ∧
    (r.state = .blocked →
      ∃ t, Served (.probeUnblock tag [n]) s t (.of .ok (t.probePart p)) ∧
        t = { s with probes := setTable s.probes p renewed, link := t.link }) ∧
    (r.state ≠ .blocked → ServedUnchanged (.probeUnblock tag [n]) s (.of .wrongState (s.probePart p))) ∧
    (r.state = .faulted → WritesRecord (.probeReadmit tag [n]) s p renewed) ∧
    (r.state ≠ .faulted → ServedUnchanged (.probeReadmit tag [n]) s (.of .wrongState (s.probePart p))) ∧
    (∀ rest : List Byte,
      (rest ≠ [] →
        ServedUnchanged (.probeBlock tag (n :: rest)) s (.of .badLength (s.probePart p)) ∧
          ServedUnchanged (.probeUnblock tag (n :: rest)) s (.of .badLength (s.probePart p)) ∧
          ServedUnchanged (.probeReadmit tag (n :: rest)) s (.of .badLength (s.probePart p))) ∧
      (rest.length ≠ 3 → ServedUnchanged (.probeSet tag (n :: rest)) s (.of .badLength (s.probePart p)))) ∧
    ∀ q : List Byte, (∀ b, q.head? = some b → b = 0 ∨ 48 < b.toNat) →
      let refused : Nat → Reply := fun length =>
        if q.length = length then { status := .badValue, detail := [1], body := [] } else .of .badLength []
      ServedUnchanged (.probeBlock tag q) s (refused 1) ∧ ServedUnchanged (.probeUnblock tag q) s (refused 1) ∧
        ServedUnchanged (.probeReadmit tag q) s (refused 1) ∧ ServedUnchanged (.probeSet tag q) s (refused 4)

/-- R60: PROBE_CONFIG, both forms. The first field out of range is reported and every setting is kept; otherwise the four
control settings are replaced together, and nothing is published. The reply carries the four settings, a jump limit of
10 to 200 in one byte (R169); with a wrong length as well, DEDUCED (log 12). -/
def Obligations.ProbeConfigIsCheckedWhole : Prop :=
  ∀ (s : State) (tag w q j0 j1 a : Byte), s.Receptive →
    let j := j0.toNat + 256 * j1.toNat
    let c := Instr.probeConfig tag [w, q, j0, j1, a]
    let refuses := fun (field : Byte) =>
      ServedUnchanged c s { status := .badValue, detail := [field], body := s.probeConfigPart }
    let okW := 1 ≤ w.toNat ∧ w.toNat ≤ 16
    let okQ := 1 ≤ q.toNat ∧ q.toNat ≤ 48
    let okJ := 10 ≤ j ∧ j ≤ 200
    ServedUnchanged (.probeConfig tag []) s (.of .ok s.probeConfigPart) ∧
    (¬ okW → refuses 1) ∧ (okW → ¬ okQ → refuses 2) ∧ (okW → okQ → ¬ okJ → refuses 3) ∧
    (okW → okQ → okJ → 1 < a.toNat → refuses 4) ∧
    (okW → okQ → okJ → a.toNat ≤ 1 →
      ∃ t, Served c s t (.of .ok [w, q, j0, a]) ∧
        t =
          { s with
            settings :=
              { s.settings with
                w := w.toNat, q := q.toNat, jumpLimit := j
                quorumAction := if a = 0 then .hold else .continue }
            link := t.link }) ∧
    ∀ p : List Byte, p.length ≠ 0 → p.length ≠ 5 →
      ServedUnchanged (.probeConfig tag p) s (.of .badLength s.probeConfigPart)

/-- R15, R17, R18: SCAN_CONFIG. A write that keeps the interval and the enable changes the tolerance alone; the rows of
R17's table; a new interval keeps the timer, and starts a scan or sets start-due when the timer is at or above it. A scan
with no probe to measure completes at its start. The reply carries the settings and the scanner (R16); with a wrong length
as well, DEDUCED (log 12). MODEL's choice (log 21): where one write changes the enable and the interval, R17 acts first.
R13, R9, R10, R11: SCAN_NOW starts a scan at once in WAITING and in OFF, answers with its number, and is BUSY with the
number of the scan in progress in SCANNING; a scan with no probe to measure completes at its start. -/
def Obligations.ScanRequestsActOnTheScanner : Prop :=
  (∀ (s : State) (tag interval enable tolerance : Byte), s.Receptive →
    let c := Instr.scanConfig tag [interval, enable, tolerance]
    let on := decide (enable.toNat = 1)
    let refuses := fun (field : Byte) =>
      ServedUnchanged c s { status := .badValue, detail := [field], body := s.scanConfigPart }
    let okI := 2 ≤ interval.toNat ∧ interval.toNat ≤ 60
    let okT := 5 ≤ tolerance.toNat ∧ tolerance.toNat ≤ 50
    let settings :=
      { s.settings with scanInterval := interval.toNat, scanEnable := on, polarityTolerance := tolerance.toNat }
    let writes := fun (scanner : Scanner) =>
      ∃ t, Served c s t (.of .ok t.scanConfigPart) ∧ t = { s with settings, scanner, link := t.link }
    let starts := ∃ p, s.FirstProbe p ∧
      ∃ t, Served c s t (.of .ok t.scanConfigPart) ∧ ScanStarts s t p ∧
        t = { s with settings, scanner := t.scanner, link := t.link }
    let startsEmpty :=
      (∀ p, (s.probe p).qualifies = false) →
        ∃ t, Served c s t (.of .ok t.scanConfigPart) ∧ ScanStartsEmpty s t ∧ t.settings = settings
    let same := interval.toNat = s.settings.scanInterval
    let turnsOn := s.settings.scanEnable = false ∧ enable.toNat = 1
    let turnsOff := s.settings.scanEnable = true ∧ enable.toNat = 0
    ServedUnchanged (.scanConfig tag []) s (.of .ok s.scanConfigPart) ∧
    (∀ p : List Byte, p.length ≠ 0 → p.length ≠ 3 →
      ServedUnchanged (.scanConfig tag p) s (.of .badLength s.scanConfigPart)) ∧
    (¬ okI → refuses 1) ∧ (okI → 1 < enable.toNat → refuses 2) ∧ (okI → enable.toNat ≤ 1 → ¬ okT → refuses 3) ∧
    (okI → enable.toNat ≤ 1 → okT →
      (same → on = s.settings.scanEnable → writes s.scanner) ∧
      (turnsOn → s.scanner.state = .off → ((∃ p, s.FirstProbe p) → starts) ∧ startsEmpty) ∧
      (turnsOn → s.scanner.state = .scanning → writes { s.scanner with timer := 0 }) ∧
      (turnsOff → s.scanner.state = .waiting →
        writes { s.scanner with state := .off, timer := 0, startDue := false }) ∧
      (turnsOff → s.scanner.state = .scanning → writes { s.scanner with timer := 0, startDue := false }) ∧
      (¬ same → on = s.settings.scanEnable →
        (s.scanner.state = .off → writes s.scanner) ∧
        (s.scanner.timer < interval.toNat → writes s.scanner) ∧
        (interval.toNat ≤ s.scanner.timer → s.scanner.state = .waiting →
          ((∃ p, s.FirstProbe p) → starts) ∧ (on = true → startsEmpty)) ∧
        (interval.toNat ≤ s.scanner.timer → s.scanner.state = .scanning →
          writes { s.scanner with startDue := on || s.scanner.startDue })))) ∧
  (∀ (s : State) (tag : Byte), s.Receptive →
    let number := (s.scanner.scanNumber + 1) % 65536
    (s.scanner.state = .scanning → ServedUnchanged (.scanNow tag []) s (.of .busy (byte2 s.scanner.scanNumber))) ∧
    (s.scanner.state ≠ .scanning →
      (∀ p, s.FirstProbe p →
        ∃ t, Served (.scanNow tag []) s t (.of .ok (byte2 number)) ∧ ScanStarts s t p ∧ t.scanner.scanNumber = number ∧
          t = { s with scanner := t.scanner, link := t.link }) ∧
      ((∀ p, (s.probe p).qualifies = false) →
        ∃ t, Served (.scanNow tag []) s t (.of .ok (byte2 number)) ∧
          t.scanner.state = (if s.settings.scanEnable then .waiting else .off) ∧ t.scanner.timer = 0 ∧
          t.scanner.excitation = .off ∧ t.scanner.measurement = none ∧ t.scanner.scanNumber = number ∧
          t.statistics.latest.map (·.scanNumber) = some number ∧ t.history.latest.map (·.scanNumber) = some number)) ∧
    ∀ p : List Byte, p ≠ [] → ServedUnchanged (.scanNow tag p) s (.of .badLength []))

/-- R33, R34, R54, R35: CURVE_PUT of a legal curve replaces the group and clears the value list of every probe that names
it, CURVE_CLEAR empties a group that no probe names; the refusals by group, coefficient, count and length, and by the
first point field out of range or out of order. R33 leaves the reply's other fields as they were at a refusal and names
none: that a refused CURVE_PUT carries the header and its detail alone is MODEL's choice (log 12). -/
def Obligations.CurveRequestsReplaceOrClearAGroup : Prop :=
  ∀ (s : State) (tag : Byte) (g : Fin 8), s.Receptive →
    let n := BitVec.ofNat 8 g.val
    (∀ (coefficient : Nat) (points : List CurvePoint), coefficient ≤ 60 → LegalPoints points →
      ∃ t,
        Served
          (.curvePut tag ([n, BitVec.ofNat 8 coefficient, BitVec.ofNat 8 points.length] ++ pointBytes points)) s t
          (.of .ok [n, BitVec.ofNat 8 (s.naming g)]) ∧
        t = { s with settings := { s.settings with curves := t.settings.curves }, probes := t.probes, link := t.link } ∧
        t.curve g = some { coefficient, points } ∧ (∀ h, h ≠ g → t.curve h = s.curve h) ∧
        ∀ p,
          let r := s.probe p
          ((∀ a, r.assignment = some a → a.group ≠ g) → t.probe p = r) ∧
          ∀ a, r.assignment = some a → a.group = g →
            (r.state = .new ∨ r.state = .good ∨ r.state = .suspect →
              t.probe p = { r with state := .new, values := [], faultCount := 0, jumpCount := 0, faultKind := none }) ∧
            (r.state = .faulted ∨ r.state = .blocked → t.probe p = { r with values := [] })) ∧
    (s.naming g = 0 →
      ∃ t, Served (.curveClear tag [n]) s t (.of .ok []) ∧
        t = { s with settings := { s.settings with curves := setTable s.settings.curves g none }, link := t.link }) ∧
    (s.naming g ≠ 0 → ServedUnchanged (.curveClear tag [n]) s (.of .inUse [BitVec.ofNat 8 (s.naming g)])) ∧
    (s.naming g = 0 ↔ ∀ p a, (s.probe p).assignment = some a → a.group ≠ g) ∧
    (∀ (group coefficient count : Byte) (rest : List Byte),
      let refuses := fun (r : Reply) => ServedUnchanged (.curvePut tag (group :: coefficient :: count :: rest)) s r
      (7 < group.toNat →
        refuses { status := .badValue, detail := [1], body := [] } ∧
          ServedUnchanged (.curveClear tag [group]) s { status := .badValue, detail := [1], body := [] }) ∧
      (group.toNat ≤ 7 → 60 < coefficient.toNat → refuses { status := .badValue, detail := [2], body := [] }) ∧
      (group.toNat ≤ 7 → coefficient.toNat ≤ 60 → count.toNat < 2 ∨ 12 < count.toNat →
        refuses { status := .badValue, detail := [3], body := [] }) ∧
      (group.toNat ≤ 7 → coefficient.toNat ≤ 60 → 2 ≤ count.toNat → count.toNat ≤ 12 → rest.length ≠ 4 * count.toNat →
        refuses (.of .badLength []))) ∧
    (∀ (coefficient : Nat) (points : List CurvePoint) (k : Nat), coefficient ≤ 60 → 2 ≤ points.length →
      points.length ≤ 12 → (∀ p ∈ points, p.lc < 65536 ∧ p.mc < 65536) → FirstFailing (pointConditions points) k →
      ServedUnchanged
        (.curvePut tag ([n, BitVec.ofNat 8 coefficient, BitVec.ofNat 8 points.length] ++ pointBytes points)) s
        { status := .badValue, detail := [BitVec.ofNat 8 (k + 4)], body := [] }) ∧
    ∀ p : List Byte,
      (p.length ≠ 1 → ServedUnchanged (.curveClear tag p) s (.of .badLength [])) ∧
      (p.length < 3 → ServedUnchanged (.curvePut tag p) s (.of .badLength []))

/-- R123, R116, R122: the write form of ZONE_CONFIG. The zone's settings and the settle band are replaced; a zone made
active during a run takes the step's targets at its published DB, and a zone made inactive lets go of them with its
demands at 0; any other write leaves the zone's loops. The first field out of range is refused, a zone number outside 1 to
4 among them. MODEL's choice (log 12): a wrong length carries the zone where the first byte names one, and the header
alone where it names none. MODEL's choice (log 13): in fields 2 and 3, 1 is active and 1 is fitted. -/
def Obligations.ZoneConfigActsOnTheZone : Prop :=
  ∀ (s : State) (tag : Byte) (z : ZoneId) (active wood hp hi up ui band : Byte), s.Receptive →
    let c := Instr.zoneConfig tag [BitVec.ofNat 8 z.number, active, wood, hp, hi, up, ui, band]
    let g := s.zoneSettings z
    let legal :=
      [active.toNat ≤ 1, wood.toNat ≤ 1, hp.toNat ≤ 100, hi.toNat ≤ 100, up.toNat ≤ 100, ui.toNat ≤ 100,
        5 ≤ band.toNat ∧ band.toNat ≤ 50]
    (∀ i : Nat, (∀ x, legal[i]? = some x → ¬ x) → (∀ j x, j < i → legal[j]? = some x → x) → i < 7 →
      ServedUnchanged c s { status := .badValue, detail := [BitVec.ofNat 8 (i + 2)], body := s.zonePart z }) ∧
    ((∀ x ∈ legal, x) →
      ∃ t, Served c s t (.of .ok (t.zonePart z)) ∧
        t =
          { s with
            settings := t.settings, sampler := t.sampler, zones := t.zones, outputs := t.outputs, link := t.link } ∧
        t.settings =
          { s.settings with
            settleBand := band.toNat
            zones :=
              s.settings.zones.set z
                { g with
                  active := decide (active = 1), woodFitted := decide (wood = 1), heatKp := hp.toNat
                  heatKi := hi.toNat, humidityKp := up.toNat, humidityKi := ui.toNat } } ∧
        (∀ y, y ≠ z → t.zone y = s.zone y ∧ t.channels y = s.channels y) ∧
        t.channels z =
          (if g.woodFitted = true ∧ wood = 0 then { s.channels z with wood := .cleared } else s.channels z) ∧
        (g.active = decide (active = 1) → t.zone z = s.zone z) ∧
        (g.active = false → active = 1 →
          (s.run.state.inProgress = false → t.zone z = s.zone z) ∧
          ∀ step, s.run.state.inProgress = true → s.currentStep = some step →
            t.zone z =
              { s.zone z with
                ramp :=
                  some
                    { dbTarget := step.dbTarget, depression := step.depression, rampRate := step.rampRate
                      kind := step.kind, origin := (s.channels z).db.usable.getD step.dbTarget
                      setpoint := (s.channels z).db.usable.getD step.dbTarget } }) ∧
        (g.active = true → active = 0 →
          t.zone z =
              { ramp := none, heat := { (s.zone z).heat with demand := 0 }
                humidity := { (s.zone z).humidity with demand := 0 }, sprayDemand := 0, ventDemand := 0 } ∧
            (t.outputs.get z).heat.demand = 0 ∧ (t.outputs.get z).spray.demand = 0 ∧
            (t.outputs.get z).vent.demand = 0 ∧ (t.outputs.get z).vent.condition = .released ∧
            (t.outputs.get z).vent.current = 0)) ∧
    (∀ rest : List Byte, rest.length ≠ 0 → rest.length ≠ 7 →
      ServedUnchanged (.zoneConfig tag (BitVec.ofNat 8 z.number :: rest)) s (.of .badLength (s.zonePart z))) ∧
    ∀ p : List Byte, (∀ b, p.head? = some b → b = 0 ∨ 4 < b.toNat) →
      ServedUnchanged (.zoneConfig tag p) s
        (if p.length = 1 ∨ p.length = 8 then { status := .badValue, detail := [1], body := [] } else .of .badLength [])

/-- R121: LOOP_MODE: the four rows of its table for either loop, and its checks. The demand is left to the next sample
set. The reply carries the zone, refused too; DEDUCED (log 12): with a wrong length as well where the first byte
names a zone, and the header and detail alone where it names none. -/
def Obligations.LoopModeFollowsItsTable : Prop :=
  ∀ (s : State) (tag : Byte) (z : ZoneId) (mode v0 v1 : Byte), s.Receptive →
    let n := BitVec.ofNat 8 z.number
    let raw := v0.toNat + 256 * v1.toNat
    let value : Int := if raw < 32768 then (raw : Int) else (raw : Int) - 65536
    let g := s.zoneSettings z
    let x := s.zone z
    let becomes := fun (c : Instr) (after : ZoneSettings) (loops : ZoneLoops) =>
      ∃ t, Served c s t (.of .ok (t.zonePart z)) ∧
        t =
          { s with
            settings := { s.settings with zones := s.settings.zones.set z after }, zones := s.zones.set z loops
            link := t.link }
    let heat := Instr.loopMode tag [n, 0, mode, v0, v1]
    let humidity := Instr.loopMode tag [n, 1, mode, v0, v1]
    let refuses := fun (c : Instr) (field : Byte) =>
      ServedUnchanged c s { status := .badValue, detail := [field], body := s.zonePart z }
    (mode = 1 → 0 ≤ value → value ≤ 1000 → becomes heat { g with heatMode := .manual, heatManual := value } x) ∧
    (mode = 1 → -1000 ≤ value → value ≤ 1000 →
      becomes humidity { g with humidityMode := .manual, humidityManual := value } x) ∧
    (mode = 0 → g.heatMode = .manual →
      becomes heat { g with heatMode := .auto }
        { x with heat := { x.heat with integrator := max 0 (min 1000 g.heatManual) } }) ∧
    (mode = 0 → g.humidityMode = .manual →
      becomes humidity { g with humidityMode := .auto }
        { x with humidity := { x.humidity with integrator := max (-1000) (min 1000 g.humidityManual) } }) ∧
    (mode = 0 → g.heatMode = .auto → becomes heat g x) ∧ (mode = 0 → g.humidityMode = .auto → becomes humidity g x) ∧
    (mode = 1 → value < 0 ∨ 1000 < value → refuses heat 4) ∧
    (mode = 1 → value < -1000 ∨ 1000 < value → refuses humidity 4) ∧
    (1 < mode.toNat → refuses heat 3 ∧ refuses humidity 3) ∧
    (∀ loop : Byte, 1 < loop.toNat → refuses (.loopMode tag [n, loop, mode, v0, v1]) 2) ∧
    (∀ rest : List Byte, rest.length ≠ 4 →
      ServedUnchanged (.loopMode tag (n :: rest)) s (.of .badLength (s.zonePart z))) ∧
    ∀ p : List Byte, (∀ b, p.head? = some b → b = 0 ∨ 4 < b.toNat) →
      ServedUnchanged (.loopMode tag p) s
        (if p.length = 5 then { status := .badValue, detail := [1], body := [] } else .of .badLength [])

/-- R141: FAN_CONFIG, both forms. An accepted write replaces the five settings together; the vents in SAFE take the new
safe position at once; a coast that the new coast time ends is over in the same event. R137: so is a start-confirm window
at or below the timer of STARTING: the fans run unconfirmed at level 0 of FAN_RUN, and FAN_RUN trips at any other (the
order of its latch's two readers is free, log 4). The reply carries the settings and figures; with a wrong length as well,
DEDUCED (log 12). -/
def Obligations.FanConfigActsAtOnce : Prop :=
  ∀ (s : State) (tag window c0 c1 heat spray p0 p1 : Byte), s.Receptive → s.ForcingAgrees → s.VentsAgree →
    let c := Instr.fanConfig tag [window, c0, c1, heat, spray, p0, p1]
    let coast := c0.toNat + 256 * c1.toNat
    let position := p0.toNat + 256 * p1.toNat
    let legal :=
      [5 ≤ window.toNat ∧ window.toNat ≤ 60, 30 ≤ coast ∧ coast ≤ 300, 10 ≤ heat.toNat ∧ heat.toNat ≤ 120,
        10 ≤ spray.toNat ∧ spray.toNat ≤ 120, position = 0 ∨ position = 1000]
    ServedUnchanged (.fanConfig tag []) s (.of .ok s.fanConfigPart) ∧
    (∀ i : Nat, (∀ x, legal[i]? = some x → ¬ x) → (∀ j x, j < i → legal[j]? = some x → x) → i < 5 →
      ServedUnchanged c s { status := .badValue, detail := [BitVec.ofNat 8 (i + 1)], body := s.fanConfigPart }) ∧
    ((∀ x ∈ legal, x) → (s.fans.state = .starting → s.fans.confirmTimer < window.toNat) →
      ∃ t, Served c s t (.of .ok t.fanConfigPart) ∧
        t = { s with settings := t.settings, fans := t.fans, outputs := t.outputs, link := t.link } ∧
        t.settings =
          { s.settings with
            startConfirmWindow := window.toNat, coastTime := coast, heatPeriod := heat.toNat
            sprayPeriod := spray.toNat, ventSafePosition := position } ∧
        (s.fans.state ≠ .coasting ∨ s.fans.coastTimer < coast →
          t.fans = s.fans ∧
            ∀ z,
              (t.outputs.get z).heat = (s.outputs.get z).heat ∧ (t.outputs.get z).spray = (s.outputs.get z).spray ∧
              (t.outputs.get z).vent =
                if (s.outputs.get z).vent.condition = .safe then
                  { (s.outputs.get z).vent with current := 4000 + 16 * position }
                else (s.outputs.get z).vent) ∧
        (s.fans.state = .coasting → coast ≤ s.fans.coastTimer → (s.input .fanRun).live = false →
          t.fans.state = .starting ∧ t.fans.direction ≠ s.fans.direction ∧ t.fans.coastTimer = 0)) ∧
    ((∀ x ∈ legal, x) → s.fans.state = .starting → window.toNat ≤ s.fans.confirmTimer → (s.input .fanRun).live = false →
      (s.input .fanRun).latch = false → s.fans.Agrees → s.InterlockAgrees → s.ValvesSound →
      let written : State :=
        { s with
          settings :=
            { s.settings with
              startConfirmWindow := window.toNat, coastTime := coast, heatPeriod := heat.toNat
              sprayPeriod := spray.toNat, ventSafePosition := position }
          outputs :=
            s.outputs.map fun _ o =>
              if o.vent.condition = .safe then { o with vent := { o.vent with current := 4000 + 16 * position } } else o }
      (s.inputLevel .fanRun = 0 → s.fans.NoReversal →
        ∃ t u, Served c s t (.of .ok t.fanConfigPart) ∧ t = { u with link := t.link } ∧
          FansRun written u s.fans.confirmed ∧ u = { written with fans := u.fans, outputs := u.outputs }) ∧
      (1 ≤ s.inputLevel .fanRun → s.inputLevel .fanRun ≤ 3 →
        ∃ t u, Served c s t (.of .ok t.fanConfigPart) ∧ t = { u with link := t.link } ∧ FanRunTrips written u 1)) ∧
    ∀ p : List Byte, p.length ≠ 0 → p.length ≠ 7 →
      ServedUnchanged (.fanConfig tag p) s (.of .badLength s.fanConfigPart)

/-- R149, R150: the write form of INTERLOCK_CONFIG. The settings are replaced, and the input is judged once: it trips when
it is then judged and does not conform and was not so before (R145), which queues INTERLOCK_TRIPPED and sets a clear
latch (R146). At a latch so set, and at a new level of a latch already set, the Run Controller is signalled (R147): at
level 3 a RUNNING or HELD run enters SAFE (R101), and INTERLOCK is added or removed by the level-2 latches (R98). ESTOP
takes only its own values, and FAN_RUN only the level; FAN_RUN of running fans that read stopped trips when its level
leaves 0. The reply carries the record, refused too, and by MODEL's choice (log 12) with a wrong length as well where the
first byte names an input. DEDUCED: the trip before the signal of the level (log 10), SAFE before the judgement (log 8). -/
def Obligations.InterlockConfigJudgesTheInput : Prop :=
  ∀ (s : State) (tag expected compare level : Byte) (i : Input), s.Receptive →
    let c := Instr.interlockConfig tag [BitVec.ofNat 8 i.number, expected, compare, level]
    let old := s.settings.interlocks.get i
    let r := s.input i
    let x : InputSettings :=
      if i = .fanRun then { old with level := level.toNat }
      else { expectedClosed := decide (expected = 1), compare := decide (compare = 1), level := level.toNat }
    let judgedOut := fun (y : InputSettings) =>
      (if i = .fanRun then s.fans.compareActive else y.compare) = true ∧ 1 ≤ y.level ∧
        r.live ≠ (if i = .fanRun then s.fans.expectRunning else y.expectedClosed)
    let trips := judgedOut x ∧ ¬ judgedOut old
    let signalled := trips ∧ r.latch = false ∨ r.latch = true ∧ x.level ≠ old.level
    let safe := signalled ∧ x.level = 3 ∧ s.run.state.going = true
    let level2 :=
      x.level = 2 ∧ (r.latch = true ∨ trips) ∨ ∃ j, j ≠ i ∧ (s.input j).latch = true ∧ s.inputLevel j = 2
    let settings := { s.settings with interlocks := s.settings.interlocks.set i x }
    let refuses := fun (field : Byte) =>
      ServedUnchanged c s { status := .badValue, detail := [field], body := s.inputPart i }
    let accepted :=
      (¬ (i = .fanRun ∧ trips ∧ r.latch = false) →
        ∃ t notices, Served c s t (.of .ok (t.inputPart i)) ∧
          (¬ signalled → t.run = s.run ∧ notices = []) ∧
          (signalled →
            ReasonJudged (if safe then { s.run with state := .safe, inBand := false } else s.run) .interlock 5 level2
              t.run notices) ∧
          t =
            { s with
              settings, run := t.run, fans := t.fans, outputs := t.outputs, memory := t.memory, link := t.link
              interlocks :=
                if trips ∧ r.latch = false then
                  s.interlocks.set i { r with latch := true, trippedAt := some s.clock.minute }
                else s.interlocks
              notices :=
                noticesAfter s
                  ((if trips then [(.interlockTripped, i.number, x.level)] else []) ++
                    (if safe then [(.runSafe, i.number, 0)] else []) ++ notices) } ∧
          (¬ safe → t.fans = s.fans ∧ t.outputs = s.outputs) ∧
          (safe → s.ValvesSound → t.AllValvesForced ∧ t.fans.state = .stopped) ∧
          (t.run.state = s.run.state → t.memory = s.memory) ∧ (t.run.state ≠ s.run.state → AsksCheckpoint s t)) ∧
      (i = .fanRun → s.fans.state.isRunning = true → r.latch = false → r.live = false → old.level = 0 →
        1 ≤ x.level → s.fans.Agrees → s.InterlockAgrees → s.ValvesSound → s.ForcingAgrees →
        ∃ t u, Served c s t (.of .ok (t.inputPart i)) ∧ t = { u with link := t.link } ∧
          FanRunTrips { s with settings } u (if s.fans.state = .runningFwd then 2 else 3))
    (i ≠ .fanRun → i ≠ .estop →
      (1 < expected.toNat → refuses 2) ∧ (expected.toNat ≤ 1 → 1 < compare.toNat → refuses 3) ∧
      (expected.toNat ≤ 1 → compare.toNat ≤ 1 → 3 < level.toNat → refuses 4) ∧
      (expected.toNat ≤ 1 → compare.toNat ≤ 1 → level.toNat ≤ 3 → accepted)) ∧
    (i = .estop →
      (expected ≠ 1 → refuses 2) ∧ (expected = 1 → compare ≠ 1 → refuses 3) ∧
      (expected = 1 → compare = 1 → level ≠ 3 → refuses 4) ∧
      (expected = 1 → compare = 1 → level = 3 → accepted)) ∧
    (i = .fanRun → (3 < level.toNat → refuses 4) ∧ (level.toNat ≤ 3 → accepted)) ∧
    (∀ rest : List Byte, rest.length ≠ 0 → rest.length ≠ 3 →
      ServedUnchanged (.interlockConfig tag (BitVec.ofNat 8 i.number :: rest)) s (.of .badLength (s.inputPart i))) ∧
    ∀ p : List Byte, (∀ b, p.head? = some b → b = 0 ∨ 8 < b.toNat) →
      ServedUnchanged (.interlockConfig tag p) s
        (if p.length = 1 ∨ p.length = 4 then { status := .badValue, detail := [1], body := [] } else .of .badLength [])

/-- R151, R147, R98, R97, R140: INTERLOCK_CLEAR. A clear latch, or a nonconforming input, changes nothing. A latch that
clears is signalled: INTERLOCK is judged by the level-2 latches that stay set, so with the last of them it leaves the set
and a HELD run without another reason goes on. The clearing of FAN_RUN's latch starts failed fans of a run that is RUNNING
or HELD, and stops those of any other. -/
def Obligations.InterlockClearReleasesTheLatch : Prop :=
  ∀ (s : State) (tag : Byte) (i : Input), s.Receptive →
    let c := Instr.interlockClear tag [BitVec.ofNat 8 i.number]
    let expected := if i = .fanRun then s.fans.expectRunning else (s.settings.interlocks.get i).expectedClosed
    let released := s.interlocks.set i { s.input i with latch := false, trippedAt := none }
    let level2 := ∃ j, j ≠ i ∧ (s.input j).latch = true ∧ s.inputLevel j = 2
    ((s.input i).latch = false → ServedUnchanged c s (.of .ok [])) ∧
    ((s.input i).latch = true → (s.input i).live ≠ expected →
      ServedUnchanged c s (.of .stillNonconforming [])) ∧
    ((s.input i).latch = true → (s.input i).live = expected → s.inputLevel i ≠ 2 ∨ s.run.state.inProgress = false →
      s.InterlockAgrees → i ≠ .fanRun →
      ∃ t, Served c s t (.of .ok []) ∧ t = { s with interlocks := released, link := t.link }) ∧
    ((s.input i).latch = true → (s.input i).live = expected →
      (i = .fanRun → s.fans.Agrees ∧ (s.fans.state = .failed ∨ s.fans.state = .stopped) ∧ (s.input i).live = false) →
      ∃ t notices, Served c s t (.of .ok []) ∧ ReasonJudged s.run .interlock 5 level2 t.run notices ∧
        t =
          { s with
            interlocks := released, run := t.run, fans := t.fans, outputs := t.outputs
            notices := noticesAfter s notices, memory := t.memory, link := t.link } ∧
        (t.run.state = s.run.state → t.memory = s.memory) ∧ (t.run.state ≠ s.run.state → AsksCheckpoint s t) ∧
        (i ≠ .fanRun ∨ s.fans.state = .stopped → t.fans = s.fans ∧ t.outputs = s.outputs) ∧
        (i = .fanRun → s.fans.state = .failed →
          (s.run.state.going = true →
            t.fans =
              { s.fans with state := .starting, compareActive := false, confirmTimer := 0, confirmed := false }) ∧
          (s.run.state.going = false →
            t.fans =
              { s.fans with
                state := .stopped, expectRunning := false, compareActive := false, coastTimer := 0
                confirmTimer := 0 }))) ∧
    ∀ (p : List Byte) (b : Byte),
      (p.length ≠ 1 → ServedUnchanged (.interlockClear tag p) s (.of .badLength [])) ∧
      (b = 0 ∨ 8 < b.toNat →
        ServedUnchanged (.interlockClear tag [b]) s { status := .badValue, detail := [1], body := [] })

/-- R156, R160, R176, R177: HISTORY_READ takes the oldest frame, NOTICE_FETCH the oldest four notices, SETTINGS_SAVE hands
a snapshot to the memory controller or is BUSY, and RESTART_PART lets the restart wait for the end of its reply.
R159: a notice stands after the newest; a 33rd pushes the oldest out, and the notice that is then oldest says so. The code
of the ring's slip flag in a reply is MODEL's choice (log 13). -/
def Obligations.QueueAndMemoryRequests : Prop :=
  (∀ (queue : List Notice) (n : Notice),
    (queue.length < 32 → pushNotice queue n = queue ++ [n]) ∧
      ∀ oldest next rest, queue = oldest :: next :: rest → queue.length = 32 →
        pushNotice queue n = { next with lostBefore := true } :: rest ++ [n]) ∧
  ∀ (s : State) (tag : Byte), s.Receptive →
    (∀ f rest, s.history.frames = f :: rest →
      ∃ t,
        Served (.historyRead tag []) s t (.of .ok (BitVec.ofNat 8 rest.length :: flag1 s.history.slip ++ f.bytes)) ∧
          t = { s with history := { s.history with frames := rest }, link := t.link }) ∧
    (s.history.frames = [] →
      ServedUnchanged (.historyRead tag []) s (.of .empty (0 :: flag1 s.history.slip))) ∧
    (s.notices ≠ [] →
      ∃ t,
        Served (.noticeFetch tag []) s t
            (.of .ok (BitVec.ofNat 8 (min 4 s.notices.length) :: (s.notices.take 4).flatMap Notice.bytes)) ∧
          t = { s with notices := s.notices.drop 4, link := t.link }) ∧
    (s.notices = [] → ServedUnchanged (.noticeFetch tag []) s (.of .empty [])) ∧
    (let busy := s.memory.pendingSave.isSome = true ∨ ∃ i, s.memory.op = .saveWrite i
    let image : Image :=
      { settings := s.settings
        probes := mapTable (fun r => { assignment := r.assignment, blocked := decide (r.state = .blocked) }) s.probes }
    (busy → ServedUnchanged (.settingsSave tag []) s (.of .busy [])) ∧
    (¬ busy → s.memory.op = .none →
      ∃ t, Served (.settingsSave tag []) s t (.of .ok []) ∧
        t = { s with memory := { s.memory with op := .saveWrite image }, link := t.link }) ∧
    (¬ busy → s.memory.op ≠ .none →
      ∃ t, Served (.settingsSave tag []) s t (.of .ok []) ∧
        t = { s with memory := { s.memory with pendingSave := some image }, link := t.link })) ∧
    (∃ t, exec (.restartPart tag []) s = .next t ∧ OnlyLink s t ∧
      t.link =
        { s.link with
          receiver := .answering, reply := some (t.replyFrame 0x4A tag (.of .ok [])), driver := false, restart := true }) ∧
    ∀ p : List Byte, p ≠ [] →
      ServedUnchanged (.historyRead tag p) s (.of .badLength []) ∧
        ServedUnchanged (.noticeFetch tag p) s (.of .badLength []) ∧
        ServedUnchanged (.settingsSave tag p) s (.of .badLength []) ∧
        ServedUnchanged (.restartPart tag p) s (.of .badLength [])

/-- R178, R21, R62, R20, R125, R131, R158, R161: the five block resets and what each leaves; a reset reaches nothing else.
A payload of another length, and for ZONE another zone, are refused; so are a target above 4 and an empty payload, which
only the bytes on the line bring (R164, R165). No notice comes between a reset and the forming of its reply: DEDUCED
(log 25). -/
def Obligations.BlockResetsReachTheirBlockAlone : Prop :=
  (∀ (s : State) (tag b : Byte), s.Receptive →
    (∃ t, Served (.scannerBlockReset tag [b]) s t (.of .ok []) ∧
      t = { s with scanner := t.scanner, probes := t.probes, link := t.link } ∧
      t.scanner =
        { state := if s.settings.scanEnable then .waiting else .off, excitation := .off, polarity := .positive
          measurement := none, scanNumber := s.scanner.scanNumber, timer := 0, startDue := false } ∧
      ∀ p, t.probe p = { s.probe p with rangeMemory := 1 }) ∧
    (let after := fun (r : ProbeRecord) =>
      match r.state with
      | .unassigned | .blocked => { r with faultKind := none }
      | .new | .good | .suspect | .faulted =>
        { r with state := .new, values := [], faultCount := 0, jumpCount := 0, faultKind := none }
    (s.scanner.measurement = none →
      ∃ t, Served (.probesBlockReset tag [b]) s t (.of .ok []) ∧
        t = { s with probes := t.probes, link := t.link } ∧ ∀ p, t.probe p = after (s.probe p)) ∧
    (∀ m q, s.scanner.measurement = some m → m.probe < q → (s.probe q).qualifies = true →
      (∀ x, m.probe < x → x < q → (s.probe x).qualifies = false) →
      ∃ t, Served (.probesBlockReset tag [b]) s t (.of .ok []) ∧
        t =
          { s with
            probes := t.probes, scanner := s.scanner.select q (s.probe q).rangeMemory, link := t.link } ∧
        ∀ p, t.probe p = after (s.probe p)) ∧
    ∀ m, s.scanner.measurement = some m → (∀ x, m.probe < x → (s.probe x).qualifies = false) →
      s.scanner.startDue = false →
      ∃ t, Served (.probesBlockReset tag [b]) s t (.of .ok []) ∧ (∀ p, t.probe p = after (s.probe p)) ∧ ScanEnds s t) ∧
    (∀ z : ZoneId,
      ∃ t, Served (.zoneBlockReset tag [BitVec.ofNat 8 z.number]) s t (.of .ok []) ∧
        t = { s with zones := s.zones.set z (t.zone z), outputs := s.outputs.set z (t.outputs.get z), link := t.link } ∧
        t.zone z =
          { ramp := (s.zone z).ramp, heat := { (s.zone z).heat with integrator := 0, demand := 0 }
            humidity := { (s.zone z).humidity with integrator := 0, demand := 0 }, sprayDemand := 0, ventDemand := 0 } ∧
        (t.outputs.get z).vent.demand = 0 ∧
        ∀ k,
          let v := (s.outputs.get z).valve k
          (v.cycle = none → (t.outputs.get z).valve k = { v with demand := 0 }) ∧
          (v.cycle.isSome = true →
            (t.outputs.get z).valve k =
              { v with
                demand := 0, output := false
                cycle := some { period := s.settings.period k, elapsed := 0, onTime := 0 } })) ∧
    (∃ t, Served (.historyBlockReset tag [b]) s t (.of .ok []) ∧
      t = { s with history := { frames := [], latest := none, slip := false, sequence := s.history.sequence }, link := t.link }) ∧
    (∃ t, Served (.noticesBlockReset tag [b]) s t (.of .ok []) ∧ t = { s with notices := [], link := t.link }) ∧
    (b = 0 ∨ 4 < b.toNat →
      ServedUnchanged (.zoneBlockReset tag [b]) s { status := .badValue, detail := [2], body := [] }) ∧
    ∀ (rest : List Byte) (c : Instr), rest.length ≠ 1 →
      c = .scannerBlockReset tag rest ∨ c = .probesBlockReset tag rest ∨ c = .zoneBlockReset tag rest ∨
        c = .historyBlockReset tag rest ∨ c = .noticesBlockReset tag rest →
      ServedUnchanged c s (.of .badLength [])) ∧
  ∀ (s : State) (tag low : Byte) (p : List Byte), s.Awake → s.ready = true → AwaitsLastByte s 0x49 tag p low →
    ∃ t, exec (.characterReceived low) s = .next t ∧
      (p.length ≠ 2 → OnlyLink s t ∧ Answered s t 0x49 tag (.of .badLength [])) ∧
      ∀ target zone, p = [target, zone] → 4 < target.toNat →
        OnlyLink s t ∧ Answered s t 0x49 tag { status := .badValue, detail := [1], body := [] }

/-! ### What holds of every step -/

/-- R41, R45, R155, R159, R82, R83, R87, R91, R97, R65: from every state with them, a step keeps the bounds of the value
lists, counts, frames and notices, the agreement of assignments and states, the agreements of the run record, and that
the step running minutes never exceed the total, in the run record and in every checkpoint. -/
def Obligations.EveryStepKeepsCollectionsAndRun : Prop :=
  ∀ s t : State, step s = .next t →
    (s.CollectionsSound → t.CollectionsSound) ∧ (s.RunSound → t.RunSound) ∧
      (s.ClocksSound → t.ClocksSound)

/-- R128, R130, R127, R132, R117: from every state in which forcing sets, cycles and vents agree with their sources, a
step leads to such a state; and in every such state no valve is ON unless the fans run, the run is not SAFE, the part is
READY and the zone active. -/
def Obligations.EveryStepKeepsTheOutputsSafe : Prop :=
  (∀ s t : State, s.OutputsSound → step s = .next t → t.OutputsSound) ∧ ∀ s : State, s.OutputsSound → s.ValvesSafe

/-- R98, R101, R134, R136, R137, R140, R168: from every state with them, a step keeps: while a level-3 latch is set the
run is neither RUNNING nor HELD; INTERLOCK is a hold reason of a run in progress exactly while a level-2 latch is set;
before READY the scanner is OFF, the fans are STOPPED and no latch is set; the FAN_RUN expectation goes with the fans'
state; STARTING fans read stopped; a FAN_RUN latch finds the fans FAILED or STOPPED. The three conditions go together:
before READY a scanner that is OFF has no measurement, and the fans are STOPPED. R141: the settings of FAN_CONFIG stay
within their ranges, in force and in every settings image. -/
def Obligations.EveryStepKeepsInterlocksAndFans : Prop :=
  ∀ s t : State, step s = .next t →
    (s.scanner.Agrees → s.InterlocksSound → s.FansSound → t.InterlocksSound ∧ t.FansSound) ∧
      (s.FanSettingsSound → t.FanSettingsSound)

/-- R3, R10, R11, R114, R115, R121, R123: from every state with them, a step keeps: a measurement is in progress exactly
in SCANNING, with the excitation OFF otherwise; the integrators, demands and manual values within their ranges, and each
working setpoint between the ramp origin and the target. -/
def Obligations.EveryStepKeepsScannerAndZones : Prop :=
  ∀ s t : State, step s = .next t →
    (s.scanner.Agrees → t.scanner.Agrees) ∧ (s.ZonesSound → t.ZonesSound)

/-- Every condition that a step keeps holds of the state right after power-on. -/
def Obligations.ResetMeetsEveryCondition : Prop := State.reset.Sound

/-- R134: the DIRECTION output changes only while RUN is off, at every command but the power-on and the loss of the
supply, and only by a start or by the end of a coast; the restart of the part, which gives every output its power-on
value, is set apart by its premise. Where the fans ran and the work still due of events already taken (log 2) has
stopped them first, the start is of fans then STOPPED; with no such work they were off when the command came. The coast
time is not 0: R141 gives it the range 30 to 300, which every step keeps (EveryStepKeepsInterlocksAndFans). -/
def Obligations.DirectionChangesOnlyWithRunOff : Prop :=
  ∀ (c : Instr) (s t : State), 1 ≤ s.settings.coastTime → s.restartIsDue = false → (∀ straps contacts, c ≠ .powerOn straps contacts) →
    (∀ tear, c ≠ .powerLoss tear) → exec c s = .next t → t.fans.direction ≠ s.fans.direction →
    let off := s.fans.state.runOutput = false ∧ (s.fans.state = .stopped ∨ s.fans.state = .coasting)
    (off ∨ s.takeDue.fans.state = .stopped ∧ s.takeDue.fans.direction = s.fans.direction) ∧
      (s.due = .none → s.confirmIsOver = false → s.scanExpiryDue = false → off)
end

