-- ==== Sys2Proof/Laws/State.lean ====
section
/-! SUPPORT. The fields of State under each small update: what it leaves, one equation a field, and what it sets. -/

namespace Sys2Proof.Machine

@[simp] theorem State.queueNotice_frame (s : State) (k : NoticeKind) (a b : Nat) :
    (s.queueNotice k a b).powered = s.powered ∧
    (s.queueNotice k a b).ready = s.ready ∧
    (s.queueNotice k a b).straps = s.straps ∧
    (s.queueNotice k a b).clock = s.clock ∧
    (s.queueNotice k a b).settings = s.settings ∧
    (s.queueNotice k a b).scanner = s.scanner ∧
    (s.queueNotice k a b).probes = s.probes ∧
    (s.queueNotice k a b).statistics = s.statistics ∧
    (s.queueNotice k a b).schedule = s.schedule ∧
    (s.queueNotice k a b).run = s.run ∧
    (s.queueNotice k a b).sampler = s.sampler ∧
    (s.queueNotice k a b).zones = s.zones ∧
    (s.queueNotice k a b).outputs = s.outputs ∧
    (s.queueNotice k a b).fans = s.fans ∧
    (s.queueNotice k a b).interlocks = s.interlocks ∧
    (s.queueNotice k a b).history = s.history ∧
    (s.queueNotice k a b).link = s.link ∧
    (s.queueNotice k a b).memory = s.memory ∧
    (s.queueNotice k a b).due = s.due ∧
    (s.queueNotice k a b).draws = s.draws ∧
    (s.queueNotice k a b).pending = s.pending := by
  exact ⟨rfl, rfl, rfl, rfl, rfl, rfl, rfl, rfl, rfl, rfl, rfl, rfl, rfl, rfl, rfl, rfl, rfl, rfl, rfl, rfl, rfl⟩

@[simp] theorem State.setProbe_frame (s : State) (p : Fin 48) (r : ProbeRecord) :
    (s.setProbe p r).powered = s.powered ∧
    (s.setProbe p r).ready = s.ready ∧
    (s.setProbe p r).straps = s.straps ∧
    (s.setProbe p r).clock = s.clock ∧
    (s.setProbe p r).settings = s.settings ∧
    (s.setProbe p r).scanner = s.scanner ∧
    (s.setProbe p r).statistics = s.statistics ∧
    (s.setProbe p r).schedule = s.schedule ∧
    (s.setProbe p r).run = s.run ∧
    (s.setProbe p r).sampler = s.sampler ∧
    (s.setProbe p r).zones = s.zones ∧
    (s.setProbe p r).outputs = s.outputs ∧
    (s.setProbe p r).fans = s.fans ∧
    (s.setProbe p r).interlocks = s.interlocks ∧
    (s.setProbe p r).history = s.history ∧
    (s.setProbe p r).notices = s.notices ∧
    (s.setProbe p r).link = s.link ∧
    (s.setProbe p r).memory = s.memory ∧
    (s.setProbe p r).due = s.due ∧
    (s.setProbe p r).draws = s.draws ∧
    (s.setProbe p r).pending = s.pending := by
  exact ⟨rfl, rfl, rfl, rfl, rfl, rfl, rfl, rfl, rfl, rfl, rfl, rfl, rfl, rfl, rfl, rfl, rfl, rfl, rfl, rfl, rfl⟩

@[simp] theorem State.setZone_frame (s : State) (z : ZoneId) (x : ZoneLoops) :
    (s.setZone z x).powered = s.powered ∧
    (s.setZone z x).ready = s.ready ∧
    (s.setZone z x).straps = s.straps ∧
    (s.setZone z x).clock = s.clock ∧
    (s.setZone z x).settings = s.settings ∧
    (s.setZone z x).scanner = s.scanner ∧
    (s.setZone z x).probes = s.probes ∧
    (s.setZone z x).statistics = s.statistics ∧
    (s.setZone z x).schedule = s.schedule ∧
    (s.setZone z x).run = s.run ∧
    (s.setZone z x).sampler = s.sampler ∧
    (s.setZone z x).outputs = s.outputs ∧
    (s.setZone z x).fans = s.fans ∧
    (s.setZone z x).interlocks = s.interlocks ∧
    (s.setZone z x).history = s.history ∧
    (s.setZone z x).notices = s.notices ∧
    (s.setZone z x).link = s.link ∧
    (s.setZone z x).memory = s.memory ∧
    (s.setZone z x).due = s.due ∧
    (s.setZone z x).draws = s.draws ∧
    (s.setZone z x).pending = s.pending := by
  exact ⟨rfl, rfl, rfl, rfl, rfl, rfl, rfl, rfl, rfl, rfl, rfl, rfl, rfl, rfl, rfl, rfl, rfl, rfl, rfl, rfl, rfl⟩

@[simp] theorem State.setInput_frame (s : State) (i : Input) (r : InputRecord) :
    (s.setInput i r).powered = s.powered ∧
    (s.setInput i r).ready = s.ready ∧
    (s.setInput i r).straps = s.straps ∧
    (s.setInput i r).clock = s.clock ∧
    (s.setInput i r).settings = s.settings ∧
    (s.setInput i r).scanner = s.scanner ∧
    (s.setInput i r).probes = s.probes ∧
    (s.setInput i r).statistics = s.statistics ∧
    (s.setInput i r).schedule = s.schedule ∧
    (s.setInput i r).run = s.run ∧
    (s.setInput i r).sampler = s.sampler ∧
    (s.setInput i r).zones = s.zones ∧
    (s.setInput i r).outputs = s.outputs ∧
    (s.setInput i r).fans = s.fans ∧
    (s.setInput i r).history = s.history ∧
    (s.setInput i r).notices = s.notices ∧
    (s.setInput i r).link = s.link ∧
    (s.setInput i r).memory = s.memory ∧
    (s.setInput i r).due = s.due ∧
    (s.setInput i r).draws = s.draws ∧
    (s.setInput i r).pending = s.pending := by
  exact ⟨rfl, rfl, rfl, rfl, rfl, rfl, rfl, rfl, rfl, rfl, rfl, rfl, rfl, rfl, rfl, rfl, rfl, rfl, rfl, rfl, rfl⟩

@[simp] theorem State.drawn_frame (s : State) :
    s.drawn.powered = s.powered ∧
    s.drawn.ready = s.ready ∧
    s.drawn.straps = s.straps ∧
    s.drawn.clock = s.clock ∧
    s.drawn.settings = s.settings ∧
    s.drawn.scanner = s.scanner ∧
    s.drawn.probes = s.probes ∧
    s.drawn.statistics = s.statistics ∧
    s.drawn.schedule = s.schedule ∧
    s.drawn.run = s.run ∧
    s.drawn.sampler = s.sampler ∧
    s.drawn.zones = s.zones ∧
    s.drawn.outputs = s.outputs ∧
    s.drawn.fans = s.fans ∧
    s.drawn.interlocks = s.interlocks ∧
    s.drawn.history = s.history ∧
    s.drawn.notices = s.notices ∧
    s.drawn.link = s.link ∧
    s.drawn.memory = s.memory ∧
    s.drawn.due = s.due ∧
    s.drawn.pending = s.pending ∧
    s.drawn.draws = s.draws + 1 := by
  exact ⟨rfl, rfl, rfl, rfl, rfl, rfl, rfl, rfl, rfl, rfl, rfl, rfl, rfl, rfl, rfl, rfl, rfl, rfl, rfl, rfl, rfl, rfl⟩

@[simp] theorem State.setScanner_frame (s : State) (x : Scanner) :
    (s.setScanner x).powered = s.powered ∧
    (s.setScanner x).ready = s.ready ∧
    (s.setScanner x).straps = s.straps ∧
    (s.setScanner x).clock = s.clock ∧
    (s.setScanner x).settings = s.settings ∧
    (s.setScanner x).probes = s.probes ∧
    (s.setScanner x).statistics = s.statistics ∧
    (s.setScanner x).schedule = s.schedule ∧
    (s.setScanner x).run = s.run ∧
    (s.setScanner x).sampler = s.sampler ∧
    (s.setScanner x).zones = s.zones ∧
    (s.setScanner x).outputs = s.outputs ∧
    (s.setScanner x).fans = s.fans ∧
    (s.setScanner x).interlocks = s.interlocks ∧
    (s.setScanner x).history = s.history ∧
    (s.setScanner x).notices = s.notices ∧
    (s.setScanner x).link = s.link ∧
    (s.setScanner x).memory = s.memory ∧
    (s.setScanner x).due = s.due ∧
    (s.setScanner x).draws = s.draws ∧
    (s.setScanner x).pending = s.pending := by
  exact ⟨rfl, rfl, rfl, rfl, rfl, rfl, rfl, rfl, rfl, rfl, rfl, rfl, rfl, rfl, rfl, rfl, rfl, rfl, rfl, rfl, rfl⟩

@[simp] theorem State.setReceiver_frame (s : State) (r : Receiver) :
    (s.setReceiver r).powered = s.powered ∧
    (s.setReceiver r).ready = s.ready ∧
    (s.setReceiver r).straps = s.straps ∧
    (s.setReceiver r).clock = s.clock ∧
    (s.setReceiver r).settings = s.settings ∧
    (s.setReceiver r).scanner = s.scanner ∧
    (s.setReceiver r).probes = s.probes ∧
    (s.setReceiver r).statistics = s.statistics ∧
    (s.setReceiver r).schedule = s.schedule ∧
    (s.setReceiver r).run = s.run ∧
    (s.setReceiver r).sampler = s.sampler ∧
    (s.setReceiver r).zones = s.zones ∧
    (s.setReceiver r).outputs = s.outputs ∧
    (s.setReceiver r).fans = s.fans ∧
    (s.setReceiver r).interlocks = s.interlocks ∧
    (s.setReceiver r).history = s.history ∧
    (s.setReceiver r).notices = s.notices ∧
    (s.setReceiver r).memory = s.memory ∧
    (s.setReceiver r).due = s.due ∧
    (s.setReceiver r).draws = s.draws ∧
    (s.setReceiver r).pending = s.pending := by
  exact ⟨rfl, rfl, rfl, rfl, rfl, rfl, rfl, rfl, rfl, rfl, rfl, rfl, rfl, rfl, rfl, rfl, rfl, rfl, rfl, rfl, rfl⟩

@[simp] theorem State.setEdit_frame (s : State) (steps : List StepRecord) :
    (s.setEdit steps).powered = s.powered ∧
    (s.setEdit steps).ready = s.ready ∧
    (s.setEdit steps).straps = s.straps ∧
    (s.setEdit steps).clock = s.clock ∧
    (s.setEdit steps).settings = s.settings ∧
    (s.setEdit steps).scanner = s.scanner ∧
    (s.setEdit steps).probes = s.probes ∧
    (s.setEdit steps).statistics = s.statistics ∧
    (s.setEdit steps).run = s.run ∧
    (s.setEdit steps).sampler = s.sampler ∧
    (s.setEdit steps).zones = s.zones ∧
    (s.setEdit steps).outputs = s.outputs ∧
    (s.setEdit steps).fans = s.fans ∧
    (s.setEdit steps).interlocks = s.interlocks ∧
    (s.setEdit steps).history = s.history ∧
    (s.setEdit steps).notices = s.notices ∧
    (s.setEdit steps).link = s.link ∧
    (s.setEdit steps).memory = s.memory ∧
    (s.setEdit steps).due = s.due ∧
    (s.setEdit steps).draws = s.draws ∧
    (s.setEdit steps).pending = s.pending := by
  exact ⟨rfl, rfl, rfl, rfl, rfl, rfl, rfl, rfl, rfl, rfl, rfl, rfl, rfl, rfl, rfl, rfl, rfl, rfl, rfl, rfl, rfl⟩

@[simp] theorem State.setZoneSettings_frame (s : State) (z : ZoneId) (g : ZoneSettings) :
    (s.setZoneSettings z g).powered = s.powered ∧
    (s.setZoneSettings z g).ready = s.ready ∧
    (s.setZoneSettings z g).straps = s.straps ∧
    (s.setZoneSettings z g).clock = s.clock ∧
    (s.setZoneSettings z g).scanner = s.scanner ∧
    (s.setZoneSettings z g).probes = s.probes ∧
    (s.setZoneSettings z g).statistics = s.statistics ∧
    (s.setZoneSettings z g).schedule = s.schedule ∧
    (s.setZoneSettings z g).run = s.run ∧
    (s.setZoneSettings z g).sampler = s.sampler ∧
    (s.setZoneSettings z g).zones = s.zones ∧
    (s.setZoneSettings z g).outputs = s.outputs ∧
    (s.setZoneSettings z g).fans = s.fans ∧
    (s.setZoneSettings z g).interlocks = s.interlocks ∧
    (s.setZoneSettings z g).history = s.history ∧
    (s.setZoneSettings z g).notices = s.notices ∧
    (s.setZoneSettings z g).link = s.link ∧
    (s.setZoneSettings z g).memory = s.memory ∧
    (s.setZoneSettings z g).due = s.due ∧
    (s.setZoneSettings z g).draws = s.draws ∧
    (s.setZoneSettings z g).pending = s.pending := by
  exact ⟨rfl, rfl, rfl, rfl, rfl, rfl, rfl, rfl, rfl, rfl, rfl, rfl, rfl, rfl, rfl, rfl, rfl, rfl, rfl, rfl, rfl⟩

@[simp] theorem State.wantCheckpoint_frame (s : State) :
    (s.wantCheckpoint).powered = s.powered ∧
    (s.wantCheckpoint).ready = s.ready ∧
    (s.wantCheckpoint).straps = s.straps ∧
    (s.wantCheckpoint).clock = s.clock ∧
    (s.wantCheckpoint).settings = s.settings ∧
    (s.wantCheckpoint).scanner = s.scanner ∧
    (s.wantCheckpoint).probes = s.probes ∧
    (s.wantCheckpoint).statistics = s.statistics ∧
    (s.wantCheckpoint).schedule = s.schedule ∧
    (s.wantCheckpoint).run = s.run ∧
    (s.wantCheckpoint).sampler = s.sampler ∧
    (s.wantCheckpoint).zones = s.zones ∧
    (s.wantCheckpoint).outputs = s.outputs ∧
    (s.wantCheckpoint).fans = s.fans ∧
    (s.wantCheckpoint).interlocks = s.interlocks ∧
    (s.wantCheckpoint).history = s.history ∧
    (s.wantCheckpoint).notices = s.notices ∧
    (s.wantCheckpoint).link = s.link ∧
    (s.wantCheckpoint).memory = s.memory ∧
    (s.wantCheckpoint).draws = s.draws ∧
    (s.wantCheckpoint).pending = s.pending := by
  exact ⟨rfl, rfl, rfl, rfl, rfl, rfl, rfl, rfl, rfl, rfl, rfl, rfl, rfl, rfl, rfl, rfl, rfl, rfl, rfl, rfl, rfl⟩

@[simp] theorem State.refreshOutputs_frame (s : State) :
    (s.refreshOutputs).powered = s.powered ∧
    (s.refreshOutputs).ready = s.ready ∧
    (s.refreshOutputs).straps = s.straps ∧
    (s.refreshOutputs).clock = s.clock ∧
    (s.refreshOutputs).settings = s.settings ∧
    (s.refreshOutputs).scanner = s.scanner ∧
    (s.refreshOutputs).probes = s.probes ∧
    (s.refreshOutputs).statistics = s.statistics ∧
    (s.refreshOutputs).schedule = s.schedule ∧
    (s.refreshOutputs).run = s.run ∧
    (s.refreshOutputs).sampler = s.sampler ∧
    (s.refreshOutputs).zones = s.zones ∧
    (s.refreshOutputs).fans = s.fans ∧
    (s.refreshOutputs).interlocks = s.interlocks ∧
    (s.refreshOutputs).history = s.history ∧
    (s.refreshOutputs).notices = s.notices ∧
    (s.refreshOutputs).link = s.link ∧
    (s.refreshOutputs).memory = s.memory ∧
    (s.refreshOutputs).due = s.due ∧
    (s.refreshOutputs).draws = s.draws ∧
    (s.refreshOutputs).pending = s.pending := by
  exact ⟨rfl, rfl, rfl, rfl, rfl, rfl, rfl, rfl, rfl, rfl, rfl, rfl, rfl, rfl, rfl, rfl, rfl, rfl, rfl, rfl, rfl⟩

@[simp] theorem State.handDemands_frame (s : State) (z : ZoneId) :
    (s.handDemands z).powered = s.powered ∧
    (s.handDemands z).ready = s.ready ∧
    (s.handDemands z).straps = s.straps ∧
    (s.handDemands z).clock = s.clock ∧
    (s.handDemands z).settings = s.settings ∧
    (s.handDemands z).scanner = s.scanner ∧
    (s.handDemands z).probes = s.probes ∧
    (s.handDemands z).statistics = s.statistics ∧
    (s.handDemands z).schedule = s.schedule ∧
    (s.handDemands z).run = s.run ∧
    (s.handDemands z).sampler = s.sampler ∧
    (s.handDemands z).zones = s.zones ∧
    (s.handDemands z).fans = s.fans ∧
    (s.handDemands z).interlocks = s.interlocks ∧
    (s.handDemands z).history = s.history ∧
    (s.handDemands z).notices = s.notices ∧
    (s.handDemands z).link = s.link ∧
    (s.handDemands z).memory = s.memory ∧
    (s.handDemands z).due = s.due ∧
    (s.handDemands z).draws = s.draws ∧
    (s.handDemands z).pending = s.pending := by
  exact ⟨rfl, rfl, rfl, rfl, rfl, rfl, rfl, rfl, rfl, rfl, rfl, rfl, rfl, rfl, rfl, rfl, rfl, rfl, rfl, rfl, rfl⟩

@[simp] theorem State.handAllDemands_frame (s : State) :
    (s.handAllDemands).powered = s.powered ∧
    (s.handAllDemands).ready = s.ready ∧
    (s.handAllDemands).straps = s.straps ∧
    (s.handAllDemands).clock = s.clock ∧
    (s.handAllDemands).settings = s.settings ∧
    (s.handAllDemands).scanner = s.scanner ∧
    (s.handAllDemands).probes = s.probes ∧
    (s.handAllDemands).statistics = s.statistics ∧
    (s.handAllDemands).schedule = s.schedule ∧
    (s.handAllDemands).run = s.run ∧
    (s.handAllDemands).sampler = s.sampler ∧
    (s.handAllDemands).zones = s.zones ∧
    (s.handAllDemands).fans = s.fans ∧
    (s.handAllDemands).interlocks = s.interlocks ∧
    (s.handAllDemands).history = s.history ∧
    (s.handAllDemands).notices = s.notices ∧
    (s.handAllDemands).link = s.link ∧
    (s.handAllDemands).memory = s.memory ∧
    (s.handAllDemands).due = s.due ∧
    (s.handAllDemands).draws = s.draws ∧
    (s.handAllDemands).pending = s.pending := by
  exact ⟨rfl, rfl, rfl, rfl, rfl, rfl, rfl, rfl, rfl, rfl, rfl, rfl, rfl, rfl, rfl, rfl, rfl, rfl, rfl, rfl, rfl⟩

@[simp] theorem State.restartCycles_frame (s : State) (z : ZoneId) :
    (s.restartCycles z).powered = s.powered ∧
    (s.restartCycles z).ready = s.ready ∧
    (s.restartCycles z).straps = s.straps ∧
    (s.restartCycles z).clock = s.clock ∧
    (s.restartCycles z).settings = s.settings ∧
    (s.restartCycles z).scanner = s.scanner ∧
    (s.restartCycles z).probes = s.probes ∧
    (s.restartCycles z).statistics = s.statistics ∧
    (s.restartCycles z).schedule = s.schedule ∧
    (s.restartCycles z).run = s.run ∧
    (s.restartCycles z).sampler = s.sampler ∧
    (s.restartCycles z).zones = s.zones ∧
    (s.restartCycles z).fans = s.fans ∧
    (s.restartCycles z).interlocks = s.interlocks ∧
    (s.restartCycles z).history = s.history ∧
    (s.restartCycles z).notices = s.notices ∧
    (s.restartCycles z).link = s.link ∧
    (s.restartCycles z).memory = s.memory ∧
    (s.restartCycles z).due = s.due ∧
    (s.restartCycles z).draws = s.draws ∧
    (s.restartCycles z).pending = s.pending := by
  exact ⟨rfl, rfl, rfl, rfl, rfl, rfl, rfl, rfl, rfl, rfl, rfl, rfl, rfl, rfl, rfl, rfl, rfl, rfl, rfl, rfl, rfl⟩

@[simp] theorem State.mapValve_frame (s : State) (z : ZoneId) (k : ValveKind) (f : Valve → Valve) :
    (s.mapValve z k f).powered = s.powered ∧
    (s.mapValve z k f).ready = s.ready ∧
    (s.mapValve z k f).straps = s.straps ∧
    (s.mapValve z k f).clock = s.clock ∧
    (s.mapValve z k f).settings = s.settings ∧
    (s.mapValve z k f).scanner = s.scanner ∧
    (s.mapValve z k f).probes = s.probes ∧
    (s.mapValve z k f).statistics = s.statistics ∧
    (s.mapValve z k f).schedule = s.schedule ∧
    (s.mapValve z k f).run = s.run ∧
    (s.mapValve z k f).sampler = s.sampler ∧
    (s.mapValve z k f).zones = s.zones ∧
    (s.mapValve z k f).fans = s.fans ∧
    (s.mapValve z k f).interlocks = s.interlocks ∧
    (s.mapValve z k f).history = s.history ∧
    (s.mapValve z k f).notices = s.notices ∧
    (s.mapValve z k f).link = s.link ∧
    (s.mapValve z k f).memory = s.memory ∧
    (s.mapValve z k f).due = s.due ∧
    (s.mapValve z k f).draws = s.draws ∧
    (s.mapValve z k f).pending = s.pending := by
  exact ⟨rfl, rfl, rfl, rfl, rfl, rfl, rfl, rfl, rfl, rfl, rfl, rfl, rfl, rfl, rfl, rfl, rfl, rfl, rfl, rfl, rfl⟩

@[simp] theorem State.tickValves_frame (s : State) :
    (s.tickValves).powered = s.powered ∧
    (s.tickValves).ready = s.ready ∧
    (s.tickValves).straps = s.straps ∧
    (s.tickValves).clock = s.clock ∧
    (s.tickValves).settings = s.settings ∧
    (s.tickValves).scanner = s.scanner ∧
    (s.tickValves).probes = s.probes ∧
    (s.tickValves).statistics = s.statistics ∧
    (s.tickValves).schedule = s.schedule ∧
    (s.tickValves).run = s.run ∧
    (s.tickValves).sampler = s.sampler ∧
    (s.tickValves).zones = s.zones ∧
    (s.tickValves).fans = s.fans ∧
    (s.tickValves).interlocks = s.interlocks ∧
    (s.tickValves).history = s.history ∧
    (s.tickValves).notices = s.notices ∧
    (s.tickValves).link = s.link ∧
    (s.tickValves).memory = s.memory ∧
    (s.tickValves).due = s.due ∧
    (s.tickValves).draws = s.draws ∧
    (s.tickValves).pending = s.pending := by
  exact ⟨rfl, rfl, rfl, rfl, rfl, rfl, rfl, rfl, rfl, rfl, rfl, rfl, rfl, rfl, rfl, rfl, rfl, rfl, rfl, rfl, rfl⟩

@[simp] theorem State.zonesTakeStep_frame (s : State) (x : StepRecord) (o : ZoneId → Int) :
    (s.zonesTakeStep x o).powered = s.powered ∧
    (s.zonesTakeStep x o).ready = s.ready ∧
    (s.zonesTakeStep x o).straps = s.straps ∧
    (s.zonesTakeStep x o).clock = s.clock ∧
    (s.zonesTakeStep x o).settings = s.settings ∧
    (s.zonesTakeStep x o).scanner = s.scanner ∧
    (s.zonesTakeStep x o).probes = s.probes ∧
    (s.zonesTakeStep x o).statistics = s.statistics ∧
    (s.zonesTakeStep x o).schedule = s.schedule ∧
    (s.zonesTakeStep x o).run = s.run ∧
    (s.zonesTakeStep x o).sampler = s.sampler ∧
    (s.zonesTakeStep x o).outputs = s.outputs ∧
    (s.zonesTakeStep x o).fans = s.fans ∧
    (s.zonesTakeStep x o).interlocks = s.interlocks ∧
    (s.zonesTakeStep x o).history = s.history ∧
    (s.zonesTakeStep x o).notices = s.notices ∧
    (s.zonesTakeStep x o).link = s.link ∧
    (s.zonesTakeStep x o).memory = s.memory ∧
    (s.zonesTakeStep x o).due = s.due ∧
    (s.zonesTakeStep x o).draws = s.draws ∧
    (s.zonesTakeStep x o).pending = s.pending := by
  exact ⟨rfl, rfl, rfl, rfl, rfl, rfl, rfl, rfl, rfl, rfl, rfl, rfl, rfl, rfl, rfl, rfl, rfl, rfl, rfl, rfl, rfl⟩

@[simp] theorem State.zonesRetarget_frame (s : State) (x : StepRecord) :
    (s.zonesRetarget x).powered = s.powered ∧
    (s.zonesRetarget x).ready = s.ready ∧
    (s.zonesRetarget x).straps = s.straps ∧
    (s.zonesRetarget x).clock = s.clock ∧
    (s.zonesRetarget x).settings = s.settings ∧
    (s.zonesRetarget x).scanner = s.scanner ∧
    (s.zonesRetarget x).probes = s.probes ∧
    (s.zonesRetarget x).statistics = s.statistics ∧
    (s.zonesRetarget x).schedule = s.schedule ∧
    (s.zonesRetarget x).run = s.run ∧
    (s.zonesRetarget x).sampler = s.sampler ∧
    (s.zonesRetarget x).outputs = s.outputs ∧
    (s.zonesRetarget x).fans = s.fans ∧
    (s.zonesRetarget x).interlocks = s.interlocks ∧
    (s.zonesRetarget x).history = s.history ∧
    (s.zonesRetarget x).notices = s.notices ∧
    (s.zonesRetarget x).link = s.link ∧
    (s.zonesRetarget x).memory = s.memory ∧
    (s.zonesRetarget x).due = s.due ∧
    (s.zonesRetarget x).draws = s.draws ∧
    (s.zonesRetarget x).pending = s.pending := by
  exact ⟨rfl, rfl, rfl, rfl, rfl, rfl, rfl, rfl, rfl, rfl, rfl, rfl, rfl, rfl, rfl, rfl, rfl, rfl, rfl, rfl, rfl⟩

@[simp] theorem State.selectProbe_frame (s : State) (p : Fin 48) :
    (s.selectProbe p).powered = s.powered ∧
    (s.selectProbe p).ready = s.ready ∧
    (s.selectProbe p).straps = s.straps ∧
    (s.selectProbe p).clock = s.clock ∧
    (s.selectProbe p).settings = s.settings ∧
    (s.selectProbe p).probes = s.probes ∧
    (s.selectProbe p).statistics = s.statistics ∧
    (s.selectProbe p).schedule = s.schedule ∧
    (s.selectProbe p).run = s.run ∧
    (s.selectProbe p).sampler = s.sampler ∧
    (s.selectProbe p).zones = s.zones ∧
    (s.selectProbe p).outputs = s.outputs ∧
    (s.selectProbe p).fans = s.fans ∧
    (s.selectProbe p).interlocks = s.interlocks ∧
    (s.selectProbe p).history = s.history ∧
    (s.selectProbe p).notices = s.notices ∧
    (s.selectProbe p).link = s.link ∧
    (s.selectProbe p).memory = s.memory ∧
    (s.selectProbe p).due = s.due ∧
    (s.selectProbe p).draws = s.draws ∧
    (s.selectProbe p).pending = s.pending := by
  exact ⟨rfl, rfl, rfl, rfl, rfl, rfl, rfl, rfl, rfl, rfl, rfl, rfl, rfl, rfl, rfl, rfl, rfl, rfl, rfl, rfl, rfl⟩

@[simp] theorem State.restScan_frame (s : State) :
    (s.restScan).powered = s.powered ∧
    (s.restScan).ready = s.ready ∧
    (s.restScan).straps = s.straps ∧
    (s.restScan).clock = s.clock ∧
    (s.restScan).settings = s.settings ∧
    (s.restScan).probes = s.probes ∧
    (s.restScan).statistics = s.statistics ∧
    (s.restScan).schedule = s.schedule ∧
    (s.restScan).run = s.run ∧
    (s.restScan).sampler = s.sampler ∧
    (s.restScan).zones = s.zones ∧
    (s.restScan).outputs = s.outputs ∧
    (s.restScan).fans = s.fans ∧
    (s.restScan).interlocks = s.interlocks ∧
    (s.restScan).history = s.history ∧
    (s.restScan).notices = s.notices ∧
    (s.restScan).link = s.link ∧
    (s.restScan).memory = s.memory ∧
    (s.restScan).due = s.due ∧
    (s.restScan).draws = s.draws ∧
    (s.restScan).pending = s.pending := by
  exact ⟨rfl, rfl, rfl, rfl, rfl, rfl, rfl, rfl, rfl, rfl, rfl, rfl, rfl, rfl, rfl, rfl, rfl, rfl, rfl, rfl, rfl⟩

@[simp] theorem State.keepPublication_frame (s : State) (p : Publication) :
    (s.keepPublication p).powered = s.powered ∧
    (s.keepPublication p).ready = s.ready ∧
    (s.keepPublication p).straps = s.straps ∧
    (s.keepPublication p).clock = s.clock ∧
    (s.keepPublication p).settings = s.settings ∧
    (s.keepPublication p).scanner = s.scanner ∧
    (s.keepPublication p).probes = s.probes ∧
    (s.keepPublication p).schedule = s.schedule ∧
    (s.keepPublication p).run = s.run ∧
    (s.keepPublication p).sampler = s.sampler ∧
    (s.keepPublication p).zones = s.zones ∧
    (s.keepPublication p).outputs = s.outputs ∧
    (s.keepPublication p).fans = s.fans ∧
    (s.keepPublication p).interlocks = s.interlocks ∧
    (s.keepPublication p).history = s.history ∧
    (s.keepPublication p).notices = s.notices ∧
    (s.keepPublication p).link = s.link ∧
    (s.keepPublication p).memory = s.memory ∧
    (s.keepPublication p).due = s.due ∧
    (s.keepPublication p).draws = s.draws ∧
    (s.keepPublication p).pending = s.pending := by
  exact ⟨rfl, rfl, rfl, rfl, rfl, rfl, rfl, rfl, rfl, rfl, rfl, rfl, rfl, rfl, rfl, rfl, rfl, rfl, rfl, rfl, rfl⟩

@[simp] theorem State.appendFrame_frame (s : State) (p : Publication) :
    (s.appendFrame p).powered = s.powered ∧
    (s.appendFrame p).ready = s.ready ∧
    (s.appendFrame p).straps = s.straps ∧
    (s.appendFrame p).clock = s.clock ∧
    (s.appendFrame p).settings = s.settings ∧
    (s.appendFrame p).scanner = s.scanner ∧
    (s.appendFrame p).probes = s.probes ∧
    (s.appendFrame p).statistics = s.statistics ∧
    (s.appendFrame p).schedule = s.schedule ∧
    (s.appendFrame p).run = s.run ∧
    (s.appendFrame p).sampler = s.sampler ∧
    (s.appendFrame p).zones = s.zones ∧
    (s.appendFrame p).outputs = s.outputs ∧
    (s.appendFrame p).fans = s.fans ∧
    (s.appendFrame p).interlocks = s.interlocks ∧
    (s.appendFrame p).notices = s.notices ∧
    (s.appendFrame p).link = s.link ∧
    (s.appendFrame p).memory = s.memory ∧
    (s.appendFrame p).due = s.due ∧
    (s.appendFrame p).draws = s.draws ∧
    (s.appendFrame p).pending = s.pending := by
  exact ⟨rfl, rfl, rfl, rfl, rfl, rfl, rfl, rfl, rfl, rfl, rfl, rfl, rfl, rfl, rfl, rfl, rfl, rfl, rfl, rfl, rfl⟩

@[simp] theorem State.judgementsOver_frame (s : State) :
    (s.judgementsOver).powered = s.powered ∧
    (s.judgementsOver).ready = s.ready ∧
    (s.judgementsOver).straps = s.straps ∧
    (s.judgementsOver).clock = s.clock ∧
    (s.judgementsOver).settings = s.settings ∧
    (s.judgementsOver).scanner = s.scanner ∧
    (s.judgementsOver).probes = s.probes ∧
    (s.judgementsOver).statistics = s.statistics ∧
    (s.judgementsOver).schedule = s.schedule ∧
    (s.judgementsOver).run = s.run ∧
    (s.judgementsOver).sampler = s.sampler ∧
    (s.judgementsOver).zones = s.zones ∧
    (s.judgementsOver).outputs = s.outputs ∧
    (s.judgementsOver).fans = s.fans ∧
    (s.judgementsOver).interlocks = s.interlocks ∧
    (s.judgementsOver).history = s.history ∧
    (s.judgementsOver).notices = s.notices ∧
    (s.judgementsOver).link = s.link ∧
    (s.judgementsOver).memory = s.memory ∧
    (s.judgementsOver).draws = s.draws ∧
    (s.judgementsOver).pending = s.pending := by
  exact ⟨rfl, rfl, rfl, rfl, rfl, rfl, rfl, rfl, rfl, rfl, rfl, rfl, rfl, rfl, rfl, rfl, rfl, rfl, rfl, rfl, rfl⟩

@[simp] theorem State.runCountMinute_frame (s : State) :
    (s.runCountMinute).powered = s.powered ∧
    (s.runCountMinute).ready = s.ready ∧
    (s.runCountMinute).straps = s.straps ∧
    (s.runCountMinute).clock = s.clock ∧
    (s.runCountMinute).settings = s.settings ∧
    (s.runCountMinute).scanner = s.scanner ∧
    (s.runCountMinute).probes = s.probes ∧
    (s.runCountMinute).statistics = s.statistics ∧
    (s.runCountMinute).schedule = s.schedule ∧
    (s.runCountMinute).sampler = s.sampler ∧
    (s.runCountMinute).zones = s.zones ∧
    (s.runCountMinute).outputs = s.outputs ∧
    (s.runCountMinute).fans = s.fans ∧
    (s.runCountMinute).interlocks = s.interlocks ∧
    (s.runCountMinute).history = s.history ∧
    (s.runCountMinute).notices = s.notices ∧
    (s.runCountMinute).link = s.link ∧
    (s.runCountMinute).memory = s.memory ∧
    (s.runCountMinute).draws = s.draws ∧
    (s.runCountMinute).pending = s.pending := by
  exact ⟨rfl, rfl, rfl, rfl, rfl, rfl, rfl, rfl, rfl, rfl, rfl, rfl, rfl, rfl, rfl, rfl, rfl, rfl, rfl, rfl⟩

@[simp] theorem State.resetScanner_frame (s : State) :
    (s.resetScanner).powered = s.powered ∧
    (s.resetScanner).ready = s.ready ∧
    (s.resetScanner).straps = s.straps ∧
    (s.resetScanner).clock = s.clock ∧
    (s.resetScanner).settings = s.settings ∧
    (s.resetScanner).statistics = s.statistics ∧
    (s.resetScanner).schedule = s.schedule ∧
    (s.resetScanner).run = s.run ∧
    (s.resetScanner).sampler = s.sampler ∧
    (s.resetScanner).zones = s.zones ∧
    (s.resetScanner).outputs = s.outputs ∧
    (s.resetScanner).fans = s.fans ∧
    (s.resetScanner).interlocks = s.interlocks ∧
    (s.resetScanner).history = s.history ∧
    (s.resetScanner).notices = s.notices ∧
    (s.resetScanner).link = s.link ∧
    (s.resetScanner).memory = s.memory ∧
    (s.resetScanner).due = s.due ∧
    (s.resetScanner).draws = s.draws ∧
    (s.resetScanner).pending = s.pending := by
  exact ⟨rfl, rfl, rfl, rfl, rfl, rfl, rfl, rfl, rfl, rfl, rfl, rfl, rfl, rfl, rfl, rfl, rfl, rfl, rfl, rfl⟩

@[simp] theorem State.answer_frame (s : State) (kind tag : Byte) (r : Reply) :
    (s.answer kind tag r).powered = s.powered ∧
    (s.answer kind tag r).ready = s.ready ∧
    (s.answer kind tag r).straps = s.straps ∧
    (s.answer kind tag r).clock = s.clock ∧
    (s.answer kind tag r).settings = s.settings ∧
    (s.answer kind tag r).scanner = s.scanner ∧
    (s.answer kind tag r).probes = s.probes ∧
    (s.answer kind tag r).statistics = s.statistics ∧
    (s.answer kind tag r).schedule = s.schedule ∧
    (s.answer kind tag r).run = s.run ∧
    (s.answer kind tag r).sampler = s.sampler ∧
    (s.answer kind tag r).zones = s.zones ∧
    (s.answer kind tag r).outputs = s.outputs ∧
    (s.answer kind tag r).fans = s.fans ∧
    (s.answer kind tag r).interlocks = s.interlocks ∧
    (s.answer kind tag r).history = s.history ∧
    (s.answer kind tag r).notices = s.notices ∧
    (s.answer kind tag r).memory = s.memory ∧
    (s.answer kind tag r).due = s.due ∧
    (s.answer kind tag r).draws = s.draws ∧
    (s.answer kind tag r).pending = s.pending := by
  exact ⟨rfl, rfl, rfl, rfl, rfl, rfl, rfl, rfl, rfl, rfl, rfl, rfl, rfl, rfl, rfl, rfl, rfl, rfl, rfl, rfl, rfl⟩

@[simp] theorem State.clearWood_frame (s : State) (z : ZoneId) :
    (s.clearWood z).powered = s.powered ∧
    (s.clearWood z).ready = s.ready ∧
    (s.clearWood z).straps = s.straps ∧
    (s.clearWood z).clock = s.clock ∧
    (s.clearWood z).settings = s.settings ∧
    (s.clearWood z).scanner = s.scanner ∧
    (s.clearWood z).probes = s.probes ∧
    (s.clearWood z).statistics = s.statistics ∧
    (s.clearWood z).schedule = s.schedule ∧
    (s.clearWood z).run = s.run ∧
    (s.clearWood z).zones = s.zones ∧
    (s.clearWood z).outputs = s.outputs ∧
    (s.clearWood z).fans = s.fans ∧
    (s.clearWood z).interlocks = s.interlocks ∧
    (s.clearWood z).history = s.history ∧
    (s.clearWood z).notices = s.notices ∧
    (s.clearWood z).link = s.link ∧
    (s.clearWood z).memory = s.memory ∧
    (s.clearWood z).due = s.due ∧
    (s.clearWood z).draws = s.draws ∧
    (s.clearWood z).pending = s.pending := by
  exact ⟨rfl, rfl, rfl, rfl, rfl, rfl, rfl, rfl, rfl, rfl, rfl, rfl, rfl, rfl, rfl, rfl, rfl, rfl, rfl, rfl, rfl⟩

@[simp] theorem State.putCurve_frame (s : State) (g : Fin 8) (c : Curve) :
    (s.putCurve g c).powered = s.powered ∧
    (s.putCurve g c).ready = s.ready ∧
    (s.putCurve g c).straps = s.straps ∧
    (s.putCurve g c).clock = s.clock ∧
    (s.putCurve g c).scanner = s.scanner ∧
    (s.putCurve g c).statistics = s.statistics ∧
    (s.putCurve g c).schedule = s.schedule ∧
    (s.putCurve g c).run = s.run ∧
    (s.putCurve g c).sampler = s.sampler ∧
    (s.putCurve g c).zones = s.zones ∧
    (s.putCurve g c).outputs = s.outputs ∧
    (s.putCurve g c).fans = s.fans ∧
    (s.putCurve g c).interlocks = s.interlocks ∧
    (s.putCurve g c).history = s.history ∧
    (s.putCurve g c).notices = s.notices ∧
    (s.putCurve g c).link = s.link ∧
    (s.putCurve g c).memory = s.memory ∧
    (s.putCurve g c).due = s.due ∧
    (s.putCurve g c).draws = s.draws ∧
    (s.putCurve g c).pending = s.pending := by
  exact ⟨rfl, rfl, rfl, rfl, rfl, rfl, rfl, rfl, rfl, rfl, rfl, rfl, rfl, rfl, rfl, rfl, rfl, rfl, rfl, rfl⟩

@[simp] theorem State.clearCurve_frame (s : State) (g : Fin 8) :
    (s.clearCurve g).powered = s.powered ∧
    (s.clearCurve g).ready = s.ready ∧
    (s.clearCurve g).straps = s.straps ∧
    (s.clearCurve g).clock = s.clock ∧
    (s.clearCurve g).scanner = s.scanner ∧
    (s.clearCurve g).probes = s.probes ∧
    (s.clearCurve g).statistics = s.statistics ∧
    (s.clearCurve g).schedule = s.schedule ∧
    (s.clearCurve g).run = s.run ∧
    (s.clearCurve g).sampler = s.sampler ∧
    (s.clearCurve g).zones = s.zones ∧
    (s.clearCurve g).outputs = s.outputs ∧
    (s.clearCurve g).fans = s.fans ∧
    (s.clearCurve g).interlocks = s.interlocks ∧
    (s.clearCurve g).history = s.history ∧
    (s.clearCurve g).notices = s.notices ∧
    (s.clearCurve g).link = s.link ∧
    (s.clearCurve g).memory = s.memory ∧
    (s.clearCurve g).due = s.due ∧
    (s.clearCurve g).draws = s.draws ∧
    (s.clearCurve g).pending = s.pending := by
  exact ⟨rfl, rfl, rfl, rfl, rfl, rfl, rfl, rfl, rfl, rfl, rfl, rfl, rfl, rfl, rfl, rfl, rfl, rfl, rfl, rfl, rfl⟩

/-! ### What the updates set -/

@[simp] theorem State.queueNotice_notices (s : State) (k : NoticeKind) (a b : Nat) :
    (s.queueNotice k a b).notices =
      pushNotice s.notices { kind := k, minute := s.clock.minute, argA := a, argB := b, lostBefore := false } := rfl

@[simp] theorem State.setProbe_probes (s : State) (p : Fin 48) (r : ProbeRecord) :
    (s.setProbe p r).probes = setTable s.probes p r := rfl

@[simp] theorem State.setProbe_probe (s : State) (p : Fin 48) (r : ProbeRecord) : (s.setProbe p r).probe p = r := by
  simp [State.probe, State.setProbe]

theorem State.setProbe_probe_ne (s : State) (p q : Fin 48) (r : ProbeRecord) (h : q ≠ p) :
    (s.setProbe p r).probe q = s.probe q := by
  simp [State.probe, State.setProbe, getTable_setTable_ne _ _ _ _ (Ne.symm h)]

@[simp] theorem State.setZone_zones (s : State) (z : ZoneId) (x : ZoneLoops) :
    (s.setZone z x).zones = s.zones.set z x := rfl

@[simp] theorem State.setInput_interlocks (s : State) (i : Input) (r : InputRecord) :
    (s.setInput i r).interlocks = s.interlocks.set i r := rfl

@[simp] theorem State.setScanner_scanner (s : State) (x : Scanner) : (s.setScanner x).scanner = x := rfl

@[simp] theorem State.setReceiver_link (s : State) (r : Receiver) :
    (s.setReceiver r).link = { s.link with receiver := r } := rfl

@[simp] theorem State.setEdit_schedule (s : State) (steps : List StepRecord) :
    (s.setEdit steps).schedule = s.schedule.setEdit steps := rfl

@[simp] theorem State.wantCheckpoint_due (s : State) :
    s.wantCheckpoint.due = { s.due with checkpoint := true } := rfl

/-! ### Zones and inputs -/

@[simp] theorem zones_get_set_self {α : Type} (x : Zones α) (z : ZoneId) (a : α) : (x.set z a).get z = a := by
  cases z <;> rfl

theorem zones_get_set_ne {α : Type} (x : Zones α) (z y : ZoneId) (a : α) (h : y ≠ z) : (x.set z a).get y = x.get y := by
  cases z <;> cases y <;> first | rfl | exact absurd rfl h

@[simp] theorem zones_get_map {α β : Type} (f : ZoneId → α → β) (x : Zones α) (z : ZoneId) :
    (x.map f).get z = f z (x.get z) := by
  cases z <;> rfl

@[simp] theorem zones_get_replicate {α : Type} (a : α) (z : ZoneId) : (Zones.replicate a).get z = a := by
  cases z <;> rfl

@[simp] theorem inputs_get_set_self {α : Type} (x : Inputs α) (i : Input) (a : α) : (x.set i a).get i = a := by
  cases i <;> rfl

theorem inputs_get_set_ne {α : Type} (x : Inputs α) (i j : Input) (a : α) (h : j ≠ i) :
    (x.set i a).get j = x.get j := by
  cases i <;> cases j <;> first | rfl | exact absurd rfl h

@[simp] theorem inputs_get_map {α β : Type} (f : Input → α → β) (x : Inputs α) (i : Input) :
    (x.map f).get i = f i (x.get i) := by
  cases i <;> rfl

@[simp] theorem State.setInput_input (s : State) (i : Input) (r : InputRecord) : (s.setInput i r).input i = r := by
  simp [State.input, State.setInput]

@[simp] theorem State.setZone_zone (s : State) (z : ZoneId) (x : ZoneLoops) : (s.setZone z x).zone z = x := by
  simp [State.zone, State.setZone]

@[simp] theorem ZoneOutputs.valve_setValve (o : ZoneOutputs) (k : ValveKind) (v : Valve) :
    (o.setValve k v).valve k = v := by
  cases k <;> rfl

end Sys2Proof.Machine
end

