-- ==== Sys2Proof/Laws/Frames.lean ====
section
/-! SUPPORT. What each shared operation leaves: for every block it does not act on, that block's state stands. -/

namespace Sys2Proof.Machine

@[simp] theorem State.finishEvent_frame (s : State) :
    (s.finishEvent).powered = s.powered ∧
    (s.finishEvent).ready = s.ready ∧
    (s.finishEvent).straps = s.straps ∧
    (s.finishEvent).clock = s.clock ∧
    (s.finishEvent).settings = s.settings ∧
    (s.finishEvent).scanner = s.scanner ∧
    (s.finishEvent).probes = s.probes ∧
    (s.finishEvent).statistics = s.statistics ∧
    (s.finishEvent).schedule = s.schedule ∧
    (s.finishEvent).run = s.run ∧
    (s.finishEvent).sampler = s.sampler ∧
    (s.finishEvent).zones = s.zones ∧
    (s.finishEvent).outputs = s.outputs ∧
    (s.finishEvent).fans = s.fans ∧
    (s.finishEvent).interlocks = s.interlocks ∧
    (s.finishEvent).history = s.history ∧
    (s.finishEvent).notices = s.notices ∧
    (s.finishEvent).link = s.link ∧
    (s.finishEvent).draws = s.draws ∧
    (s.finishEvent).pending = s.pending := by
  unfold State.finishEvent; (repeat' split) <;> simp

@[simp] theorem State.fansEnterStopped_frame (s : State) :
    (s.fansEnterStopped).powered = s.powered ∧
    (s.fansEnterStopped).ready = s.ready ∧
    (s.fansEnterStopped).straps = s.straps ∧
    (s.fansEnterStopped).clock = s.clock ∧
    (s.fansEnterStopped).settings = s.settings ∧
    (s.fansEnterStopped).scanner = s.scanner ∧
    (s.fansEnterStopped).probes = s.probes ∧
    (s.fansEnterStopped).statistics = s.statistics ∧
    (s.fansEnterStopped).schedule = s.schedule ∧
    (s.fansEnterStopped).run = s.run ∧
    (s.fansEnterStopped).sampler = s.sampler ∧
    (s.fansEnterStopped).zones = s.zones ∧
    (s.fansEnterStopped).interlocks = s.interlocks ∧
    (s.fansEnterStopped).history = s.history ∧
    (s.fansEnterStopped).notices = s.notices ∧
    (s.fansEnterStopped).link = s.link ∧
    (s.fansEnterStopped).memory = s.memory ∧
    (s.fansEnterStopped).due = s.due ∧
    (s.fansEnterStopped).draws = s.draws ∧
    (s.fansEnterStopped).pending = s.pending := by
  unfold State.fansEnterStopped; simp

@[simp] theorem State.fansEnterCoasting_frame (s : State) :
    (s.fansEnterCoasting).powered = s.powered ∧
    (s.fansEnterCoasting).ready = s.ready ∧
    (s.fansEnterCoasting).straps = s.straps ∧
    (s.fansEnterCoasting).clock = s.clock ∧
    (s.fansEnterCoasting).settings = s.settings ∧
    (s.fansEnterCoasting).scanner = s.scanner ∧
    (s.fansEnterCoasting).probes = s.probes ∧
    (s.fansEnterCoasting).statistics = s.statistics ∧
    (s.fansEnterCoasting).schedule = s.schedule ∧
    (s.fansEnterCoasting).run = s.run ∧
    (s.fansEnterCoasting).sampler = s.sampler ∧
    (s.fansEnterCoasting).zones = s.zones ∧
    (s.fansEnterCoasting).interlocks = s.interlocks ∧
    (s.fansEnterCoasting).history = s.history ∧
    (s.fansEnterCoasting).notices = s.notices ∧
    (s.fansEnterCoasting).link = s.link ∧
    (s.fansEnterCoasting).memory = s.memory ∧
    (s.fansEnterCoasting).due = s.due ∧
    (s.fansEnterCoasting).draws = s.draws ∧
    (s.fansEnterCoasting).pending = s.pending := by
  unfold State.fansEnterCoasting; simp

@[simp] theorem State.checkReversal_frame (s : State) :
    (s.checkReversal).powered = s.powered ∧
    (s.checkReversal).ready = s.ready ∧
    (s.checkReversal).straps = s.straps ∧
    (s.checkReversal).clock = s.clock ∧
    (s.checkReversal).settings = s.settings ∧
    (s.checkReversal).scanner = s.scanner ∧
    (s.checkReversal).probes = s.probes ∧
    (s.checkReversal).statistics = s.statistics ∧
    (s.checkReversal).schedule = s.schedule ∧
    (s.checkReversal).run = s.run ∧
    (s.checkReversal).sampler = s.sampler ∧
    (s.checkReversal).zones = s.zones ∧
    (s.checkReversal).interlocks = s.interlocks ∧
    (s.checkReversal).history = s.history ∧
    (s.checkReversal).notices = s.notices ∧
    (s.checkReversal).link = s.link ∧
    (s.checkReversal).memory = s.memory ∧
    (s.checkReversal).due = s.due ∧
    (s.checkReversal).draws = s.draws ∧
    (s.checkReversal).pending = s.pending := by
  unfold State.checkReversal; (repeat' split) <;> simp

@[simp] theorem State.fansEnterRunning_frame (s : State) :
    (s.fansEnterRunning).powered = s.powered ∧
    (s.fansEnterRunning).ready = s.ready ∧
    (s.fansEnterRunning).straps = s.straps ∧
    (s.fansEnterRunning).clock = s.clock ∧
    (s.fansEnterRunning).settings = s.settings ∧
    (s.fansEnterRunning).scanner = s.scanner ∧
    (s.fansEnterRunning).probes = s.probes ∧
    (s.fansEnterRunning).statistics = s.statistics ∧
    (s.fansEnterRunning).schedule = s.schedule ∧
    (s.fansEnterRunning).run = s.run ∧
    (s.fansEnterRunning).sampler = s.sampler ∧
    (s.fansEnterRunning).zones = s.zones ∧
    (s.fansEnterRunning).interlocks = s.interlocks ∧
    (s.fansEnterRunning).history = s.history ∧
    (s.fansEnterRunning).notices = s.notices ∧
    (s.fansEnterRunning).link = s.link ∧
    (s.fansEnterRunning).memory = s.memory ∧
    (s.fansEnterRunning).due = s.due ∧
    (s.fansEnterRunning).draws = s.draws ∧
    (s.fansEnterRunning).pending = s.pending := by
  unfold State.fansEnterRunning; simp

@[simp] theorem State.confirmStart_frame (s : State) :
    (s.confirmStart).powered = s.powered ∧
    (s.confirmStart).ready = s.ready ∧
    (s.confirmStart).straps = s.straps ∧
    (s.confirmStart).clock = s.clock ∧
    (s.confirmStart).settings = s.settings ∧
    (s.confirmStart).scanner = s.scanner ∧
    (s.confirmStart).probes = s.probes ∧
    (s.confirmStart).statistics = s.statistics ∧
    (s.confirmStart).schedule = s.schedule ∧
    (s.confirmStart).run = s.run ∧
    (s.confirmStart).sampler = s.sampler ∧
    (s.confirmStart).zones = s.zones ∧
    (s.confirmStart).interlocks = s.interlocks ∧
    (s.confirmStart).history = s.history ∧
    (s.confirmStart).notices = s.notices ∧
    (s.confirmStart).link = s.link ∧
    (s.confirmStart).memory = s.memory ∧
    (s.confirmStart).due = s.due ∧
    (s.confirmStart).draws = s.draws ∧
    (s.confirmStart).pending = s.pending := by
  unfold State.confirmStart; simp

@[simp] theorem State.fansEnterStarting_frame (s : State) :
    (s.fansEnterStarting).powered = s.powered ∧
    (s.fansEnterStarting).ready = s.ready ∧
    (s.fansEnterStarting).straps = s.straps ∧
    (s.fansEnterStarting).clock = s.clock ∧
    (s.fansEnterStarting).settings = s.settings ∧
    (s.fansEnterStarting).scanner = s.scanner ∧
    (s.fansEnterStarting).probes = s.probes ∧
    (s.fansEnterStarting).statistics = s.statistics ∧
    (s.fansEnterStarting).schedule = s.schedule ∧
    (s.fansEnterStarting).run = s.run ∧
    (s.fansEnterStarting).sampler = s.sampler ∧
    (s.fansEnterStarting).zones = s.zones ∧
    (s.fansEnterStarting).interlocks = s.interlocks ∧
    (s.fansEnterStarting).history = s.history ∧
    (s.fansEnterStarting).notices = s.notices ∧
    (s.fansEnterStarting).link = s.link ∧
    (s.fansEnterStarting).memory = s.memory ∧
    (s.fansEnterStarting).due = s.due ∧
    (s.fansEnterStarting).draws = s.draws ∧
    (s.fansEnterStarting).pending = s.pending := by
  simp only [State.fansEnterStarting]; (repeat' split) <;> simp

@[simp] theorem State.fansEnterFailed_frame (s : State) :
    (s.fansEnterFailed).powered = s.powered ∧
    (s.fansEnterFailed).ready = s.ready ∧
    (s.fansEnterFailed).straps = s.straps ∧
    (s.fansEnterFailed).clock = s.clock ∧
    (s.fansEnterFailed).settings = s.settings ∧
    (s.fansEnterFailed).scanner = s.scanner ∧
    (s.fansEnterFailed).probes = s.probes ∧
    (s.fansEnterFailed).statistics = s.statistics ∧
    (s.fansEnterFailed).schedule = s.schedule ∧
    (s.fansEnterFailed).run = s.run ∧
    (s.fansEnterFailed).sampler = s.sampler ∧
    (s.fansEnterFailed).zones = s.zones ∧
    (s.fansEnterFailed).interlocks = s.interlocks ∧
    (s.fansEnterFailed).history = s.history ∧
    (s.fansEnterFailed).link = s.link ∧
    (s.fansEnterFailed).memory = s.memory ∧
    (s.fansEnterFailed).due = s.due ∧
    (s.fansEnterFailed).draws = s.draws ∧
    (s.fansEnterFailed).pending = s.pending := by
  simp only [State.fansEnterFailed]; (repeat' split) <;> simp

@[simp] theorem State.fansStart_frame (s : State) :
    (s.fansStart).powered = s.powered ∧
    (s.fansStart).ready = s.ready ∧
    (s.fansStart).straps = s.straps ∧
    (s.fansStart).clock = s.clock ∧
    (s.fansStart).settings = s.settings ∧
    (s.fansStart).scanner = s.scanner ∧
    (s.fansStart).probes = s.probes ∧
    (s.fansStart).statistics = s.statistics ∧
    (s.fansStart).schedule = s.schedule ∧
    (s.fansStart).run = s.run ∧
    (s.fansStart).sampler = s.sampler ∧
    (s.fansStart).zones = s.zones ∧
    (s.fansStart).interlocks = s.interlocks ∧
    (s.fansStart).history = s.history ∧
    (s.fansStart).link = s.link ∧
    (s.fansStart).memory = s.memory ∧
    (s.fansStart).due = s.due ∧
    (s.fansStart).draws = s.draws ∧
    (s.fansStart).pending = s.pending := by
  unfold State.fansStart; (repeat' split) <;> simp

@[simp] theorem State.fansFollowRun_frame (s : State) :
    (s.fansFollowRun).powered = s.powered ∧
    (s.fansFollowRun).ready = s.ready ∧
    (s.fansFollowRun).straps = s.straps ∧
    (s.fansFollowRun).clock = s.clock ∧
    (s.fansFollowRun).settings = s.settings ∧
    (s.fansFollowRun).scanner = s.scanner ∧
    (s.fansFollowRun).probes = s.probes ∧
    (s.fansFollowRun).statistics = s.statistics ∧
    (s.fansFollowRun).schedule = s.schedule ∧
    (s.fansFollowRun).run = s.run ∧
    (s.fansFollowRun).sampler = s.sampler ∧
    (s.fansFollowRun).zones = s.zones ∧
    (s.fansFollowRun).interlocks = s.interlocks ∧
    (s.fansFollowRun).history = s.history ∧
    (s.fansFollowRun).link = s.link ∧
    (s.fansFollowRun).memory = s.memory ∧
    (s.fansFollowRun).due = s.due ∧
    (s.fansFollowRun).draws = s.draws ∧
    (s.fansFollowRun).pending = s.pending := by
  unfold State.fansFollowRun; (repeat' split) <;> simp

@[simp] theorem State.fansOnLatchSet_frame (s : State) :
    (s.fansOnLatchSet).powered = s.powered ∧
    (s.fansOnLatchSet).ready = s.ready ∧
    (s.fansOnLatchSet).straps = s.straps ∧
    (s.fansOnLatchSet).clock = s.clock ∧
    (s.fansOnLatchSet).settings = s.settings ∧
    (s.fansOnLatchSet).scanner = s.scanner ∧
    (s.fansOnLatchSet).probes = s.probes ∧
    (s.fansOnLatchSet).statistics = s.statistics ∧
    (s.fansOnLatchSet).schedule = s.schedule ∧
    (s.fansOnLatchSet).run = s.run ∧
    (s.fansOnLatchSet).sampler = s.sampler ∧
    (s.fansOnLatchSet).zones = s.zones ∧
    (s.fansOnLatchSet).interlocks = s.interlocks ∧
    (s.fansOnLatchSet).history = s.history ∧
    (s.fansOnLatchSet).link = s.link ∧
    (s.fansOnLatchSet).memory = s.memory ∧
    (s.fansOnLatchSet).due = s.due ∧
    (s.fansOnLatchSet).draws = s.draws ∧
    (s.fansOnLatchSet).pending = s.pending := by
  unfold State.fansOnLatchSet; (repeat' split) <;> simp

@[simp] theorem State.fansOnLatchClear_frame (s : State) :
    (s.fansOnLatchClear).powered = s.powered ∧
    (s.fansOnLatchClear).ready = s.ready ∧
    (s.fansOnLatchClear).straps = s.straps ∧
    (s.fansOnLatchClear).clock = s.clock ∧
    (s.fansOnLatchClear).settings = s.settings ∧
    (s.fansOnLatchClear).scanner = s.scanner ∧
    (s.fansOnLatchClear).probes = s.probes ∧
    (s.fansOnLatchClear).statistics = s.statistics ∧
    (s.fansOnLatchClear).schedule = s.schedule ∧
    (s.fansOnLatchClear).run = s.run ∧
    (s.fansOnLatchClear).sampler = s.sampler ∧
    (s.fansOnLatchClear).zones = s.zones ∧
    (s.fansOnLatchClear).interlocks = s.interlocks ∧
    (s.fansOnLatchClear).history = s.history ∧
    (s.fansOnLatchClear).link = s.link ∧
    (s.fansOnLatchClear).memory = s.memory ∧
    (s.fansOnLatchClear).due = s.due ∧
    (s.fansOnLatchClear).draws = s.draws ∧
    (s.fansOnLatchClear).pending = s.pending := by
  unfold State.fansOnLatchClear; (repeat' split) <;> simp

@[simp] theorem State.fansOnInput_frame (s : State) :
    (s.fansOnInput).powered = s.powered ∧
    (s.fansOnInput).ready = s.ready ∧
    (s.fansOnInput).straps = s.straps ∧
    (s.fansOnInput).clock = s.clock ∧
    (s.fansOnInput).settings = s.settings ∧
    (s.fansOnInput).scanner = s.scanner ∧
    (s.fansOnInput).probes = s.probes ∧
    (s.fansOnInput).statistics = s.statistics ∧
    (s.fansOnInput).schedule = s.schedule ∧
    (s.fansOnInput).run = s.run ∧
    (s.fansOnInput).sampler = s.sampler ∧
    (s.fansOnInput).zones = s.zones ∧
    (s.fansOnInput).interlocks = s.interlocks ∧
    (s.fansOnInput).history = s.history ∧
    (s.fansOnInput).notices = s.notices ∧
    (s.fansOnInput).link = s.link ∧
    (s.fansOnInput).memory = s.memory ∧
    (s.fansOnInput).due = s.due ∧
    (s.fansOnInput).draws = s.draws ∧
    (s.fansOnInput).pending = s.pending := by
  unfold State.fansOnInput; (repeat' split) <;> simp

@[simp] theorem State.handFans_frame (s : State) (x : StepRecord) :
    (s.handFans x).powered = s.powered ∧
    (s.handFans x).ready = s.ready ∧
    (s.handFans x).straps = s.straps ∧
    (s.handFans x).clock = s.clock ∧
    (s.handFans x).settings = s.settings ∧
    (s.handFans x).scanner = s.scanner ∧
    (s.handFans x).probes = s.probes ∧
    (s.handFans x).statistics = s.statistics ∧
    (s.handFans x).schedule = s.schedule ∧
    (s.handFans x).run = s.run ∧
    (s.handFans x).sampler = s.sampler ∧
    (s.handFans x).zones = s.zones ∧
    (s.handFans x).interlocks = s.interlocks ∧
    (s.handFans x).history = s.history ∧
    (s.handFans x).notices = s.notices ∧
    (s.handFans x).link = s.link ∧
    (s.handFans x).memory = s.memory ∧
    (s.handFans x).due = s.due ∧
    (s.handFans x).draws = s.draws ∧
    (s.handFans x).pending = s.pending := by
  unfold State.handFans; simp

@[simp] theorem State.endCoast_frame (s : State) :
    (s.endCoast).powered = s.powered ∧
    (s.endCoast).ready = s.ready ∧
    (s.endCoast).straps = s.straps ∧
    (s.endCoast).clock = s.clock ∧
    (s.endCoast).settings = s.settings ∧
    (s.endCoast).scanner = s.scanner ∧
    (s.endCoast).probes = s.probes ∧
    (s.endCoast).statistics = s.statistics ∧
    (s.endCoast).schedule = s.schedule ∧
    (s.endCoast).run = s.run ∧
    (s.endCoast).sampler = s.sampler ∧
    (s.endCoast).zones = s.zones ∧
    (s.endCoast).interlocks = s.interlocks ∧
    (s.endCoast).history = s.history ∧
    (s.endCoast).notices = s.notices ∧
    (s.endCoast).link = s.link ∧
    (s.endCoast).memory = s.memory ∧
    (s.endCoast).due = s.due ∧
    (s.endCoast).draws = s.draws ∧
    (s.endCoast).pending = s.pending := by
  unfold State.endCoast; simp

@[simp] theorem State.noticeChannel_frame (s : State) (n : Nat) (x : ChannelNews) :
    (s.noticeChannel n x).powered = s.powered ∧
    (s.noticeChannel n x).ready = s.ready ∧
    (s.noticeChannel n x).straps = s.straps ∧
    (s.noticeChannel n x).clock = s.clock ∧
    (s.noticeChannel n x).settings = s.settings ∧
    (s.noticeChannel n x).scanner = s.scanner ∧
    (s.noticeChannel n x).probes = s.probes ∧
    (s.noticeChannel n x).statistics = s.statistics ∧
    (s.noticeChannel n x).schedule = s.schedule ∧
    (s.noticeChannel n x).run = s.run ∧
    (s.noticeChannel n x).sampler = s.sampler ∧
    (s.noticeChannel n x).zones = s.zones ∧
    (s.noticeChannel n x).outputs = s.outputs ∧
    (s.noticeChannel n x).fans = s.fans ∧
    (s.noticeChannel n x).interlocks = s.interlocks ∧
    (s.noticeChannel n x).history = s.history ∧
    (s.noticeChannel n x).link = s.link ∧
    (s.noticeChannel n x).memory = s.memory ∧
    (s.noticeChannel n x).due = s.due ∧
    (s.noticeChannel n x).draws = s.draws ∧
    (s.noticeChannel n x).pending = s.pending := by
  unfold State.noticeChannel; (repeat' split) <;> simp

@[simp] theorem State.sampleZone_frame (s : State) (x : Zones ZoneSamples) (z : ZoneId) :
    (s.sampleZone x z).powered = s.powered ∧
    (s.sampleZone x z).ready = s.ready ∧
    (s.sampleZone x z).straps = s.straps ∧
    (s.sampleZone x z).clock = s.clock ∧
    (s.sampleZone x z).settings = s.settings ∧
    (s.sampleZone x z).scanner = s.scanner ∧
    (s.sampleZone x z).probes = s.probes ∧
    (s.sampleZone x z).statistics = s.statistics ∧
    (s.sampleZone x z).schedule = s.schedule ∧
    (s.sampleZone x z).run = s.run ∧
    (s.sampleZone x z).zones = s.zones ∧
    (s.sampleZone x z).outputs = s.outputs ∧
    (s.sampleZone x z).fans = s.fans ∧
    (s.sampleZone x z).interlocks = s.interlocks ∧
    (s.sampleZone x z).history = s.history ∧
    (s.sampleZone x z).link = s.link ∧
    (s.sampleZone x z).memory = s.memory ∧
    (s.sampleZone x z).due = s.due ∧
    (s.sampleZone x z).draws = s.draws ∧
    (s.sampleZone x z).pending = s.pending := by
  simp [State.sampleZone]

@[simp] theorem State.sampleChannels_frame (s : State) (x : Zones ZoneSamples) :
    (s.sampleChannels x).powered = s.powered ∧
    (s.sampleChannels x).ready = s.ready ∧
    (s.sampleChannels x).straps = s.straps ∧
    (s.sampleChannels x).clock = s.clock ∧
    (s.sampleChannels x).settings = s.settings ∧
    (s.sampleChannels x).scanner = s.scanner ∧
    (s.sampleChannels x).probes = s.probes ∧
    (s.sampleChannels x).statistics = s.statistics ∧
    (s.sampleChannels x).schedule = s.schedule ∧
    (s.sampleChannels x).run = s.run ∧
    (s.sampleChannels x).zones = s.zones ∧
    (s.sampleChannels x).outputs = s.outputs ∧
    (s.sampleChannels x).fans = s.fans ∧
    (s.sampleChannels x).interlocks = s.interlocks ∧
    (s.sampleChannels x).history = s.history ∧
    (s.sampleChannels x).link = s.link ∧
    (s.sampleChannels x).memory = s.memory ∧
    (s.sampleChannels x).due = s.due ∧
    (s.sampleChannels x).draws = s.draws ∧
    (s.sampleChannels x).pending = s.pending := by
  simp [State.sampleChannels, ZoneId.all]

@[simp] theorem State.recomputeSetpoint_frame (s : State) (z : ZoneId) :
    (s.recomputeSetpoint z).powered = s.powered ∧
    (s.recomputeSetpoint z).ready = s.ready ∧
    (s.recomputeSetpoint z).straps = s.straps ∧
    (s.recomputeSetpoint z).clock = s.clock ∧
    (s.recomputeSetpoint z).settings = s.settings ∧
    (s.recomputeSetpoint z).scanner = s.scanner ∧
    (s.recomputeSetpoint z).probes = s.probes ∧
    (s.recomputeSetpoint z).statistics = s.statistics ∧
    (s.recomputeSetpoint z).schedule = s.schedule ∧
    (s.recomputeSetpoint z).run = s.run ∧
    (s.recomputeSetpoint z).sampler = s.sampler ∧
    (s.recomputeSetpoint z).outputs = s.outputs ∧
    (s.recomputeSetpoint z).fans = s.fans ∧
    (s.recomputeSetpoint z).interlocks = s.interlocks ∧
    (s.recomputeSetpoint z).history = s.history ∧
    (s.recomputeSetpoint z).notices = s.notices ∧
    (s.recomputeSetpoint z).link = s.link ∧
    (s.recomputeSetpoint z).memory = s.memory ∧
    (s.recomputeSetpoint z).due = s.due ∧
    (s.recomputeSetpoint z).draws = s.draws ∧
    (s.recomputeSetpoint z).pending = s.pending := by
  simp only [State.recomputeSetpoint]; (repeat' split) <;> simp

@[simp] theorem State.judgeLoops_frame (s : State) (z : ZoneId) :
    (s.judgeLoops z).powered = s.powered ∧
    (s.judgeLoops z).ready = s.ready ∧
    (s.judgeLoops z).straps = s.straps ∧
    (s.judgeLoops z).clock = s.clock ∧
    (s.judgeLoops z).settings = s.settings ∧
    (s.judgeLoops z).scanner = s.scanner ∧
    (s.judgeLoops z).probes = s.probes ∧
    (s.judgeLoops z).statistics = s.statistics ∧
    (s.judgeLoops z).schedule = s.schedule ∧
    (s.judgeLoops z).run = s.run ∧
    (s.judgeLoops z).sampler = s.sampler ∧
    (s.judgeLoops z).outputs = s.outputs ∧
    (s.judgeLoops z).fans = s.fans ∧
    (s.judgeLoops z).interlocks = s.interlocks ∧
    (s.judgeLoops z).history = s.history ∧
    (s.judgeLoops z).notices = s.notices ∧
    (s.judgeLoops z).link = s.link ∧
    (s.judgeLoops z).memory = s.memory ∧
    (s.judgeLoops z).due = s.due ∧
    (s.judgeLoops z).draws = s.draws ∧
    (s.judgeLoops z).pending = s.pending := by
  unfold State.judgeLoops; simp

@[simp] theorem State.zonesTakeSet_frame (s : State) :
    (s.zonesTakeSet).powered = s.powered ∧
    (s.zonesTakeSet).ready = s.ready ∧
    (s.zonesTakeSet).straps = s.straps ∧
    (s.zonesTakeSet).clock = s.clock ∧
    (s.zonesTakeSet).settings = s.settings ∧
    (s.zonesTakeSet).scanner = s.scanner ∧
    (s.zonesTakeSet).probes = s.probes ∧
    (s.zonesTakeSet).statistics = s.statistics ∧
    (s.zonesTakeSet).schedule = s.schedule ∧
    (s.zonesTakeSet).run = s.run ∧
    (s.zonesTakeSet).sampler = s.sampler ∧
    (s.zonesTakeSet).fans = s.fans ∧
    (s.zonesTakeSet).interlocks = s.interlocks ∧
    (s.zonesTakeSet).history = s.history ∧
    (s.zonesTakeSet).notices = s.notices ∧
    (s.zonesTakeSet).link = s.link ∧
    (s.zonesTakeSet).memory = s.memory ∧
    (s.zonesTakeSet).due = s.due ∧
    (s.zonesTakeSet).draws = s.draws ∧
    (s.zonesTakeSet).pending = s.pending := by
  simp [State.zonesTakeSet, ZoneId.all]

@[simp] theorem State.zonesEndRun_frame (s : State) :
    (s.zonesEndRun).powered = s.powered ∧
    (s.zonesEndRun).ready = s.ready ∧
    (s.zonesEndRun).straps = s.straps ∧
    (s.zonesEndRun).clock = s.clock ∧
    (s.zonesEndRun).settings = s.settings ∧
    (s.zonesEndRun).scanner = s.scanner ∧
    (s.zonesEndRun).probes = s.probes ∧
    (s.zonesEndRun).statistics = s.statistics ∧
    (s.zonesEndRun).schedule = s.schedule ∧
    (s.zonesEndRun).run = s.run ∧
    (s.zonesEndRun).sampler = s.sampler ∧
    (s.zonesEndRun).fans = s.fans ∧
    (s.zonesEndRun).interlocks = s.interlocks ∧
    (s.zonesEndRun).history = s.history ∧
    (s.zonesEndRun).notices = s.notices ∧
    (s.zonesEndRun).link = s.link ∧
    (s.zonesEndRun).memory = s.memory ∧
    (s.zonesEndRun).due = s.due ∧
    (s.zonesEndRun).draws = s.draws ∧
    (s.zonesEndRun).pending = s.pending := by
  unfold State.zonesEndRun; simp

@[simp] theorem State.resetZone_frame (s : State) (z : ZoneId) :
    (s.resetZone z).powered = s.powered ∧
    (s.resetZone z).ready = s.ready ∧
    (s.resetZone z).straps = s.straps ∧
    (s.resetZone z).clock = s.clock ∧
    (s.resetZone z).settings = s.settings ∧
    (s.resetZone z).scanner = s.scanner ∧
    (s.resetZone z).probes = s.probes ∧
    (s.resetZone z).statistics = s.statistics ∧
    (s.resetZone z).schedule = s.schedule ∧
    (s.resetZone z).run = s.run ∧
    (s.resetZone z).sampler = s.sampler ∧
    (s.resetZone z).fans = s.fans ∧
    (s.resetZone z).interlocks = s.interlocks ∧
    (s.resetZone z).history = s.history ∧
    (s.resetZone z).notices = s.notices ∧
    (s.resetZone z).link = s.link ∧
    (s.resetZone z).memory = s.memory ∧
    (s.resetZone z).due = s.due ∧
    (s.resetZone z).draws = s.draws ∧
    (s.resetZone z).pending = s.pending := by
  unfold State.resetZone; simp

@[simp] theorem State.addReason_frame (s : State) (r : HoldReason) :
    (s.addReason r).powered = s.powered ∧
    (s.addReason r).ready = s.ready ∧
    (s.addReason r).straps = s.straps ∧
    (s.addReason r).clock = s.clock ∧
    (s.addReason r).settings = s.settings ∧
    (s.addReason r).scanner = s.scanner ∧
    (s.addReason r).probes = s.probes ∧
    (s.addReason r).statistics = s.statistics ∧
    (s.addReason r).schedule = s.schedule ∧
    (s.addReason r).sampler = s.sampler ∧
    (s.addReason r).zones = s.zones ∧
    (s.addReason r).outputs = s.outputs ∧
    (s.addReason r).fans = s.fans ∧
    (s.addReason r).interlocks = s.interlocks ∧
    (s.addReason r).history = s.history ∧
    (s.addReason r).link = s.link ∧
    (s.addReason r).memory = s.memory ∧
    (s.addReason r).draws = s.draws ∧
    (s.addReason r).pending = s.pending := by
  unfold State.addReason; (repeat' split) <;> simp

@[simp] theorem State.resumeIfEmpty_frame (s : State) :
    (s.resumeIfEmpty).powered = s.powered ∧
    (s.resumeIfEmpty).ready = s.ready ∧
    (s.resumeIfEmpty).straps = s.straps ∧
    (s.resumeIfEmpty).clock = s.clock ∧
    (s.resumeIfEmpty).settings = s.settings ∧
    (s.resumeIfEmpty).scanner = s.scanner ∧
    (s.resumeIfEmpty).probes = s.probes ∧
    (s.resumeIfEmpty).statistics = s.statistics ∧
    (s.resumeIfEmpty).schedule = s.schedule ∧
    (s.resumeIfEmpty).sampler = s.sampler ∧
    (s.resumeIfEmpty).zones = s.zones ∧
    (s.resumeIfEmpty).outputs = s.outputs ∧
    (s.resumeIfEmpty).fans = s.fans ∧
    (s.resumeIfEmpty).interlocks = s.interlocks ∧
    (s.resumeIfEmpty).history = s.history ∧
    (s.resumeIfEmpty).link = s.link ∧
    (s.resumeIfEmpty).memory = s.memory ∧
    (s.resumeIfEmpty).draws = s.draws ∧
    (s.resumeIfEmpty).pending = s.pending := by
  unfold State.resumeIfEmpty; (repeat' split) <;> simp

@[simp] theorem State.removeReason_frame (s : State) (r : HoldReason) :
    (s.removeReason r).powered = s.powered ∧
    (s.removeReason r).ready = s.ready ∧
    (s.removeReason r).straps = s.straps ∧
    (s.removeReason r).clock = s.clock ∧
    (s.removeReason r).settings = s.settings ∧
    (s.removeReason r).scanner = s.scanner ∧
    (s.removeReason r).probes = s.probes ∧
    (s.removeReason r).statistics = s.statistics ∧
    (s.removeReason r).schedule = s.schedule ∧
    (s.removeReason r).sampler = s.sampler ∧
    (s.removeReason r).zones = s.zones ∧
    (s.removeReason r).outputs = s.outputs ∧
    (s.removeReason r).fans = s.fans ∧
    (s.removeReason r).interlocks = s.interlocks ∧
    (s.removeReason r).history = s.history ∧
    (s.removeReason r).link = s.link ∧
    (s.removeReason r).memory = s.memory ∧
    (s.removeReason r).draws = s.draws ∧
    (s.removeReason r).pending = s.pending := by
  unfold State.removeReason; (repeat' split) <;> simp

@[simp] theorem State.judgeReason_frame (s : State) (r : HoldReason) (b : Bool) :
    (s.judgeReason r b).powered = s.powered ∧
    (s.judgeReason r b).ready = s.ready ∧
    (s.judgeReason r b).straps = s.straps ∧
    (s.judgeReason r b).clock = s.clock ∧
    (s.judgeReason r b).settings = s.settings ∧
    (s.judgeReason r b).scanner = s.scanner ∧
    (s.judgeReason r b).probes = s.probes ∧
    (s.judgeReason r b).statistics = s.statistics ∧
    (s.judgeReason r b).schedule = s.schedule ∧
    (s.judgeReason r b).sampler = s.sampler ∧
    (s.judgeReason r b).zones = s.zones ∧
    (s.judgeReason r b).outputs = s.outputs ∧
    (s.judgeReason r b).fans = s.fans ∧
    (s.judgeReason r b).interlocks = s.interlocks ∧
    (s.judgeReason r b).history = s.history ∧
    (s.judgeReason r b).link = s.link ∧
    (s.judgeReason r b).memory = s.memory ∧
    (s.judgeReason r b).draws = s.draws ∧
    (s.judgeReason r b).pending = s.pending := by
  unfold State.judgeReason; (repeat' split) <;> simp

@[simp] theorem State.runEntersSafe_frame (s : State) (i : Input) :
    (s.runEntersSafe i).powered = s.powered ∧
    (s.runEntersSafe i).ready = s.ready ∧
    (s.runEntersSafe i).straps = s.straps ∧
    (s.runEntersSafe i).clock = s.clock ∧
    (s.runEntersSafe i).settings = s.settings ∧
    (s.runEntersSafe i).scanner = s.scanner ∧
    (s.runEntersSafe i).probes = s.probes ∧
    (s.runEntersSafe i).statistics = s.statistics ∧
    (s.runEntersSafe i).schedule = s.schedule ∧
    (s.runEntersSafe i).sampler = s.sampler ∧
    (s.runEntersSafe i).zones = s.zones ∧
    (s.runEntersSafe i).outputs = s.outputs ∧
    (s.runEntersSafe i).fans = s.fans ∧
    (s.runEntersSafe i).interlocks = s.interlocks ∧
    (s.runEntersSafe i).history = s.history ∧
    (s.runEntersSafe i).link = s.link ∧
    (s.runEntersSafe i).memory = s.memory ∧
    (s.runEntersSafe i).draws = s.draws ∧
    (s.runEntersSafe i).pending = s.pending := by
  unfold State.runEntersSafe; simp

@[simp] theorem State.judgeInterlock_frame (s : State) :
    (s.judgeInterlock).powered = s.powered ∧
    (s.judgeInterlock).ready = s.ready ∧
    (s.judgeInterlock).straps = s.straps ∧
    (s.judgeInterlock).clock = s.clock ∧
    (s.judgeInterlock).settings = s.settings ∧
    (s.judgeInterlock).scanner = s.scanner ∧
    (s.judgeInterlock).probes = s.probes ∧
    (s.judgeInterlock).statistics = s.statistics ∧
    (s.judgeInterlock).schedule = s.schedule ∧
    (s.judgeInterlock).sampler = s.sampler ∧
    (s.judgeInterlock).zones = s.zones ∧
    (s.judgeInterlock).outputs = s.outputs ∧
    (s.judgeInterlock).fans = s.fans ∧
    (s.judgeInterlock).interlocks = s.interlocks ∧
    (s.judgeInterlock).history = s.history ∧
    (s.judgeInterlock).link = s.link ∧
    (s.judgeInterlock).memory = s.memory ∧
    (s.judgeInterlock).draws = s.draws ∧
    (s.judgeInterlock).pending = s.pending := by
  unfold State.judgeInterlock; simp

@[simp] theorem State.enterSafe_frame (s : State) (i : Input) :
    (s.enterSafe i).powered = s.powered ∧
    (s.enterSafe i).ready = s.ready ∧
    (s.enterSafe i).straps = s.straps ∧
    (s.enterSafe i).clock = s.clock ∧
    (s.enterSafe i).settings = s.settings ∧
    (s.enterSafe i).scanner = s.scanner ∧
    (s.enterSafe i).probes = s.probes ∧
    (s.enterSafe i).statistics = s.statistics ∧
    (s.enterSafe i).schedule = s.schedule ∧
    (s.enterSafe i).sampler = s.sampler ∧
    (s.enterSafe i).zones = s.zones ∧
    (s.enterSafe i).interlocks = s.interlocks ∧
    (s.enterSafe i).history = s.history ∧
    (s.enterSafe i).link = s.link ∧
    (s.enterSafe i).memory = s.memory ∧
    (s.enterSafe i).draws = s.draws ∧
    (s.enterSafe i).pending = s.pending := by
  unfold State.enterSafe; simp

@[simp] theorem State.runOnLatchSignal_frame (s : State) (i : Input) :
    (s.runOnLatchSignal i).powered = s.powered ∧
    (s.runOnLatchSignal i).ready = s.ready ∧
    (s.runOnLatchSignal i).straps = s.straps ∧
    (s.runOnLatchSignal i).clock = s.clock ∧
    (s.runOnLatchSignal i).settings = s.settings ∧
    (s.runOnLatchSignal i).scanner = s.scanner ∧
    (s.runOnLatchSignal i).probes = s.probes ∧
    (s.runOnLatchSignal i).statistics = s.statistics ∧
    (s.runOnLatchSignal i).schedule = s.schedule ∧
    (s.runOnLatchSignal i).sampler = s.sampler ∧
    (s.runOnLatchSignal i).zones = s.zones ∧
    (s.runOnLatchSignal i).interlocks = s.interlocks ∧
    (s.runOnLatchSignal i).history = s.history ∧
    (s.runOnLatchSignal i).link = s.link ∧
    (s.runOnLatchSignal i).memory = s.memory ∧
    (s.runOnLatchSignal i).draws = s.draws ∧
    (s.runOnLatchSignal i).pending = s.pending := by
  unfold State.runOnLatchSignal; (repeat' split) <;> simp

@[simp] theorem State.endRun_frame (s : State) (x : RunState) :
    (s.endRun x).powered = s.powered ∧
    (s.endRun x).ready = s.ready ∧
    (s.endRun x).straps = s.straps ∧
    (s.endRun x).clock = s.clock ∧
    (s.endRun x).settings = s.settings ∧
    (s.endRun x).scanner = s.scanner ∧
    (s.endRun x).probes = s.probes ∧
    (s.endRun x).statistics = s.statistics ∧
    (s.endRun x).schedule = s.schedule ∧
    (s.endRun x).sampler = s.sampler ∧
    (s.endRun x).interlocks = s.interlocks ∧
    (s.endRun x).history = s.history ∧
    (s.endRun x).link = s.link ∧
    (s.endRun x).memory = s.memory ∧
    (s.endRun x).due = s.due ∧
    (s.endRun x).draws = s.draws ∧
    (s.endRun x).pending = s.pending := by
  unfold State.endRun; simp

@[simp] theorem State.latchSpread_frame (s : State) (x : StepRecord) :
    (s.latchSpread x).powered = s.powered ∧
    (s.latchSpread x).ready = s.ready ∧
    (s.latchSpread x).straps = s.straps ∧
    (s.latchSpread x).clock = s.clock ∧
    (s.latchSpread x).settings = s.settings ∧
    (s.latchSpread x).scanner = s.scanner ∧
    (s.latchSpread x).probes = s.probes ∧
    (s.latchSpread x).statistics = s.statistics ∧
    (s.latchSpread x).schedule = s.schedule ∧
    (s.latchSpread x).sampler = s.sampler ∧
    (s.latchSpread x).zones = s.zones ∧
    (s.latchSpread x).outputs = s.outputs ∧
    (s.latchSpread x).fans = s.fans ∧
    (s.latchSpread x).interlocks = s.interlocks ∧
    (s.latchSpread x).history = s.history ∧
    (s.latchSpread x).notices = s.notices ∧
    (s.latchSpread x).link = s.link ∧
    (s.latchSpread x).memory = s.memory ∧
    (s.latchSpread x).due = s.due ∧
    (s.latchSpread x).draws = s.draws ∧
    (s.latchSpread x).pending = s.pending := by
  unfold State.latchSpread; (repeat' split) <;> simp

@[simp] theorem State.enterStepFrom_frame (s : State) (i : Nat) (o : StepRecord → ZoneId → Int) :
    (s.enterStepFrom i o).powered = s.powered ∧
    (s.enterStepFrom i o).ready = s.ready ∧
    (s.enterStepFrom i o).straps = s.straps ∧
    (s.enterStepFrom i o).clock = s.clock ∧
    (s.enterStepFrom i o).settings = s.settings ∧
    (s.enterStepFrom i o).scanner = s.scanner ∧
    (s.enterStepFrom i o).probes = s.probes ∧
    (s.enterStepFrom i o).statistics = s.statistics ∧
    (s.enterStepFrom i o).schedule = s.schedule ∧
    (s.enterStepFrom i o).sampler = s.sampler ∧
    (s.enterStepFrom i o).interlocks = s.interlocks ∧
    (s.enterStepFrom i o).history = s.history ∧
    (s.enterStepFrom i o).link = s.link ∧
    (s.enterStepFrom i o).memory = s.memory ∧
    (s.enterStepFrom i o).draws = s.draws ∧
    (s.enterStepFrom i o).pending = s.pending := by
  unfold State.enterStepFrom; (repeat' split) <;> simp

@[simp] theorem State.enterStep_frame (s : State) (i : Nat) :
    (s.enterStep i).powered = s.powered ∧
    (s.enterStep i).ready = s.ready ∧
    (s.enterStep i).straps = s.straps ∧
    (s.enterStep i).clock = s.clock ∧
    (s.enterStep i).settings = s.settings ∧
    (s.enterStep i).scanner = s.scanner ∧
    (s.enterStep i).probes = s.probes ∧
    (s.enterStep i).statistics = s.statistics ∧
    (s.enterStep i).schedule = s.schedule ∧
    (s.enterStep i).sampler = s.sampler ∧
    (s.enterStep i).interlocks = s.interlocks ∧
    (s.enterStep i).history = s.history ∧
    (s.enterStep i).link = s.link ∧
    (s.enterStep i).memory = s.memory ∧
    (s.enterStep i).draws = s.draws ∧
    (s.enterStep i).pending = s.pending := by
  unfold State.enterStep; simp

@[simp] theorem State.completeRun_frame (s : State) :
    (s.completeRun).powered = s.powered ∧
    (s.completeRun).ready = s.ready ∧
    (s.completeRun).straps = s.straps ∧
    (s.completeRun).clock = s.clock ∧
    (s.completeRun).settings = s.settings ∧
    (s.completeRun).scanner = s.scanner ∧
    (s.completeRun).probes = s.probes ∧
    (s.completeRun).statistics = s.statistics ∧
    (s.completeRun).schedule = s.schedule ∧
    (s.completeRun).sampler = s.sampler ∧
    (s.completeRun).interlocks = s.interlocks ∧
    (s.completeRun).history = s.history ∧
    (s.completeRun).link = s.link ∧
    (s.completeRun).memory = s.memory ∧
    (s.completeRun).draws = s.draws ∧
    (s.completeRun).pending = s.pending := by
  unfold State.completeRun; simp

@[simp] theorem State.stepEnd_frame (s : State) :
    (s.stepEnd).powered = s.powered ∧
    (s.stepEnd).ready = s.ready ∧
    (s.stepEnd).straps = s.straps ∧
    (s.stepEnd).clock = s.clock ∧
    (s.stepEnd).settings = s.settings ∧
    (s.stepEnd).scanner = s.scanner ∧
    (s.stepEnd).probes = s.probes ∧
    (s.stepEnd).statistics = s.statistics ∧
    (s.stepEnd).sampler = s.sampler ∧
    (s.stepEnd).interlocks = s.interlocks ∧
    (s.stepEnd).history = s.history ∧
    (s.stepEnd).link = s.link ∧
    (s.stepEnd).memory = s.memory ∧
    (s.stepEnd).draws = s.draws ∧
    (s.stepEnd).pending = s.pending := by
  simp only [State.stepEnd]; (repeat' split) <;> simp

@[simp] theorem State.testAtPublication_frame (s : State) (f : Option McFigures) :
    (s.testAtPublication f).powered = s.powered ∧
    (s.testAtPublication f).ready = s.ready ∧
    (s.testAtPublication f).straps = s.straps ∧
    (s.testAtPublication f).clock = s.clock ∧
    (s.testAtPublication f).settings = s.settings ∧
    (s.testAtPublication f).scanner = s.scanner ∧
    (s.testAtPublication f).probes = s.probes ∧
    (s.testAtPublication f).statistics = s.statistics ∧
    (s.testAtPublication f).sampler = s.sampler ∧
    (s.testAtPublication f).interlocks = s.interlocks ∧
    (s.testAtPublication f).history = s.history ∧
    (s.testAtPublication f).link = s.link ∧
    (s.testAtPublication f).memory = s.memory ∧
    (s.testAtPublication f).draws = s.draws ∧
    (s.testAtPublication f).pending = s.pending := by
  simp only [State.testAtPublication]; (repeat' split) <;> simp

@[simp] theorem State.runTakePublication_frame (s : State) (p : Publication) :
    (s.runTakePublication p).powered = s.powered ∧
    (s.runTakePublication p).ready = s.ready ∧
    (s.runTakePublication p).straps = s.straps ∧
    (s.runTakePublication p).clock = s.clock ∧
    (s.runTakePublication p).settings = s.settings ∧
    (s.runTakePublication p).scanner = s.scanner ∧
    (s.runTakePublication p).probes = s.probes ∧
    (s.runTakePublication p).statistics = s.statistics ∧
    (s.runTakePublication p).sampler = s.sampler ∧
    (s.runTakePublication p).interlocks = s.interlocks ∧
    (s.runTakePublication p).history = s.history ∧
    (s.runTakePublication p).link = s.link ∧
    (s.runTakePublication p).memory = s.memory ∧
    (s.runTakePublication p).draws = s.draws ∧
    (s.runTakePublication p).pending = s.pending := by
  unfold State.runTakePublication; simp

@[simp] theorem State.judgeSettle_frame (s : State) :
    (s.judgeSettle).powered = s.powered ∧
    (s.judgeSettle).ready = s.ready ∧
    (s.judgeSettle).straps = s.straps ∧
    (s.judgeSettle).clock = s.clock ∧
    (s.judgeSettle).settings = s.settings ∧
    (s.judgeSettle).scanner = s.scanner ∧
    (s.judgeSettle).probes = s.probes ∧
    (s.judgeSettle).statistics = s.statistics ∧
    (s.judgeSettle).schedule = s.schedule ∧
    (s.judgeSettle).sampler = s.sampler ∧
    (s.judgeSettle).zones = s.zones ∧
    (s.judgeSettle).outputs = s.outputs ∧
    (s.judgeSettle).fans = s.fans ∧
    (s.judgeSettle).interlocks = s.interlocks ∧
    (s.judgeSettle).history = s.history ∧
    (s.judgeSettle).notices = s.notices ∧
    (s.judgeSettle).link = s.link ∧
    (s.judgeSettle).memory = s.memory ∧
    (s.judgeSettle).due = s.due ∧
    (s.judgeSettle).draws = s.draws ∧
    (s.judgeSettle).pending = s.pending := by
  unfold State.judgeSettle; (repeat' split) <;> simp

@[simp] theorem State.testAtSet_frame (s : State) :
    (s.testAtSet).powered = s.powered ∧
    (s.testAtSet).ready = s.ready ∧
    (s.testAtSet).straps = s.straps ∧
    (s.testAtSet).clock = s.clock ∧
    (s.testAtSet).settings = s.settings ∧
    (s.testAtSet).scanner = s.scanner ∧
    (s.testAtSet).probes = s.probes ∧
    (s.testAtSet).statistics = s.statistics ∧
    (s.testAtSet).sampler = s.sampler ∧
    (s.testAtSet).interlocks = s.interlocks ∧
    (s.testAtSet).history = s.history ∧
    (s.testAtSet).link = s.link ∧
    (s.testAtSet).memory = s.memory ∧
    (s.testAtSet).draws = s.draws ∧
    (s.testAtSet).pending = s.pending := by
  unfold State.testAtSet; (repeat' split) <;> simp

@[simp] theorem State.runTakeSet_frame (s : State) :
    (s.runTakeSet).powered = s.powered ∧
    (s.runTakeSet).ready = s.ready ∧
    (s.runTakeSet).straps = s.straps ∧
    (s.runTakeSet).clock = s.clock ∧
    (s.runTakeSet).settings = s.settings ∧
    (s.runTakeSet).scanner = s.scanner ∧
    (s.runTakeSet).probes = s.probes ∧
    (s.runTakeSet).statistics = s.statistics ∧
    (s.runTakeSet).sampler = s.sampler ∧
    (s.runTakeSet).interlocks = s.interlocks ∧
    (s.runTakeSet).history = s.history ∧
    (s.runTakeSet).link = s.link ∧
    (s.runTakeSet).memory = s.memory ∧
    (s.runTakeSet).draws = s.draws ∧
    (s.runTakeSet).pending = s.pending := by
  unfold State.runTakeSet; simp

@[simp] theorem State.takeHours_frame (s : State) :
    (s.takeHours).powered = s.powered ∧
    (s.takeHours).ready = s.ready ∧
    (s.takeHours).straps = s.straps ∧
    (s.takeHours).clock = s.clock ∧
    (s.takeHours).settings = s.settings ∧
    (s.takeHours).scanner = s.scanner ∧
    (s.takeHours).probes = s.probes ∧
    (s.takeHours).statistics = s.statistics ∧
    (s.takeHours).sampler = s.sampler ∧
    (s.takeHours).interlocks = s.interlocks ∧
    (s.takeHours).history = s.history ∧
    (s.takeHours).link = s.link ∧
    (s.takeHours).memory = s.memory ∧
    (s.takeHours).draws = s.draws ∧
    (s.takeHours).pending = s.pending := by
  unfold State.takeHours; (repeat' split) <;> simp

@[simp] theorem State.takeSettle_frame (s : State) :
    (s.takeSettle).powered = s.powered ∧
    (s.takeSettle).ready = s.ready ∧
    (s.takeSettle).straps = s.straps ∧
    (s.takeSettle).clock = s.clock ∧
    (s.takeSettle).settings = s.settings ∧
    (s.takeSettle).scanner = s.scanner ∧
    (s.takeSettle).probes = s.probes ∧
    (s.takeSettle).statistics = s.statistics ∧
    (s.takeSettle).sampler = s.sampler ∧
    (s.takeSettle).interlocks = s.interlocks ∧
    (s.takeSettle).history = s.history ∧
    (s.takeSettle).link = s.link ∧
    (s.takeSettle).memory = s.memory ∧
    (s.takeSettle).draws = s.draws ∧
    (s.takeSettle).pending = s.pending := by
  unfold State.takeSettle; (repeat' split) <;> simp

@[simp] theorem State.timeOut_frame (s : State) (x : StepRecord) :
    (s.timeOut x).powered = s.powered ∧
    (s.timeOut x).ready = s.ready ∧
    (s.timeOut x).straps = s.straps ∧
    (s.timeOut x).clock = s.clock ∧
    (s.timeOut x).settings = s.settings ∧
    (s.timeOut x).scanner = s.scanner ∧
    (s.timeOut x).probes = s.probes ∧
    (s.timeOut x).statistics = s.statistics ∧
    (s.timeOut x).sampler = s.sampler ∧
    (s.timeOut x).interlocks = s.interlocks ∧
    (s.timeOut x).history = s.history ∧
    (s.timeOut x).link = s.link ∧
    (s.timeOut x).memory = s.memory ∧
    (s.timeOut x).draws = s.draws ∧
    (s.timeOut x).pending = s.pending := by
  unfold State.timeOut; (repeat' split) <;> simp

@[simp] theorem State.takeTimeout_frame (s : State) :
    (s.takeTimeout).powered = s.powered ∧
    (s.takeTimeout).ready = s.ready ∧
    (s.takeTimeout).straps = s.straps ∧
    (s.takeTimeout).clock = s.clock ∧
    (s.takeTimeout).settings = s.settings ∧
    (s.takeTimeout).scanner = s.scanner ∧
    (s.takeTimeout).probes = s.probes ∧
    (s.takeTimeout).statistics = s.statistics ∧
    (s.takeTimeout).sampler = s.sampler ∧
    (s.takeTimeout).interlocks = s.interlocks ∧
    (s.takeTimeout).history = s.history ∧
    (s.takeTimeout).link = s.link ∧
    (s.takeTimeout).memory = s.memory ∧
    (s.takeTimeout).draws = s.draws ∧
    (s.takeTimeout).pending = s.pending := by
  simp only [State.takeTimeout]; (repeat' split) <;> simp

@[simp] theorem State.takeHourCheckpoint_frame (s : State) :
    (s.takeHourCheckpoint).powered = s.powered ∧
    (s.takeHourCheckpoint).ready = s.ready ∧
    (s.takeHourCheckpoint).straps = s.straps ∧
    (s.takeHourCheckpoint).clock = s.clock ∧
    (s.takeHourCheckpoint).settings = s.settings ∧
    (s.takeHourCheckpoint).scanner = s.scanner ∧
    (s.takeHourCheckpoint).probes = s.probes ∧
    (s.takeHourCheckpoint).statistics = s.statistics ∧
    (s.takeHourCheckpoint).schedule = s.schedule ∧
    (s.takeHourCheckpoint).run = s.run ∧
    (s.takeHourCheckpoint).sampler = s.sampler ∧
    (s.takeHourCheckpoint).zones = s.zones ∧
    (s.takeHourCheckpoint).outputs = s.outputs ∧
    (s.takeHourCheckpoint).fans = s.fans ∧
    (s.takeHourCheckpoint).interlocks = s.interlocks ∧
    (s.takeHourCheckpoint).history = s.history ∧
    (s.takeHourCheckpoint).notices = s.notices ∧
    (s.takeHourCheckpoint).link = s.link ∧
    (s.takeHourCheckpoint).memory = s.memory ∧
    (s.takeHourCheckpoint).draws = s.draws ∧
    (s.takeHourCheckpoint).pending = s.pending := by
  unfold State.takeHourCheckpoint; (repeat' split) <;> simp

@[simp] theorem State.startRun_frame (s : State) (i : Nat) :
    (s.startRun i).powered = s.powered ∧
    (s.startRun i).ready = s.ready ∧
    (s.startRun i).straps = s.straps ∧
    (s.startRun i).clock = s.clock ∧
    (s.startRun i).settings = s.settings ∧
    (s.startRun i).scanner = s.scanner ∧
    (s.startRun i).probes = s.probes ∧
    (s.startRun i).statistics = s.statistics ∧
    (s.startRun i).schedule = s.schedule ∧
    (s.startRun i).sampler = s.sampler ∧
    (s.startRun i).interlocks = s.interlocks ∧
    (s.startRun i).history = s.history ∧
    (s.startRun i).link = s.link ∧
    (s.startRun i).memory = s.memory ∧
    (s.startRun i).draws = s.draws ∧
    (s.startRun i).pending = s.pending := by
  simp only [State.startRun]; (repeat' split) <;> simp

@[simp] theorem State.resumeRun_frame (s : State) :
    (s.resumeRun).powered = s.powered ∧
    (s.resumeRun).ready = s.ready ∧
    (s.resumeRun).straps = s.straps ∧
    (s.resumeRun).clock = s.clock ∧
    (s.resumeRun).settings = s.settings ∧
    (s.resumeRun).scanner = s.scanner ∧
    (s.resumeRun).probes = s.probes ∧
    (s.resumeRun).statistics = s.statistics ∧
    (s.resumeRun).schedule = s.schedule ∧
    (s.resumeRun).sampler = s.sampler ∧
    (s.resumeRun).zones = s.zones ∧
    (s.resumeRun).outputs = s.outputs ∧
    (s.resumeRun).fans = s.fans ∧
    (s.resumeRun).interlocks = s.interlocks ∧
    (s.resumeRun).history = s.history ∧
    (s.resumeRun).link = s.link ∧
    (s.resumeRun).memory = s.memory ∧
    (s.resumeRun).draws = s.draws ∧
    (s.resumeRun).pending = s.pending := by
  unfold State.resumeRun; simp

@[simp] theorem State.restartRun_frame (s : State) :
    (s.restartRun).powered = s.powered ∧
    (s.restartRun).ready = s.ready ∧
    (s.restartRun).straps = s.straps ∧
    (s.restartRun).clock = s.clock ∧
    (s.restartRun).settings = s.settings ∧
    (s.restartRun).scanner = s.scanner ∧
    (s.restartRun).probes = s.probes ∧
    (s.restartRun).statistics = s.statistics ∧
    (s.restartRun).schedule = s.schedule ∧
    (s.restartRun).sampler = s.sampler ∧
    (s.restartRun).zones = s.zones ∧
    (s.restartRun).interlocks = s.interlocks ∧
    (s.restartRun).history = s.history ∧
    (s.restartRun).link = s.link ∧
    (s.restartRun).memory = s.memory ∧
    (s.restartRun).draws = s.draws ∧
    (s.restartRun).pending = s.pending := by
  unfold State.restartRun; simp

@[simp] theorem State.abortRun_frame (s : State) :
    (s.abortRun).powered = s.powered ∧
    (s.abortRun).ready = s.ready ∧
    (s.abortRun).straps = s.straps ∧
    (s.abortRun).clock = s.clock ∧
    (s.abortRun).settings = s.settings ∧
    (s.abortRun).scanner = s.scanner ∧
    (s.abortRun).probes = s.probes ∧
    (s.abortRun).statistics = s.statistics ∧
    (s.abortRun).sampler = s.sampler ∧
    (s.abortRun).interlocks = s.interlocks ∧
    (s.abortRun).history = s.history ∧
    (s.abortRun).link = s.link ∧
    (s.abortRun).memory = s.memory ∧
    (s.abortRun).draws = s.draws ∧
    (s.abortRun).pending = s.pending := by
  unfold State.abortRun; simp

@[simp] theorem State.adoptNow_frame (s : State) (n : Nat) (b : Bool) :
    (s.adoptNow n b).powered = s.powered ∧
    (s.adoptNow n b).ready = s.ready ∧
    (s.adoptNow n b).straps = s.straps ∧
    (s.adoptNow n b).clock = s.clock ∧
    (s.adoptNow n b).settings = s.settings ∧
    (s.adoptNow n b).scanner = s.scanner ∧
    (s.adoptNow n b).probes = s.probes ∧
    (s.adoptNow n b).statistics = s.statistics ∧
    (s.adoptNow n b).sampler = s.sampler ∧
    (s.adoptNow n b).interlocks = s.interlocks ∧
    (s.adoptNow n b).history = s.history ∧
    (s.adoptNow n b).link = s.link ∧
    (s.adoptNow n b).memory = s.memory ∧
    (s.adoptNow n b).draws = s.draws ∧
    (s.adoptNow n b).pending = s.pending := by
  simp only [State.adoptNow]; (repeat' split) <;> simp

@[simp] theorem State.safeThenFanLatch_frame (s : State) :
    (s.safeThenFanLatch).powered = s.powered ∧
    (s.safeThenFanLatch).ready = s.ready ∧
    (s.safeThenFanLatch).straps = s.straps ∧
    (s.safeThenFanLatch).clock = s.clock ∧
    (s.safeThenFanLatch).settings = s.settings ∧
    (s.safeThenFanLatch).scanner = s.scanner ∧
    (s.safeThenFanLatch).probes = s.probes ∧
    (s.safeThenFanLatch).statistics = s.statistics ∧
    (s.safeThenFanLatch).schedule = s.schedule ∧
    (s.safeThenFanLatch).sampler = s.sampler ∧
    (s.safeThenFanLatch).zones = s.zones ∧
    (s.safeThenFanLatch).interlocks = s.interlocks ∧
    (s.safeThenFanLatch).history = s.history ∧
    (s.safeThenFanLatch).link = s.link ∧
    (s.safeThenFanLatch).memory = s.memory ∧
    (s.safeThenFanLatch).draws = s.draws ∧
    (s.safeThenFanLatch).pending = s.pending := by
  unfold State.safeThenFanLatch; simp

@[simp] theorem State.signalLatchSet_frame (s : State) (i : Input) :
    (s.signalLatchSet i).powered = s.powered ∧
    (s.signalLatchSet i).ready = s.ready ∧
    (s.signalLatchSet i).straps = s.straps ∧
    (s.signalLatchSet i).clock = s.clock ∧
    (s.signalLatchSet i).settings = s.settings ∧
    (s.signalLatchSet i).scanner = s.scanner ∧
    (s.signalLatchSet i).probes = s.probes ∧
    (s.signalLatchSet i).statistics = s.statistics ∧
    (s.signalLatchSet i).schedule = s.schedule ∧
    (s.signalLatchSet i).sampler = s.sampler ∧
    (s.signalLatchSet i).zones = s.zones ∧
    (s.signalLatchSet i).interlocks = s.interlocks ∧
    (s.signalLatchSet i).history = s.history ∧
    (s.signalLatchSet i).link = s.link ∧
    (s.signalLatchSet i).memory = s.memory ∧
    (s.signalLatchSet i).pending = s.pending := by
  unfold State.signalLatchSet; (repeat' split) <;> simp

@[simp] theorem State.signalLatchClear_frame (s : State) (i : Input) :
    (s.signalLatchClear i).powered = s.powered ∧
    (s.signalLatchClear i).ready = s.ready ∧
    (s.signalLatchClear i).straps = s.straps ∧
    (s.signalLatchClear i).clock = s.clock ∧
    (s.signalLatchClear i).settings = s.settings ∧
    (s.signalLatchClear i).scanner = s.scanner ∧
    (s.signalLatchClear i).probes = s.probes ∧
    (s.signalLatchClear i).statistics = s.statistics ∧
    (s.signalLatchClear i).schedule = s.schedule ∧
    (s.signalLatchClear i).sampler = s.sampler ∧
    (s.signalLatchClear i).zones = s.zones ∧
    (s.signalLatchClear i).interlocks = s.interlocks ∧
    (s.signalLatchClear i).history = s.history ∧
    (s.signalLatchClear i).link = s.link ∧
    (s.signalLatchClear i).memory = s.memory ∧
    (s.signalLatchClear i).draws = s.draws ∧
    (s.signalLatchClear i).pending = s.pending := by
  unfold State.signalLatchClear; (repeat' split) <;> simp

@[simp] theorem State.trip_frame (s : State) (i : Input) :
    (s.trip i).powered = s.powered ∧
    (s.trip i).ready = s.ready ∧
    (s.trip i).straps = s.straps ∧
    (s.trip i).clock = s.clock ∧
    (s.trip i).settings = s.settings ∧
    (s.trip i).scanner = s.scanner ∧
    (s.trip i).probes = s.probes ∧
    (s.trip i).statistics = s.statistics ∧
    (s.trip i).schedule = s.schedule ∧
    (s.trip i).sampler = s.sampler ∧
    (s.trip i).zones = s.zones ∧
    (s.trip i).history = s.history ∧
    (s.trip i).link = s.link ∧
    (s.trip i).memory = s.memory ∧
    (s.trip i).pending = s.pending := by
  unfold State.trip; (repeat' split) <;> simp

@[simp] theorem State.judgeTrip_frame (s : State) (i : Input) (a b : Bool) :
    (s.judgeTrip i a b).powered = s.powered ∧
    (s.judgeTrip i a b).ready = s.ready ∧
    (s.judgeTrip i a b).straps = s.straps ∧
    (s.judgeTrip i a b).clock = s.clock ∧
    (s.judgeTrip i a b).settings = s.settings ∧
    (s.judgeTrip i a b).scanner = s.scanner ∧
    (s.judgeTrip i a b).probes = s.probes ∧
    (s.judgeTrip i a b).statistics = s.statistics ∧
    (s.judgeTrip i a b).schedule = s.schedule ∧
    (s.judgeTrip i a b).sampler = s.sampler ∧
    (s.judgeTrip i a b).zones = s.zones ∧
    (s.judgeTrip i a b).history = s.history ∧
    (s.judgeTrip i a b).link = s.link ∧
    (s.judgeTrip i a b).memory = s.memory ∧
    (s.judgeTrip i a b).pending = s.pending := by
  unfold State.judgeTrip; (repeat' split) <;> simp

@[simp] theorem State.changeLive_frame (s : State) (i : Input) (b : Bool) :
    (s.changeLive i b).powered = s.powered ∧
    (s.changeLive i b).ready = s.ready ∧
    (s.changeLive i b).straps = s.straps ∧
    (s.changeLive i b).clock = s.clock ∧
    (s.changeLive i b).settings = s.settings ∧
    (s.changeLive i b).scanner = s.scanner ∧
    (s.changeLive i b).probes = s.probes ∧
    (s.changeLive i b).statistics = s.statistics ∧
    (s.changeLive i b).schedule = s.schedule ∧
    (s.changeLive i b).sampler = s.sampler ∧
    (s.changeLive i b).zones = s.zones ∧
    (s.changeLive i b).history = s.history ∧
    (s.changeLive i b).link = s.link ∧
    (s.changeLive i b).memory = s.memory ∧
    (s.changeLive i b).pending = s.pending := by
  unfold State.changeLive; (repeat' split) <;> simp

@[simp] theorem State.clearLatch_frame (s : State) (i : Input) :
    (s.clearLatch i).powered = s.powered ∧
    (s.clearLatch i).ready = s.ready ∧
    (s.clearLatch i).straps = s.straps ∧
    (s.clearLatch i).clock = s.clock ∧
    (s.clearLatch i).settings = s.settings ∧
    (s.clearLatch i).scanner = s.scanner ∧
    (s.clearLatch i).probes = s.probes ∧
    (s.clearLatch i).statistics = s.statistics ∧
    (s.clearLatch i).schedule = s.schedule ∧
    (s.clearLatch i).sampler = s.sampler ∧
    (s.clearLatch i).zones = s.zones ∧
    (s.clearLatch i).history = s.history ∧
    (s.clearLatch i).link = s.link ∧
    (s.clearLatch i).memory = s.memory ∧
    (s.clearLatch i).draws = s.draws ∧
    (s.clearLatch i).pending = s.pending := by
  unfold State.clearLatch; simp

@[simp] theorem State.configureInput_frame (s : State) (i : Input) (x : InputSettings) :
    (s.configureInput i x).powered = s.powered ∧
    (s.configureInput i x).ready = s.ready ∧
    (s.configureInput i x).straps = s.straps ∧
    (s.configureInput i x).clock = s.clock ∧
    (s.configureInput i x).scanner = s.scanner ∧
    (s.configureInput i x).probes = s.probes ∧
    (s.configureInput i x).statistics = s.statistics ∧
    (s.configureInput i x).schedule = s.schedule ∧
    (s.configureInput i x).sampler = s.sampler ∧
    (s.configureInput i x).zones = s.zones ∧
    (s.configureInput i x).history = s.history ∧
    (s.configureInput i x).link = s.link ∧
    (s.configureInput i x).memory = s.memory ∧
    (s.configureInput i x).pending = s.pending := by
  unfold State.configureInput; (repeat' split) <;> simp

@[simp] theorem State.expireConfirm_frame (s : State) :
    (s.expireConfirm).powered = s.powered ∧
    (s.expireConfirm).ready = s.ready ∧
    (s.expireConfirm).straps = s.straps ∧
    (s.expireConfirm).clock = s.clock ∧
    (s.expireConfirm).settings = s.settings ∧
    (s.expireConfirm).scanner = s.scanner ∧
    (s.expireConfirm).probes = s.probes ∧
    (s.expireConfirm).statistics = s.statistics ∧
    (s.expireConfirm).schedule = s.schedule ∧
    (s.expireConfirm).sampler = s.sampler ∧
    (s.expireConfirm).zones = s.zones ∧
    (s.expireConfirm).history = s.history ∧
    (s.expireConfirm).link = s.link ∧
    (s.expireConfirm).memory = s.memory ∧
    (s.expireConfirm).pending = s.pending := by
  unfold State.expireConfirm; (repeat' split) <;> simp

@[simp] theorem State.takeCoastEnd_frame (s : State) :
    (s.takeCoastEnd).powered = s.powered ∧
    (s.takeCoastEnd).ready = s.ready ∧
    (s.takeCoastEnd).straps = s.straps ∧
    (s.takeCoastEnd).clock = s.clock ∧
    (s.takeCoastEnd).settings = s.settings ∧
    (s.takeCoastEnd).scanner = s.scanner ∧
    (s.takeCoastEnd).probes = s.probes ∧
    (s.takeCoastEnd).statistics = s.statistics ∧
    (s.takeCoastEnd).schedule = s.schedule ∧
    (s.takeCoastEnd).run = s.run ∧
    (s.takeCoastEnd).sampler = s.sampler ∧
    (s.takeCoastEnd).zones = s.zones ∧
    (s.takeCoastEnd).interlocks = s.interlocks ∧
    (s.takeCoastEnd).history = s.history ∧
    (s.takeCoastEnd).notices = s.notices ∧
    (s.takeCoastEnd).link = s.link ∧
    (s.takeCoastEnd).memory = s.memory ∧
    (s.takeCoastEnd).due = s.due ∧
    (s.takeCoastEnd).draws = s.draws ∧
    (s.takeCoastEnd).pending = s.pending := by
  unfold State.takeCoastEnd; (repeat' split) <;> simp

@[simp] theorem State.takeConfirmExpiry_frame (s : State) :
    (s.takeConfirmExpiry).powered = s.powered ∧
    (s.takeConfirmExpiry).ready = s.ready ∧
    (s.takeConfirmExpiry).straps = s.straps ∧
    (s.takeConfirmExpiry).clock = s.clock ∧
    (s.takeConfirmExpiry).settings = s.settings ∧
    (s.takeConfirmExpiry).scanner = s.scanner ∧
    (s.takeConfirmExpiry).probes = s.probes ∧
    (s.takeConfirmExpiry).statistics = s.statistics ∧
    (s.takeConfirmExpiry).schedule = s.schedule ∧
    (s.takeConfirmExpiry).sampler = s.sampler ∧
    (s.takeConfirmExpiry).zones = s.zones ∧
    (s.takeConfirmExpiry).history = s.history ∧
    (s.takeConfirmExpiry).link = s.link ∧
    (s.takeConfirmExpiry).memory = s.memory ∧
    (s.takeConfirmExpiry).pending = s.pending := by
  unfold State.takeConfirmExpiry; (repeat' split) <;> simp

@[simp] theorem State.noticeFaulted_frame (s : State) (p : Fin 48) (a b : ProbeRecord) :
    (s.noticeFaulted p a b).powered = s.powered ∧
    (s.noticeFaulted p a b).ready = s.ready ∧
    (s.noticeFaulted p a b).straps = s.straps ∧
    (s.noticeFaulted p a b).clock = s.clock ∧
    (s.noticeFaulted p a b).settings = s.settings ∧
    (s.noticeFaulted p a b).scanner = s.scanner ∧
    (s.noticeFaulted p a b).probes = s.probes ∧
    (s.noticeFaulted p a b).statistics = s.statistics ∧
    (s.noticeFaulted p a b).schedule = s.schedule ∧
    (s.noticeFaulted p a b).run = s.run ∧
    (s.noticeFaulted p a b).sampler = s.sampler ∧
    (s.noticeFaulted p a b).zones = s.zones ∧
    (s.noticeFaulted p a b).outputs = s.outputs ∧
    (s.noticeFaulted p a b).fans = s.fans ∧
    (s.noticeFaulted p a b).interlocks = s.interlocks ∧
    (s.noticeFaulted p a b).history = s.history ∧
    (s.noticeFaulted p a b).link = s.link ∧
    (s.noticeFaulted p a b).memory = s.memory ∧
    (s.noticeFaulted p a b).due = s.due ∧
    (s.noticeFaulted p a b).draws = s.draws ∧
    (s.noticeFaulted p a b).pending = s.pending := by
  unfold State.noticeFaulted; (repeat' split) <;> simp

@[simp] theorem State.applyReading_frame (s : State) (p : Fin 48) (r : Fin 4) (x : Reading) :
    (s.applyReading p r x).powered = s.powered ∧
    (s.applyReading p r x).ready = s.ready ∧
    (s.applyReading p r x).straps = s.straps ∧
    (s.applyReading p r x).clock = s.clock ∧
    (s.applyReading p r x).settings = s.settings ∧
    (s.applyReading p r x).scanner = s.scanner ∧
    (s.applyReading p r x).statistics = s.statistics ∧
    (s.applyReading p r x).schedule = s.schedule ∧
    (s.applyReading p r x).run = s.run ∧
    (s.applyReading p r x).sampler = s.sampler ∧
    (s.applyReading p r x).zones = s.zones ∧
    (s.applyReading p r x).outputs = s.outputs ∧
    (s.applyReading p r x).fans = s.fans ∧
    (s.applyReading p r x).interlocks = s.interlocks ∧
    (s.applyReading p r x).history = s.history ∧
    (s.applyReading p r x).link = s.link ∧
    (s.applyReading p r x).memory = s.memory ∧
    (s.applyReading p r x).due = s.due ∧
    (s.applyReading p r x).draws = s.draws ∧
    (s.applyReading p r x).pending = s.pending := by
  simp [State.applyReading]

@[simp] theorem State.noticeQuorum_frame (s : State) (p : Publication) :
    (s.noticeQuorum p).powered = s.powered ∧
    (s.noticeQuorum p).ready = s.ready ∧
    (s.noticeQuorum p).straps = s.straps ∧
    (s.noticeQuorum p).clock = s.clock ∧
    (s.noticeQuorum p).settings = s.settings ∧
    (s.noticeQuorum p).scanner = s.scanner ∧
    (s.noticeQuorum p).probes = s.probes ∧
    (s.noticeQuorum p).statistics = s.statistics ∧
    (s.noticeQuorum p).schedule = s.schedule ∧
    (s.noticeQuorum p).run = s.run ∧
    (s.noticeQuorum p).sampler = s.sampler ∧
    (s.noticeQuorum p).zones = s.zones ∧
    (s.noticeQuorum p).outputs = s.outputs ∧
    (s.noticeQuorum p).fans = s.fans ∧
    (s.noticeQuorum p).interlocks = s.interlocks ∧
    (s.noticeQuorum p).history = s.history ∧
    (s.noticeQuorum p).link = s.link ∧
    (s.noticeQuorum p).memory = s.memory ∧
    (s.noticeQuorum p).due = s.due ∧
    (s.noticeQuorum p).draws = s.draws ∧
    (s.noticeQuorum p).pending = s.pending := by
  unfold State.noticeQuorum; (repeat' split) <;> simp

@[simp] theorem State.publish_frame (s : State) (n : Nat) :
    (s.publish n).powered = s.powered ∧
    (s.publish n).ready = s.ready ∧
    (s.publish n).straps = s.straps ∧
    (s.publish n).clock = s.clock ∧
    (s.publish n).settings = s.settings ∧
    (s.publish n).scanner = s.scanner ∧
    (s.publish n).probes = s.probes ∧
    (s.publish n).sampler = s.sampler ∧
    (s.publish n).interlocks = s.interlocks ∧
    (s.publish n).link = s.link ∧
    (s.publish n).memory = s.memory ∧
    (s.publish n).draws = s.draws ∧
    (s.publish n).pending = s.pending := by
  unfold State.publish; simp

@[simp] theorem State.publishScan_frame (s : State) :
    (s.publishScan).powered = s.powered ∧
    (s.publishScan).ready = s.ready ∧
    (s.publishScan).straps = s.straps ∧
    (s.publishScan).clock = s.clock ∧
    (s.publishScan).settings = s.settings ∧
    (s.publishScan).probes = s.probes ∧
    (s.publishScan).sampler = s.sampler ∧
    (s.publishScan).interlocks = s.interlocks ∧
    (s.publishScan).link = s.link ∧
    (s.publishScan).memory = s.memory ∧
    (s.publishScan).draws = s.draws ∧
    (s.publishScan).pending = s.pending := by
  unfold State.publishScan; simp

@[simp] theorem State.startScan_frame (s : State) :
    (s.startScan).powered = s.powered ∧
    (s.startScan).ready = s.ready ∧
    (s.startScan).straps = s.straps ∧
    (s.startScan).clock = s.clock ∧
    (s.startScan).settings = s.settings ∧
    (s.startScan).probes = s.probes ∧
    (s.startScan).sampler = s.sampler ∧
    (s.startScan).interlocks = s.interlocks ∧
    (s.startScan).link = s.link ∧
    (s.startScan).memory = s.memory ∧
    (s.startScan).draws = s.draws ∧
    (s.startScan).pending = s.pending := by
  simp only [State.startScan]; (repeat' split) <;> simp

@[simp] theorem State.completeScan_frame (s : State) :
    (s.completeScan).powered = s.powered ∧
    (s.completeScan).ready = s.ready ∧
    (s.completeScan).straps = s.straps ∧
    (s.completeScan).clock = s.clock ∧
    (s.completeScan).settings = s.settings ∧
    (s.completeScan).probes = s.probes ∧
    (s.completeScan).sampler = s.sampler ∧
    (s.completeScan).interlocks = s.interlocks ∧
    (s.completeScan).link = s.link ∧
    (s.completeScan).memory = s.memory ∧
    (s.completeScan).draws = s.draws ∧
    (s.completeScan).pending = s.pending := by
  simp only [State.completeScan]; (repeat' split) <;> simp

@[simp] theorem State.advanceScan_frame (s : State) (p : Fin 48) :
    (s.advanceScan p).powered = s.powered ∧
    (s.advanceScan p).ready = s.ready ∧
    (s.advanceScan p).straps = s.straps ∧
    (s.advanceScan p).clock = s.clock ∧
    (s.advanceScan p).settings = s.settings ∧
    (s.advanceScan p).probes = s.probes ∧
    (s.advanceScan p).sampler = s.sampler ∧
    (s.advanceScan p).interlocks = s.interlocks ∧
    (s.advanceScan p).link = s.link ∧
    (s.advanceScan p).memory = s.memory ∧
    (s.advanceScan p).draws = s.draws ∧
    (s.advanceScan p).pending = s.pending := by
  unfold State.advanceScan; (repeat' split) <;> simp

@[simp] theorem State.handOver_frame (s : State) (m : Measurement) (o : Outcome) (a : Nat) (b : Option Nat) :
    (s.handOver m o a b).powered = s.powered ∧
    (s.handOver m o a b).ready = s.ready ∧
    (s.handOver m o a b).straps = s.straps ∧
    (s.handOver m o a b).clock = s.clock ∧
    (s.handOver m o a b).settings = s.settings ∧
    (s.handOver m o a b).scanner = s.scanner ∧
    (s.handOver m o a b).statistics = s.statistics ∧
    (s.handOver m o a b).schedule = s.schedule ∧
    (s.handOver m o a b).run = s.run ∧
    (s.handOver m o a b).sampler = s.sampler ∧
    (s.handOver m o a b).zones = s.zones ∧
    (s.handOver m o a b).outputs = s.outputs ∧
    (s.handOver m o a b).fans = s.fans ∧
    (s.handOver m o a b).interlocks = s.interlocks ∧
    (s.handOver m o a b).history = s.history ∧
    (s.handOver m o a b).link = s.link ∧
    (s.handOver m o a b).memory = s.memory ∧
    (s.handOver m o a b).due = s.due ∧
    (s.handOver m o a b).draws = s.draws ∧
    (s.handOver m o a b).pending = s.pending := by
  unfold State.handOver; (repeat' split) <;> simp

@[simp] theorem State.endMeasurement_frame (s : State) (m : Measurement) (o : Outcome) (a : Nat) (b : Option Nat) :
    (s.endMeasurement m o a b).powered = s.powered ∧
    (s.endMeasurement m o a b).ready = s.ready ∧
    (s.endMeasurement m o a b).straps = s.straps ∧
    (s.endMeasurement m o a b).clock = s.clock ∧
    (s.endMeasurement m o a b).settings = s.settings ∧
    (s.endMeasurement m o a b).sampler = s.sampler ∧
    (s.endMeasurement m o a b).interlocks = s.interlocks ∧
    (s.endMeasurement m o a b).link = s.link ∧
    (s.endMeasurement m o a b).memory = s.memory ∧
    (s.endMeasurement m o a b).draws = s.draws ∧
    (s.endMeasurement m o a b).pending = s.pending := by
  unfold State.endMeasurement; simp

@[simp] theorem State.positiveCount_frame (s : State) (m : Measurement) (n : Nat) :
    (s.positiveCount m n).powered = s.powered ∧
    (s.positiveCount m n).ready = s.ready ∧
    (s.positiveCount m n).straps = s.straps ∧
    (s.positiveCount m n).clock = s.clock ∧
    (s.positiveCount m n).settings = s.settings ∧
    (s.positiveCount m n).sampler = s.sampler ∧
    (s.positiveCount m n).interlocks = s.interlocks ∧
    (s.positiveCount m n).link = s.link ∧
    (s.positiveCount m n).memory = s.memory ∧
    (s.positiveCount m n).draws = s.draws ∧
    (s.positiveCount m n).pending = s.pending := by
  unfold State.positiveCount; (repeat' split) <;> simp

@[simp] theorem State.countEnds_frame (s : State) (n : Nat) :
    (s.countEnds n).powered = s.powered ∧
    (s.countEnds n).ready = s.ready ∧
    (s.countEnds n).straps = s.straps ∧
    (s.countEnds n).clock = s.clock ∧
    (s.countEnds n).settings = s.settings ∧
    (s.countEnds n).sampler = s.sampler ∧
    (s.countEnds n).interlocks = s.interlocks ∧
    (s.countEnds n).link = s.link ∧
    (s.countEnds n).memory = s.memory ∧
    (s.countEnds n).draws = s.draws ∧
    (s.countEnds n).pending = s.pending := by
  unfold State.countEnds; (repeat' split) <;> simp

@[simp] theorem State.settleEnds_frame (s : State) :
    (s.settleEnds).powered = s.powered ∧
    (s.settleEnds).ready = s.ready ∧
    (s.settleEnds).straps = s.straps ∧
    (s.settleEnds).clock = s.clock ∧
    (s.settleEnds).settings = s.settings ∧
    (s.settleEnds).probes = s.probes ∧
    (s.settleEnds).statistics = s.statistics ∧
    (s.settleEnds).schedule = s.schedule ∧
    (s.settleEnds).run = s.run ∧
    (s.settleEnds).sampler = s.sampler ∧
    (s.settleEnds).zones = s.zones ∧
    (s.settleEnds).outputs = s.outputs ∧
    (s.settleEnds).fans = s.fans ∧
    (s.settleEnds).interlocks = s.interlocks ∧
    (s.settleEnds).history = s.history ∧
    (s.settleEnds).notices = s.notices ∧
    (s.settleEnds).link = s.link ∧
    (s.settleEnds).memory = s.memory ∧
    (s.settleEnds).due = s.due ∧
    (s.settleEnds).draws = s.draws ∧
    (s.settleEnds).pending = s.pending := by
  unfold State.settleEnds; (repeat' split) <;> simp

@[simp] theorem State.discardFor_frame (s : State) (p : Fin 48) :
    (s.discardFor p).powered = s.powered ∧
    (s.discardFor p).ready = s.ready ∧
    (s.discardFor p).straps = s.straps ∧
    (s.discardFor p).clock = s.clock ∧
    (s.discardFor p).settings = s.settings ∧
    (s.discardFor p).probes = s.probes ∧
    (s.discardFor p).sampler = s.sampler ∧
    (s.discardFor p).interlocks = s.interlocks ∧
    (s.discardFor p).link = s.link ∧
    (s.discardFor p).memory = s.memory ∧
    (s.discardFor p).draws = s.draws ∧
    (s.discardFor p).pending = s.pending := by
  unfold State.discardFor; (repeat' split) <;> simp

@[simp] theorem State.discardAny_frame (s : State) :
    (s.discardAny).powered = s.powered ∧
    (s.discardAny).ready = s.ready ∧
    (s.discardAny).straps = s.straps ∧
    (s.discardAny).clock = s.clock ∧
    (s.discardAny).settings = s.settings ∧
    (s.discardAny).probes = s.probes ∧
    (s.discardAny).sampler = s.sampler ∧
    (s.discardAny).interlocks = s.interlocks ∧
    (s.discardAny).link = s.link ∧
    (s.discardAny).memory = s.memory ∧
    (s.discardAny).draws = s.draws ∧
    (s.discardAny).pending = s.pending := by
  unfold State.discardAny; (repeat' split) <;> simp

@[simp] theorem State.takeScanExpiry_frame (s : State) :
    (s.takeScanExpiry).powered = s.powered ∧
    (s.takeScanExpiry).ready = s.ready ∧
    (s.takeScanExpiry).straps = s.straps ∧
    (s.takeScanExpiry).clock = s.clock ∧
    (s.takeScanExpiry).settings = s.settings ∧
    (s.takeScanExpiry).probes = s.probes ∧
    (s.takeScanExpiry).sampler = s.sampler ∧
    (s.takeScanExpiry).interlocks = s.interlocks ∧
    (s.takeScanExpiry).link = s.link ∧
    (s.takeScanExpiry).memory = s.memory ∧
    (s.takeScanExpiry).draws = s.draws ∧
    (s.takeScanExpiry).pending = s.pending := by
  unfold State.takeScanExpiry; (repeat' split) <;> simp

@[simp] theorem State.scanEnabled_frame (s : State) :
    (s.scanEnabled).powered = s.powered ∧
    (s.scanEnabled).ready = s.ready ∧
    (s.scanEnabled).straps = s.straps ∧
    (s.scanEnabled).clock = s.clock ∧
    (s.scanEnabled).settings = s.settings ∧
    (s.scanEnabled).probes = s.probes ∧
    (s.scanEnabled).sampler = s.sampler ∧
    (s.scanEnabled).interlocks = s.interlocks ∧
    (s.scanEnabled).link = s.link ∧
    (s.scanEnabled).memory = s.memory ∧
    (s.scanEnabled).draws = s.draws ∧
    (s.scanEnabled).pending = s.pending := by
  unfold State.scanEnabled; (repeat' split) <;> simp

@[simp] theorem State.scanDisabled_frame (s : State) :
    (s.scanDisabled).powered = s.powered ∧
    (s.scanDisabled).ready = s.ready ∧
    (s.scanDisabled).straps = s.straps ∧
    (s.scanDisabled).clock = s.clock ∧
    (s.scanDisabled).settings = s.settings ∧
    (s.scanDisabled).probes = s.probes ∧
    (s.scanDisabled).statistics = s.statistics ∧
    (s.scanDisabled).schedule = s.schedule ∧
    (s.scanDisabled).run = s.run ∧
    (s.scanDisabled).sampler = s.sampler ∧
    (s.scanDisabled).zones = s.zones ∧
    (s.scanDisabled).outputs = s.outputs ∧
    (s.scanDisabled).fans = s.fans ∧
    (s.scanDisabled).interlocks = s.interlocks ∧
    (s.scanDisabled).history = s.history ∧
    (s.scanDisabled).notices = s.notices ∧
    (s.scanDisabled).link = s.link ∧
    (s.scanDisabled).memory = s.memory ∧
    (s.scanDisabled).due = s.due ∧
    (s.scanDisabled).draws = s.draws ∧
    (s.scanDisabled).pending = s.pending := by
  unfold State.scanDisabled; (repeat' split) <;> simp

@[simp] theorem State.intervalChanged_frame (s : State) :
    (s.intervalChanged).powered = s.powered ∧
    (s.intervalChanged).ready = s.ready ∧
    (s.intervalChanged).straps = s.straps ∧
    (s.intervalChanged).clock = s.clock ∧
    (s.intervalChanged).settings = s.settings ∧
    (s.intervalChanged).probes = s.probes ∧
    (s.intervalChanged).sampler = s.sampler ∧
    (s.intervalChanged).interlocks = s.interlocks ∧
    (s.intervalChanged).link = s.link ∧
    (s.intervalChanged).memory = s.memory ∧
    (s.intervalChanged).draws = s.draws ∧
    (s.intervalChanged).pending = s.pending := by
  unfold State.intervalChanged; (repeat' split) <;> simp

@[simp] theorem State.writeScanConfig_frame (s : State) (a : Nat) (b : Bool) (c : Nat) :
    (s.writeScanConfig a b c).powered = s.powered ∧
    (s.writeScanConfig a b c).ready = s.ready ∧
    (s.writeScanConfig a b c).straps = s.straps ∧
    (s.writeScanConfig a b c).clock = s.clock ∧
    (s.writeScanConfig a b c).probes = s.probes ∧
    (s.writeScanConfig a b c).sampler = s.sampler ∧
    (s.writeScanConfig a b c).interlocks = s.interlocks ∧
    (s.writeScanConfig a b c).link = s.link ∧
    (s.writeScanConfig a b c).memory = s.memory ∧
    (s.writeScanConfig a b c).draws = s.draws ∧
    (s.writeScanConfig a b c).pending = s.pending := by
  unfold State.writeScanConfig; (repeat' split) <;> simp

@[simp] theorem State.replaceRecord_frame (s : State) (p : Fin 48) (r : ProbeRecord) :
    (s.replaceRecord p r).powered = s.powered ∧
    (s.replaceRecord p r).ready = s.ready ∧
    (s.replaceRecord p r).straps = s.straps ∧
    (s.replaceRecord p r).clock = s.clock ∧
    (s.replaceRecord p r).settings = s.settings ∧
    (s.replaceRecord p r).sampler = s.sampler ∧
    (s.replaceRecord p r).interlocks = s.interlocks ∧
    (s.replaceRecord p r).link = s.link ∧
    (s.replaceRecord p r).memory = s.memory ∧
    (s.replaceRecord p r).draws = s.draws ∧
    (s.replaceRecord p r).pending = s.pending := by
  unfold State.replaceRecord; simp

@[simp] theorem State.resetProbes_frame (s : State) :
    (s.resetProbes).powered = s.powered ∧
    (s.resetProbes).ready = s.ready ∧
    (s.resetProbes).straps = s.straps ∧
    (s.resetProbes).clock = s.clock ∧
    (s.resetProbes).settings = s.settings ∧
    (s.resetProbes).sampler = s.sampler ∧
    (s.resetProbes).interlocks = s.interlocks ∧
    (s.resetProbes).link = s.link ∧
    (s.resetProbes).memory = s.memory ∧
    (s.resetProbes).draws = s.draws ∧
    (s.resetProbes).pending = s.pending := by
  unfold State.resetProbes; simp

@[simp] theorem State.countMinute_frame (s : State) :
    (s.countMinute).powered = s.powered ∧
    (s.countMinute).ready = s.ready ∧
    (s.countMinute).straps = s.straps ∧
    (s.countMinute).clock = s.clock ∧
    (s.countMinute).settings = s.settings ∧
    (s.countMinute).probes = s.probes ∧
    (s.countMinute).statistics = s.statistics ∧
    (s.countMinute).schedule = s.schedule ∧
    (s.countMinute).sampler = s.sampler ∧
    (s.countMinute).zones = s.zones ∧
    (s.countMinute).outputs = s.outputs ∧
    (s.countMinute).interlocks = s.interlocks ∧
    (s.countMinute).history = s.history ∧
    (s.countMinute).notices = s.notices ∧
    (s.countMinute).link = s.link ∧
    (s.countMinute).memory = s.memory ∧
    (s.countMinute).draws = s.draws ∧
    (s.countMinute).pending = s.pending := by
  unfold State.countMinute; simp

@[simp] theorem State.countSecond_frame (s : State) :
    (s.countSecond).powered = s.powered ∧
    (s.countSecond).ready = s.ready ∧
    (s.countSecond).straps = s.straps ∧
    (s.countSecond).settings = s.settings ∧
    (s.countSecond).probes = s.probes ∧
    (s.countSecond).statistics = s.statistics ∧
    (s.countSecond).schedule = s.schedule ∧
    (s.countSecond).zones = s.zones ∧
    (s.countSecond).outputs = s.outputs ∧
    (s.countSecond).interlocks = s.interlocks ∧
    (s.countSecond).history = s.history ∧
    (s.countSecond).notices = s.notices ∧
    (s.countSecond).link = s.link ∧
    (s.countSecond).memory = s.memory ∧
    (s.countSecond).draws = s.draws ∧
    (s.countSecond).pending = s.pending := by
  unfold State.countSecond; (repeat' split) <;> simp

@[simp] theorem State.takeSet_frame (s : State) (x : Zones ZoneSamples) :
    (s.takeSet x).powered = s.powered ∧
    (s.takeSet x).ready = s.ready ∧
    (s.takeSet x).straps = s.straps ∧
    (s.takeSet x).clock = s.clock ∧
    (s.takeSet x).settings = s.settings ∧
    (s.takeSet x).scanner = s.scanner ∧
    (s.takeSet x).probes = s.probes ∧
    (s.takeSet x).statistics = s.statistics ∧
    (s.takeSet x).interlocks = s.interlocks ∧
    (s.takeSet x).history = s.history ∧
    (s.takeSet x).link = s.link ∧
    (s.takeSet x).memory = s.memory ∧
    (s.takeSet x).draws = s.draws ∧
    (s.takeSet x).pending = s.pending := by
  unfold State.takeSet; simp

@[simp] theorem State.activateZone_frame (s : State) (z : ZoneId) :
    (s.activateZone z).powered = s.powered ∧
    (s.activateZone z).ready = s.ready ∧
    (s.activateZone z).straps = s.straps ∧
    (s.activateZone z).clock = s.clock ∧
    (s.activateZone z).settings = s.settings ∧
    (s.activateZone z).scanner = s.scanner ∧
    (s.activateZone z).probes = s.probes ∧
    (s.activateZone z).statistics = s.statistics ∧
    (s.activateZone z).schedule = s.schedule ∧
    (s.activateZone z).run = s.run ∧
    (s.activateZone z).sampler = s.sampler ∧
    (s.activateZone z).outputs = s.outputs ∧
    (s.activateZone z).fans = s.fans ∧
    (s.activateZone z).interlocks = s.interlocks ∧
    (s.activateZone z).history = s.history ∧
    (s.activateZone z).notices = s.notices ∧
    (s.activateZone z).link = s.link ∧
    (s.activateZone z).memory = s.memory ∧
    (s.activateZone z).due = s.due ∧
    (s.activateZone z).draws = s.draws ∧
    (s.activateZone z).pending = s.pending := by
  unfold State.activateZone; (repeat' split) <;> simp

@[simp] theorem State.deactivateZone_frame (s : State) (z : ZoneId) :
    (s.deactivateZone z).powered = s.powered ∧
    (s.deactivateZone z).ready = s.ready ∧
    (s.deactivateZone z).straps = s.straps ∧
    (s.deactivateZone z).clock = s.clock ∧
    (s.deactivateZone z).settings = s.settings ∧
    (s.deactivateZone z).scanner = s.scanner ∧
    (s.deactivateZone z).probes = s.probes ∧
    (s.deactivateZone z).statistics = s.statistics ∧
    (s.deactivateZone z).schedule = s.schedule ∧
    (s.deactivateZone z).run = s.run ∧
    (s.deactivateZone z).sampler = s.sampler ∧
    (s.deactivateZone z).fans = s.fans ∧
    (s.deactivateZone z).interlocks = s.interlocks ∧
    (s.deactivateZone z).history = s.history ∧
    (s.deactivateZone z).notices = s.notices ∧
    (s.deactivateZone z).link = s.link ∧
    (s.deactivateZone z).memory = s.memory ∧
    (s.deactivateZone z).due = s.due ∧
    (s.deactivateZone z).draws = s.draws ∧
    (s.deactivateZone z).pending = s.pending := by
  unfold State.deactivateZone; simp

@[simp] theorem State.writeZone_frame (s : State) (z : ZoneId) (g : ZoneSettings) (n : Nat) :
    (s.writeZone z g n).powered = s.powered ∧
    (s.writeZone z g n).ready = s.ready ∧
    (s.writeZone z g n).straps = s.straps ∧
    (s.writeZone z g n).clock = s.clock ∧
    (s.writeZone z g n).scanner = s.scanner ∧
    (s.writeZone z g n).probes = s.probes ∧
    (s.writeZone z g n).statistics = s.statistics ∧
    (s.writeZone z g n).schedule = s.schedule ∧
    (s.writeZone z g n).run = s.run ∧
    (s.writeZone z g n).fans = s.fans ∧
    (s.writeZone z g n).interlocks = s.interlocks ∧
    (s.writeZone z g n).history = s.history ∧
    (s.writeZone z g n).notices = s.notices ∧
    (s.writeZone z g n).link = s.link ∧
    (s.writeZone z g n).memory = s.memory ∧
    (s.writeZone z g n).due = s.due ∧
    (s.writeZone z g n).draws = s.draws ∧
    (s.writeZone z g n).pending = s.pending := by
  unfold State.writeZone
  dsimp only
  generalize (s.zoneSettings z).active = a
  generalize (s.zoneSettings z).woodFitted = w
  cases a <;> cases g.active <;> cases w <;> cases g.woodFitted <;> simp

@[simp] theorem State.writeFanConfig_frame (s : State) (a b c d e : Nat) :
    (s.writeFanConfig a b c d e).powered = s.powered ∧
    (s.writeFanConfig a b c d e).ready = s.ready ∧
    (s.writeFanConfig a b c d e).straps = s.straps ∧
    (s.writeFanConfig a b c d e).clock = s.clock ∧
    (s.writeFanConfig a b c d e).scanner = s.scanner ∧
    (s.writeFanConfig a b c d e).probes = s.probes ∧
    (s.writeFanConfig a b c d e).statistics = s.statistics ∧
    (s.writeFanConfig a b c d e).schedule = s.schedule ∧
    (s.writeFanConfig a b c d e).sampler = s.sampler ∧
    (s.writeFanConfig a b c d e).zones = s.zones ∧
    (s.writeFanConfig a b c d e).history = s.history ∧
    (s.writeFanConfig a b c d e).link = s.link ∧
    (s.writeFanConfig a b c d e).memory = s.memory ∧
    (s.writeFanConfig a b c d e).pending = s.pending := by
  unfold State.writeFanConfig; simp

end Sys2Proof.Machine
end

