-- ==== Sys2Proof/Laws/Events.lean ====
section
/-! SUPPORT. What one event comes to when nothing is due, and what each shared operation can do, said once. -/

namespace Sys2Proof.Machine

/-! ### Nothing due -/

theorem Due.minuteWork_none : Due.none.minuteWork = false := rfl

theorem State.finishEvent_of_no_request (s : State) (h : s.due.checkpoint = false) : s.finishEvent = s := by
  simp [State.finishEvent, h]

theorem State.finishEvent_of_due_none (s : State) (h : s.due = .none) : s.finishEvent = s :=
  s.finishEvent_of_no_request (by simp [h, Due.none])

/-- With no minute work due there is none to take. -/
theorem State.takeMinuteWork_of_due_none (s : State) (h : s.due = .none) : s.takeMinuteWork = s := by
  have hhours : s.takeHours = s := by simp [State.takeHours, h, Due.none]
  have hsettle : s.takeSettle = s := by simp [State.takeSettle, h, Due.none]
  have htime : s.takeTimeout = s := by simp [State.takeTimeout, hhours, hsettle, h, Due.none]
  have hhour : s.takeHourCheckpoint = s := by simp [State.takeHourCheckpoint, h, Due.none]
  simp [State.takeMinuteWork, htime, hhour, s.finishEvent_of_due_none h]

/-- Every operation of `takeDue` leaves a quiet state as it is. -/
theorem State.takeDue_of_quiet (s : State) (h : s.Quiet) : s.takeDue = s := by
  obtain ⟨hd, hc, hf, hs, hr, hl⟩ := h
  have hcoast : s.takeCoastEnd = s := by simp [State.takeCoastEnd, hc]
  have hconf : s.takeConfirmExpiry = s := by simp [State.takeConfirmExpiry, hf]
  have hscan : s.takeScanExpiry = s := by simp [State.takeScanExpiry, hs]
  have hrev : s.checkReversal = s := by simp [State.checkReversal, hr]
  have hrest : s.takeRestart = s := by simp [State.takeRestart, hl]
  simp [State.takeDue, s.takeMinuteWork_of_due_none hd, hcoast, hconf, hscan, hrev, hrest, s.finishEvent_of_due_none hd]

/-- A quiet state has nothing to catch up with. -/
theorem State.caughtUp_of_quiet (s : State) (h : s.Quiet) : s.caughtUp = s := by
  simp [State.caughtUp, s.takeDue_of_quiet h]

/-- With no minute work due, an event that waits for it is its own effect. -/
theorem State.afterMinute_of_due_none (s : State) (h : s.due = .none) (f : State → State) :
    s.afterMinute f = s.dueEvent f := by
  simp [State.afterMinute, State.dueEvent, s.takeMinuteWork_of_due_none h]

/-- An event of an awake part is its own effect and the checkpoint it asked for. -/
theorem State.event_of_awake (s : State) (h : s.Awake) (f : State → State) : s.event f = (f s).finishEvent := by
  simp [State.event, h.1, s.takeDue_of_quiet h.2]

/-- A request met in HUNT is accepted. -/
theorem State.request_of_hunt (s : State) (h : s.link.receiver = .hunt) (kind tag : Byte) (payload : List Byte) :
    s.request kind tag payload = s.accept kind tag payload := by
  simp [State.request, h]

/-- A request of the catalogue taken by a receptive part: the handler, the reply, and the checkpoint it asked for. -/
theorem State.request_event (s : State) (h : s.Receptive) (kind tag : Byte) (payload : List Byte)
    (f : List Byte → State → State × Reply) (hf : handlerOf kind.toNat = some f) :
    (s.event fun t => t.request kind tag payload) =
      ((f payload s).1.answer kind tag (f payload s).2).finishEvent := by
  obtain ⟨ha, hr, hl⟩ := h
  rw [s.event_of_awake ha, s.request_of_hunt hl]
  simp [State.accept, State.dispatch, hf, hr]

/-- A refused length answers BAD_LENGTH, with the part of the record its first byte names or with none. -/
theorem refusedLength_cases {α : Type} (named : Nat → Option α) (part : α → List Byte) (payload : List Byte) :
    (∃ b rest x, payload = b :: rest ∧ named b.toNat = some x ∧
      refusedLength named part payload = .of .badLength (part x)) ∨
    ((∀ b rest, payload = b :: rest → named b.toNat = none) ∧
      refusedLength named part payload = .of .badLength []) := by
  unfold refusedLength
  cases payload with
  | nil => exact .inr ⟨fun _ _ h => by simp at h, rfl⟩
  | cons b rest =>
    cases h : named b.toNat with
    | none => exact .inr ⟨fun _ _ e => by cases e; exact h, by simp [h]⟩
    | some x => exact .inl ⟨b, rest, x, rfl, h, by simp [h]⟩

/-! ### The run clocks (R87) -/

/-- R87: a minute event keeps the step minutes from exceeding the total. -/
theorem Run.countMinute_clocks (r : Run) (minute : Nat) (h : r.stepMinutes ≤ r.totalMinutes) :
    (r.countMinute minute).stepMinutes ≤ (r.countMinute minute).totalMinutes := by
  unfold Run.countMinute Run.nextStepMinutes bumpMinutes
  by_cases hr : r.state = .running <;> by_cases hp : r.state.inProgress = true <;>
    simp_all [RunState.inProgress] <;> (repeat' split) <;> omega

/-! ### The end of an event (R106, R175) -/

/-- `finishEvent` leaves a state as it is, or makes the one checkpoint request of the event. -/
theorem State.finishEvent_cases (s : State) :
    s.finishEvent = s ∨
    (s.due.checkpoint = true ∧ s.due.minuteWork = false ∧
      s.finishEvent =
        { s with memory := s.memory.requestCheckpoint s.checkpointNow, due := { s.due with checkpoint := false } }) := by
  unfold State.finishEvent
  split
  · rename_i h
    simp only [Bool.and_eq_true, Bool.not_eq_true'] at h
    exact .inr ⟨h.1, h.2, rfl⟩
  · exact .inl rfl

/-- R175: a checkpoint request starts a write with nothing in flight, and takes the slot otherwise. -/
theorem Memory.requestCheckpoint_cases (m : Memory) (c : Checkpoint) :
    (m.op = .none ∧ m.requestCheckpoint c = m.startCheckpoint c) ∨
    (m.op ≠ .none ∧ m.requestCheckpoint c = { m with pendingCheckpoint := some c }) := by
  unfold Memory.requestCheckpoint
  cases h : m.op <;> simp

/-! ### Notices and frames (R155, R159) -/

theorem markLost_length (xs : List Notice) : (markLost xs).length = xs.length := by cases xs <;> rfl

theorem markSlip_length (xs : List Frame) : (markSlip xs).length = xs.length := by cases xs <;> rfl

/-- R159: the queue keeps its bound. -/
theorem pushNotice_length (xs : List Notice) (n : Notice) (h : xs.length ≤ 32) : (pushNotice xs n).length ≤ 32 := by
  unfold pushNotice
  split
  · simp; omega
  · simp [markLost_length]; omega

/-- R155: the ring keeps its bound. -/
theorem History.append_length (r : History) (f : Frame) (h : r.frames.length ≤ 96) :
    (r.append f).frames.length ≤ 96 := by
  unfold History.append
  split
  · simp; omega
  · simp [markSlip_length]; omega

/-! ### The hold-reason set (R97) -/

@[simp] theorem HoldSet.has_put_self (x : HoldSet) (r : HoldReason) (b : Bool) : (x.put r b).has r = b := by
  cases r <;> rfl

theorem HoldSet.has_put_ne (x : HoldSet) (r q : HoldReason) (b : Bool) (h : q ≠ r) :
    (x.put r b).has q = x.has q := by
  cases r <;> cases q <;> first | rfl | exact absurd rfl h

theorem HoldSet.isEmpty_iff (x : HoldSet) : x.isEmpty = true ↔ ∀ r, x.has r = false := by
  constructor
  · intro h r
    simp [HoldSet.isEmpty] at h
    cases r <;> simp [HoldSet.has, h]
  · intro h
    have a := h .host
    have b := h .timeout
    have c := h .quorum
    have d := h .sensor
    have e := h .interlock
    have f := h .restored
    simp [HoldSet.has] at a b c d e f
    simp [HoldSet.isEmpty, a, b, c, d, e, f]

theorem HoldSet.isEmpty_empty : HoldSet.empty.isEmpty = true := rfl

/-- R97: what adding a reason can do. -/
theorem State.addReason_cases (s : State) (r : HoldReason) :
    (s.run.reasons.has r = true ∧ s.addReason r = s) ∨
    (s.run.reasons.has r = false ∧ (s.addReason r).run.reasons = s.run.reasons.put r true ∧
      (s.addReason r).run.state = (if s.run.state = .running then .held else s.run.state)) := by
  unfold State.addReason
  split
  · exact .inl ⟨‹_›, rfl⟩
  · rename_i hr
    refine .inr ⟨by simpa using hr, ?_⟩
    cases h : s.run.state <;> simp [h]

/-- R97: what removing a reason can do. -/
theorem State.removeReason_cases (s : State) (r : HoldReason) :
    (s.run.reasons.has r = false ∧ s.removeReason r = s) ∨
    (s.run.reasons.has r = true ∧ (s.removeReason r).run.reasons = s.run.reasons.put r false ∧
      (s.removeReason r).run.state =
        (if (s.run.reasons.put r false).isEmpty = true ∧ s.run.state = .held then .running else s.run.state)) := by
  unfold State.removeReason
  split
  · refine .inr ⟨‹_›, ?_⟩
    unfold State.resumeIfEmpty
    split
    · rename_i h
      simp only [Bool.and_eq_true, decide_eq_true_eq] at h
      simp_all
    · rename_i h
      simp only [Bool.and_eq_true, decide_eq_true_eq] at h
      simp_all
  · rename_i hr
    exact .inl ⟨by simpa using hr, rfl⟩

/-! ### Valves and vents (R128 to R132) -/

/-- R128, R132: after a refresh the forcing sets and the vents show their sources. -/
theorem State.refreshOutputs_forcing (s : State) (z : ZoneId) (k : ValveKind) :
    ((s.refreshOutputs.outputs.get z).valve k).forcing = s.forcingFor z k := by
  simp only [State.refreshOutputs, zones_get_map, State.refreshedZone]
  cases k <;> simp only [ZoneOutputs.valve, Valve.refresh] <;> split <;> rfl

theorem Valve.startCycle_forcing (v : Valve) (p : Nat) : (v.startCycle p).forcing = v.forcing := rfl

theorem State.refreshOutputs_vent (s : State) (z : ZoneId) :
    (s.refreshOutputs.outputs.get z).vent =
      { demand := (s.outputs.get z).vent.demand, condition := s.ventConditionFor z
        current :=
          commandedCurrent (s.ventConditionFor z) (s.outputs.get z).vent.demand s.settings.ventSafePosition } := by
  simp [State.refreshOutputs, State.refreshedZone, Vent.refresh]

/-- R128, R130: a refreshed valve is sound. -/
theorem Valve.refresh_sound (v : Valve) (p : Nat) (f : Forcing) (h : v.Sound) : (v.refresh p f).Sound := by
  obtain ⟨h1, h2⟩ := h
  unfold Valve.refresh Valve.Sound
  cases hv : v.forcing.any <;> cases hf : f.any <;> simp_all [Valve.beginForcing, Valve.startCycle]

/-! ### The probe table (R45) -/

/-- R45: a value list keeps its bound of 3. -/
theorem appendValue_length (xs : List Nat) (mc : Nat) (h : xs.length ≤ 3) : (appendValue xs mc).length ≤ 3 := by
  unfold appendValue
  split
  · simp; omega
  · simp; omega

/-- R44 to R50: a reading leaves the assignment of a record. -/
theorem ProbeRecord.apply_assignment (r : ProbeRecord) (limit : Nat) (range : Fin 4) (x : Reading) :
    (r.apply limit range x).assignment = r.assignment := by
  unfold ProbeRecord.apply
  dsimp only
  split
  · unfold ProbeRecord.takeValid
    split <;> (try dsimp only) <;> (repeat' split) <;> rfl
  · unfold ProbeRecord.takeFault
    split <;> (try dsimp only) <;> (repeat' split) <;> rfl
  · rfl

/-- R44: a reading becomes the last reading and writes the range memory. -/
theorem ProbeRecord.apply_last (r : ProbeRecord) (limit : Nat) (range : Fin 4) (x : Reading) :
    (r.apply limit range x).last = some x ∧ (r.apply limit range x).rangeMemory = range := by
  unfold ProbeRecord.apply
  dsimp only
  split
  · unfold ProbeRecord.takeValid
    split <;> (try dsimp only) <;> (repeat' split) <;> exact ⟨rfl, rfl⟩
  · unfold ProbeRecord.takeFault
    split <;> (try dsimp only) <;> (repeat' split) <;> exact ⟨rfl, rfl⟩
  · exact ⟨rfl, rfl⟩

end Sys2Proof.Machine
end

