-- ==== Sys2Proof/Tests/Slice0.lean ====
section
/-! SUPPORT. The model's own tests: ill-formed commands that WellFormed refuses, worked cases and tables of the manual, and
for every statement of Certificates/Slice0/Obligations.lean that has hypotheses a state and operands that meet them. -/

namespace Sys2Proof.Tests

open Sys2Proof.Machine

-- The tests are checked one after another: side by side, each with a stack of its own, they ask for too much memory.
set_option Elab.async false

/-! ### WellFormed refuses each ill-formed command -/

theorem test_wellFormed_count_that_fills_the_counter :
    wellFormed (.thresholdCrossed 65535) = false ∧ wellFormed (.thresholdCrossed 65534) = true := by decide

theorem test_wellFormed_length_bytes_of_frames :
    wellFormed (.frameLengthInvalid 2) = false ∧ wellFormed (.frameLengthInvalid 250) = false ∧
      wellFormed (.frameLengthInvalid 1) = true ∧ wellFormed (.frameLengthInvalid 251) = true := by decide

theorem test_wellFormed_unknown_kind_of_the_catalogue :
    wellFormed (.unknownRequest 0x4A 0 []) = false ∧ wellFormed (.unknownRequest 0x19 0 []) = true ∧
      wellFormed (.unknownRequest 0x80 0 []) = true := by decide

theorem test_wellFormed_payload_too_long :
    wellFormed (.identify 0 (List.replicate 249 0)) = false ∧ wellFormed (.identify 0 (List.replicate 248 0)) = true ∧
      wellFormed (.schedAdoptNow 0 (List.replicate 248 0)) = false ∧
      wellFormed (.zoneBlockReset 0 (List.replicate 248 0)) = false := by decide +kernel

/-! ### Small states -/

/-- A DRY step with an MC_OR_HOURS test and a timeout. -/
def dryStep : StepRecord :=
  { kind := .dry, dbTarget := 300, depression := 20, rampRate := 100, reversalInterval := 60, speed := .low
    test := .mcOrHours, statistic := some .controlling, mcThreshold := some 200, testHours := some 1
    settleMinutes := none, minHours := none, maxHours := some 2, timeoutAction := some .advance }

/-- A COOL step. -/
def coolStep : StepRecord :=
  { kind := .cool, dbTarget := 350, depression := 0, rampRate := 0, reversalInterval := 0, speed := .low
    test := .cooled, statistic := none, mcThreshold := none, testHours := none, settleMinutes := none
    minHours := none, maxHours := none, timeoutAction := none }

/-- A HEATUP step. -/
def heatupStep : StepRecord :=
  { coolStep with kind := .heatup, test := .settled, settleMinutes := some 10 }

/-- A channel that reads 29.0 °C. -/
def warm : Channel := { Channel.cleared with last := some 290, published := some 290 }

/-- A part that is READY, with nothing in flight and every DB and WB reading. -/
def idlePart : State :=
  { State.reset with
    ready := true, memory := { State.reset.memory with op := .none }
    scanner := { Scanner.powerOn with state := .waiting }
    sampler := { Sampler.powerOn with channels := .replicate { db := warm, wb := warm, wood := .cleared } } }.refreshOutputs

/-- The same part in the first of two steps, the fans running forward. -/
def runningPart : State :=
  { idlePart with
    schedule := { bufferA := [dryStep, coolStep], bufferB := [dryStep], active := .a, adoption := none }
    run := { Run.cleared with state := .running, stepIndex := some 0, stepMinutes := 60, totalMinutes := 60 }
    zones := .replicate { ZoneLoops.powerOn with ramp := some (rampFrom dryStep 290) }
    fans :=
      { Fans.powerOn with
        state := .runningFwd, speed := .low, reversalInterval := 60, confirmed := true, expectRunning := true
        compareActive := true }
    interlocks := idlePart.interlocks.set .fanRun { live := true, latch := false, trippedAt := none } }.refreshOutputs

/-- A state whose Probe Scanner is counting at probe 1 in range 3. -/
def counting (s : State) : State :=
  { s with
    scanner :=
      { s.scanner with
        state := .scanning, excitation := .high
        measurement := some { probe := 0, range := 3, attempt := 1, nPlus := none, phase := .counting } }
    probes :=
      setTable s.probes 0
        { ProbeRecord.assigned { zone := .z1, group := 0, role := .control } with
          state := .faulted, faultKind := some .short } }

/-- What the next state of a command shows. -/
def shows {α : Type} (c : Instr) (s : State) (f : State → α) : Option α :=
  match exec c s with
  | .next t => some (f t)
  | .fault _ | .refused _ => none

/-! ### The manual's tables and worked cases -/

/-- R26's table. -/
theorem test_log_resistance_table :
    [logOfCount 0 1024, logOfCount 0 60000, logOfCount 1 1024, logOfCount 1 60000, logOfCount 2 1024, logOfCount 2 60000,
      logOfCount 3 1024, logOfCount 3 60000] = [401, 578, 552, 728, 702, 879, 853, 1029] := by decide +kernel

/-- R115's table. -/
theorem test_setpoint_table :
    [(Ramp.mk 490 0 20 .dry 450 0).setpointAt 60, (Ramp.mk 490 0 20 .dry 450 0).setpointAt 150,
      (Ramp.mk 540 0 30 .dry 600 0).setpointAt 7, (Ramp.mk 540 0 30 .dry 600 0).setpointAt 90,
      (Ramp.mk 540 0 30 .dry 600 0).setpointAt 125, (Ramp.mk 300 0 0 .dry 600 0).setpointAt 0,
      (Ramp.mk 400 0 100 .dry 400 0).setpointAt 30] = [470, 490, 597, 555, 540, 300, 400] := by decide +kernel

/-- Worked case D, and the first two rows of the heat loop at saturation (R118). -/
theorem test_heat_loop_worked_cases :
    ((Loop.mk 420 0 .noRun).evaluate 0 1000 20 30 15).demand = 727 ∧
      ((Loop.mk 420 0 .noRun).evaluate 0 1000 20 30 15).integrator = 427 ∧
      ((Loop.mk 300 0 .noRun).evaluate 0 1000 20 30 60).integrator = 300 ∧
      ((Loop.mk 300 0 .noRun).evaluate 0 1000 20 30 60).demand = 1000 ∧
      ((Loop.mk 300 0 .noRun).evaluate 0 1000 20 30 20).demand = 710 := by decide +kernel

/-- The on-times of 7.1's worked case. -/
theorem test_on_times : latchedOnTime 30 727 = 218 ∧ latchedOnTime 30 655 = 196 ∧ latchedOnTime 30 33 = 0 ∧
    latchedOnTime 30 34 = 10 ∧ latchedOnTime 30 970 = 300 ∧ latchedOnTime 30 967 = 290 ∧ latchedOnTime 30 1000 = 300 := by
  decide +kernel

/-- R132: 4 to 20 mA. -/
theorem test_vent_current : ventCurrent 0 = 4000 ∧ ventCurrent 1000 = 20000 ∧ ventCurrent 500 = 12000 := by decide

/-- R45. -/
theorem test_filter : filteredMc [231, 226, 229] = some 229 ∧ filteredMc [226, 229, 224] = some 226 ∧
    filteredMc [240, 230] = some 230 := by decide

/-- 5.2: a half rounds away from zero; a truncation goes toward it. -/
theorem test_roundings : roundHalfAway (-5) 10 = -1 ∧ roundHalfAway 5 10 = 1 ∧ roundHalfAway (-4) 10 = 0 ∧
    truncDiv (-90) 60 = -1 ∧ truncDiv 450 60 = 7 := by decide

/-- The built-in curve at a point, between two and beyond both ends (R32, R37, R38). -/
theorem test_built_in_curve :
    (Curve.builtIn.points.head?.map fun p => (curveMc p Curve.builtIn.points.tail 700, curveMc p Curve.builtIn.points.tail 725,
      curveMc p Curve.builtIn.points.tail 559, curveMc p Curve.builtIn.points.tail 1101)) =
      some ((170, .none), (160, .none), (300, .wetClamp), (62, .dryClamp)) := by decide +kernel

/-- R164: the register starts at 0xFFFF; the CRC of an empty list and the check value of the polynomial. -/
theorem test_crc : crcOf [] = 0xFFFF ∧ crcOf [0x31, 0x32, 0x33, 0x34, 0x35, 0x36, 0x37, 0x38, 0x39] = 0x29B1 := by
  decide +kernel

/-- R170: the fixed part of a step record has 12 bytes, and the fields marked present follow it. -/
theorem test_step_bytes : dryStep.bytes.length = 20 ∧ coolStep.bytes.length = 12 := by decide

/-- R160: four notices at a time, the pending count as left. -/
theorem test_notice_fetch :
    shows (.noticeFetch 0x21 []) { idlePart with notices := List.replicate 7 ⟨.saveDone, 1, 0, 0, false⟩ }
      (fun t => (t.notices.length, (t.link.reply.map fun x => x.take 9))) =
      some (3, some [0xC3, 1, 46, 0xC2, 0x21, 0, 0, 3, 4]) := by decide +kernel

/-- R159: the 33rd notice pushes the oldest out and marks the next. -/
theorem test_notice_overflow :
    (pushNotice (List.replicate 32 ⟨.saveDone, 1, 0, 0, false⟩) ⟨.sensorFault, 2, 5, 2, false⟩).length = 32 ∧
      ((pushNotice (List.replicate 32 ⟨.saveDone, 1, 0, 0, false⟩) ⟨.sensorFault, 2, 5, 2, false⟩).head?.map
        (·.lostBefore)) = some true := by decide +kernel

/-- R136: FAN_RUN confirms a start; R139: the coast flips the direction with RUN off. -/
theorem test_fans :
    shows (.liveLevelChange .fanRun true)
        { idlePart with run := { Run.cleared with state := .running }, fans := { Fans.powerOn with state := .starting } }
        (fun t => (t.fans.state, t.fans.confirmed)) = some (.runningFwd, true) ∧
      shows .coastEnd
        { idlePart with
          run := { Run.cleared with state := .running }
          fans := { Fans.powerOn with state := .coasting, coastTimer := 90 } }
        (fun t => (t.fans.state, t.fans.direction)) = some (.starting, .rev) := by decide +kernel

/-- R101: the door opens during a run. -/
theorem test_door_opens :
    shows (.liveLevelChange .door false) runningPart
      (fun t => (t.run.state, t.fans.state, t.notices.map (·.kind), (t.outputs.get .z1).heat.output)) =
      some (.safe, .stopped, [.interlockTripped, .runSafe], false) := by decide +kernel

/-- R84: a start with no schedule, and one that is accepted. -/
theorem test_run_start :
    shows (.runStart 0 [0]) idlePart (fun t => (t.run.state, t.link.reply.map fun x => (x.drop 3).take 5)) =
        some (.idle, some [0xA8, 0, 11, 0, 0]) ∧
      shows (.runStart 0 [0]) { idlePart with schedule := runningPart.schedule }
        (fun t => (t.run.state, t.run.stepIndex, t.fans.state)) = some (.running, some 0, .starting) := by decide +kernel

/-- R163, R164: an IDENTIFY frame with its CRC, character by character, and the same frame for another part. -/
theorem test_identify_frame :
    (match receiveAll (frameBytes 1 0x01 7 []) idlePart with
      | .next t => t.link.reply.map fun x => x.take 5
      | .fault _ | .refused _ => none) = some [0xC3, 1, 13, 0x81, 7] ∧
      (match receiveAll (frameBytes 2 0x01 7 []) idlePart with
        | .next t => some t.link.receiver
        | .fault _ | .refused _ => none) = some .hunt := by decide +kernel

/-- The queue: the command at the front is taken. -/
theorem test_step_takes_the_front :
    (match step { idlePart with pending := [.secondEvent, .minuteEvent] } with
      | .next t => some (t.clock.second, t.pending)
      | .fault _ | .refused _ => none) = some (1, [.minuteEvent]) := by decide +kernel

/-! ### States that meet the hypotheses of the statements

Each theorem is named after its statement. Where a statement has clauses that need different states, the theorem shows one
for each; a clause's hypotheses stand in the order of the statement. -/

/-- A checkpoint of the running part. -/
def savedRun : CheckpointBody :=
  { schedule := [dryStep, coolStep], stepIndex := 1, stepMinutes := 5, totalMinutes := 9, mcMet := false
    timeoutTaken := false, equalizeEntered := false, spread := none, origins := .replicate (some 300) }

/-- An image of the default settings. -/
def savedImage : Image := { settings := .default, probes := Vector.replicate 48 { assignment := none, blocked := false } }

/-- The part right after reset with something in its memory. -/
def loading (settings : SettingsRegion) (checkpoint : CheckpointRegion) (skip : Bool) : State :=
  { State.reset with
    straps := { State.reset.straps with skipSettings := skip }
    memory := { State.reset.memory with settingsRegion := settings, checkpointRegion := checkpoint } }

theorem idlePart_receptive : idlePart.Receptive := by
  unfold State.Receptive State.Awake State.Quiet; decide +kernel

theorem runningPart_receptive : runningPart.Receptive := by
  unfold State.Receptive State.Awake State.Quiet; decide +kernel

theorem loading_awake (x : SettingsRegion) (y : CheckpointRegion) (skip : Bool) : (loading x y skip).Awake :=
  And.intro rfl (And.intro rfl (And.intro rfl (And.intro rfl (And.intro rfl (And.intro rfl rfl)))))

theorem runningPart_forcingAgrees : runningPart.ForcingAgrees := by
  intro z k; cases z <;> cases k <;> decide +kernel

theorem runningPart_valvesSound : runningPart.ValvesSound := by
  intro z k; unfold Valve.Sound; cases z <;> cases k <;> decide +kernel

theorem runningPart_ventsAgree : runningPart.VentsAgree := by
  intro z; cases z <;> decide +kernel

theorem runningPart_interlockAgrees : runningPart.InterlockAgrees := by
  intro _; decide +kernel

theorem runningPart_fansAgree : runningPart.fans.Agrees :=
  And.intro rfl (And.intro rfl rfl)

theorem witness_StepTakesTheFrontCommand :
    ({ idlePart with pending := [.secondEvent] } : State).pending = .secondEvent :: [] := rfl

theorem witness_PowerOnStartsEveryBlockAfresh :
    idlePart.caughtUp.memory.op = .none ∧ State.reset.caughtUp.memory.op = .load ∧ idlePart.Quiet :=
  ⟨by decide +kernel, by decide +kernel, idlePart_receptive.1.2⟩

theorem witness_PowerLossTearsOnlyTheRegionBeingWritten :
    idlePart.powered = true ∧ ({ idlePart with powered := false } : State).powered = false ∧
      ∀ straps contacts, Instr.secondEvent ≠ .powerOn straps contacts :=
  ⟨rfl, rfl, fun _ _ => Instr.noConfusion⟩

theorem witness_LoadEndReachesReady :
    (∀ x y skip, (loading x y skip).Awake ∧ (loading x y skip).ready = false ∧ (loading x y skip).memory.op = .load ∧
      (loading x y skip).memory.loadWaits = false ∧ (loading x y skip).memory.pendingCheckpoint = none ∧
      (loading x y skip).memory.pendingSave = none ∧ (loading x y skip).run = .cleared ∧
      (loading x y skip).settings = .default ∧ (loading x y skip).scanner = .powerOn ∧ (loading x y skip).notices = [] ∧
      (loading x y skip).fans = .powerOn ∧ (loading x y skip).memory.settingsRegion = x ∧
      (loading x y skip).memory.checkpointRegion = y ∧ (loading x y skip).straps.skipSettings = skip) ∧
    (∀ x y skip p, (loading x y skip).probe p = .cleared) ∧
    ∀ x y skip i, i ≠ .fanRun → ((loading x y skip).input i).live = true := by
  refine ⟨fun x y skip => ⟨loading_awake x y skip, rfl, rfl, rfl, rfl, rfl, rfl, rfl, rfl, rfl, rfl, rfl, rfl, rfl⟩, ?_, ?_⟩
  · intro x y skip p; simp [loading, State.probe, State.reset, getTable]
  · intro x y skip i h; cases i <;> first | rfl | exact absurd rfl h

theorem witness_LoadEndRestoresTheRun :
    (∀ x, (loading x (.run savedRun) false).Awake ∧ (loading x (.run savedRun) false).straps.skipSettings = false ∧
      (loading x (.run savedRun) false).memory.checkpointRegion = .run savedRun) ∧
      savedRun.schedule[savedRun.stepIndex]? = some coolStep :=
  ⟨fun _ => ⟨loading_awake _ _ _, rfl, rfl⟩, rfl⟩

/-- A write in flight and whatever waits behind it. -/
def writing (op : MemoryOp) (checkpoint : Option Checkpoint) (save : Option Image) (load : Bool) : State :=
  { idlePart with
    memory :=
      { idlePart.memory with op, pendingCheckpoint := checkpoint, pendingSave := save, loadWaits := load } }

theorem witness_WriteEndsStartTheNextOperation :
    ∀ op c i l, (writing op c i l).Awake ∧ (writing op c i l).memory.op = op ∧
      (writing op c i l).memory.pendingCheckpoint = c ∧ (writing op c i l).memory.pendingSave = i ∧
      (writing op c i l).memory.loadWaits = l := fun _ _ _ _ =>
  ⟨And.intro rfl (And.intro rfl (And.intro rfl (And.intro rfl (And.intro rfl (And.intro rfl rfl))))), rfl, rfl, rfl, rfl⟩

theorem witness_PartRestartKeepsClockRingAndStraps :
    ∀ op, ({ writing op none none false with link := { idlePart.link with restart := true } } : State).powered = true ∧
      ({ writing op none none false with link := { idlePart.link with restart := true } } : State).link.receiver ≠
        .answering ∧ (writing op none none false).due = .none := fun _ => ⟨rfl, Receiver.noConfusion, rfl⟩

theorem witness_ClockEventsCount :
    (∀ n, ({ runningPart with clock := { minute := 0, second := n } } : State).Awake) ∧
      ({ runningPart with clock := { minute := 0, second := 58 } } : State).clock.second < 59 ∧
      ({ runningPart with sampler := { runningPart.sampler with timer := 9, mark := .early } } : State).Awake ∧
      runningPart.ready = true ∧ State.reset.Awake ∧ State.reset.ready = false := by
  refine ⟨fun n => ?_, by decide, ?_, ?_, ?_, ?_⟩
  · exact And.intro rfl (And.intro rfl (And.intro rfl (And.intro rfl (And.intro rfl (And.intro rfl rfl)))))
  all_goals first | rfl | (unfold State.Awake State.Quiet; decide +kernel)

/-- The running part with its sample set due, and one with the set just before its second event. -/
def duePart : State := { runningPart with sampler := { runningPart.sampler with mark := .due } }

/-- A set at which every channel reads one value. -/
def steadySet (v : Int) : Zones ZoneSamples := .replicate { db := .value v, wb := .value v, wood := .value v }

/-- A SETTLED step is judged at the set, and a COOLED step ends at it. -/
theorem witness_SampleSetTakesSamplesAndSetpoints :
    duePart.Awake ∧ duePart.ready = true ∧ duePart.sampler.mark = .due ∧
      ({ runningPart with sampler := { runningPart.sampler with timer := 9 } } : State).Awake ∧
      ({ runningPart with sampler := { runningPart.sampler with timer := 9 } } : State).sampler.mark = .none ∧
      shows (.sampleSet (steadySet 350))
        { duePart with
          schedule := { duePart.schedule with bufferA := [heatupStep, coolStep] }
          zones := .replicate { ZoneLoops.powerOn with ramp := some (rampFrom heatupStep 290) } } (·.run.inBand) =
        some true ∧
      shows (.sampleSet (steadySet 350)) { duePart with run := { duePart.run with stepIndex := some 1 } } (·.run.state) =
        some .complete := by
  refine ⟨?_, rfl, rfl, ?_, rfl, by decide +kernel, by decide +kernel⟩ <;>
    (unfold State.Awake State.Quiet; decide +kernel)

theorem witness_BadSamplesFaultAndGoodSamplesRecover :
    warm.state = .ok ∧ warm.badCount = 0 ∧ sampleCause .readsOpen = some .readsOpen ∧
      sampleCause (.value 1501) = some .outOfRange ∧ sampleCause (.value (-401)) = some .outOfRange ∧
      sampleCause (.value 1500) = none ∧ sampleCause (.value (-400)) = none ∧
      ({ warm with state := .fault } : Channel).goodCount = 0 ∧
      ({ idlePart with sampler := { idlePart.sampler with mark := .due } } : State).Awake ∧
      idlePart.run.state.inProgress = false ∧
      ∀ y, (idlePart.channels y).db.state = .ok ∧ (idlePart.channels y).wb.state = .ok ∧
        (idlePart.channels y).wood.state = .ok := by
  refine ⟨rfl, rfl, rfl, by decide, by decide, by decide, by decide, rfl, ?_, rfl, ?_⟩
  · unfold State.Awake State.Quiet; decide +kernel
  · intro y; cases y <;> decide +kernel

/-- R117: a state for every row of the loop table: the zone inactive, no run, SAFE, COOL, MANUAL, the fans not running, no
DB, no WB, and evaluated. -/
theorem witness_LoopRowsFollowTheTable :
    duePart.Awake ∧ duePart.ready = true ∧ duePart.sampler.mark = .due ∧ (duePart.zoneSettings .z1).active = true ∧
      duePart.run.state.going = true ∧ (∀ r, (duePart.zone .z1).ramp = some r → r.kind ≠ .cool) ∧
      (duePart.zoneSettings .z1).heatMode = .auto ∧ (duePart.zoneSettings .z1).humidityMode = .auto ∧
      duePart.fans.state.isRunning = true ∧
      (((duePart.channels .z1).db.take (.value 300)).1.usable = some 300) ∧
      (((duePart.channels .z1).wb.take (.value 280)).1.usable = some 280) ∧
      (duePart.zone .z1).ramp = some (rampFrom dryStep 290) ∧
      (({ warm with badCount := 2 } : Channel).take .readsOpen).1.usable = none ∧
      ({ runningPart.setZoneSettings .z1 { ZoneSettings.default with active := false } with
          sampler := duePart.sampler } : State).Awake ∧
      ({ idlePart with sampler := duePart.sampler } : State).Awake ∧
      ({ duePart with run := { duePart.run with state := .safe } } : State).Awake ∧
      ({ duePart with fans := { Fans.powerOn with state := .coasting } } : State).Awake ∧
      (rampFrom coolStep 290).kind = .cool := by
  refine ⟨?_, rfl, rfl, rfl, rfl, ?_, rfl, rfl, rfl, ?_, ?_, ?_, rfl, ?_, ?_, ?_, ?_, rfl⟩
  · unfold State.Awake State.Quiet; decide +kernel
  · intro r h
    have : (duePart.zone .z1).ramp = some (rampFrom dryStep 290) := by decide +kernel
    rw [this] at h; cases h; decide
  · decide +kernel
  · decide +kernel
  · decide +kernel
  all_goals (unfold State.Awake State.Quiet; decide +kernel)

theorem witness_LoopEvaluationFollowsTheFourSteps : (0 : Int) ≤ 1000 ∧ (-1000 : Int) ≤ 1000 := by decide

/-- The scan timer has reached the interval, in WAITING and in SCANNING. -/
theorem witness_ScanTimerExpiryStartsAScan :
    ({ idlePart with scanner := { idlePart.scanner with timer := 5 } } : State).settings.scanInterval ≤
        ({ idlePart with scanner := { idlePart.scanner with timer := 5 } } : State).scanner.timer ∧
      idlePart.powered = true ∧ idlePart.due = .none ∧ idlePart.settings.scanEnable = true ∧
      idlePart.scanner.state = .waiting ∧ (counting idlePart).scanner.state = .scanning ∧
      ((counting idlePart).probe 0).qualifies = true ∧ (∀ q, q < 0 → ((counting idlePart).probe q).qualifies = false) ∧
      ∀ p, (idlePart.probe p).qualifies = false := by
  refine ⟨by decide, rfl, rfl, rfl, rfl, rfl, by decide +kernel, fun q h => absurd h (by simp), ?_⟩
  intro p; simp [idlePart, State.refreshOutputs, State.probe, State.reset, getTable, ProbeRecord.qualifies, ProbeRecord.cleared]

theorem counting_awake : (counting runningPart).Awake := by
  unfold State.Awake State.Quiet; decide +kernel

theorem witness_SettlesAndPositiveCountsGoOn :
    (counting runningPart).Awake ∧
      ({ runningPart with
          scanner :=
            { (counting runningPart).scanner with
              measurement :=
                some { probe := 0, range := 1, attempt := 1, nPlus := none, phase := .settling .channel } } } : State).Awake ∧
      (∃ m, (counting runningPart).scanner.measurement = some m ∧ m.phase = .counting ∧ m.nPlus = none ∧ m.attempt < 4) ∧
      CountsTo (.thresholdCrossed 1024) 1024 ∧ CountsTo (.thresholdCrossed 60000) 60000 ∧
      CountsTo (.thresholdCrossed 1023) 1023 ∧ CountsTo (.thresholdCrossed 60001) 60001 ∧ CountsTo .counterFull 65535 := by
  refine ⟨counting_awake, ?_, ⟨_, rfl, rfl, rfl, by decide⟩, .inl ⟨rfl, by decide⟩, .inl ⟨rfl, by decide⟩,
    .inl ⟨rfl, by decide⟩, .inl ⟨rfl, by decide⟩, .inr ⟨rfl, rfl⟩⟩
  unfold State.Awake State.Quiet; decide +kernel

theorem witness_OutcomeWithoutPairIsHandedOver :
    CountsTo .counterFull 65535 ∧ (counting runningPart).Awake ∧
      (∃ m, (counting runningPart).scanner.measurement = some m ∧ EndsMeasurement m 65535 .dryLimit ∧
        ((counting runningPart).probe m.probe).assignment = some { zone := .z1, group := 0, role := .control }) ∧
      (counting runningPart).curve 0 = some .builtIn ∧ Curve.builtIn.points.getLast? = some ⟨1100, 62⟩ ∧
      EndsMeasurement { probe := 0, range := 0, attempt := 1, nPlus := none, phase := .counting } 1023 .short ∧
      EndsMeasurement { probe := 0, range := 1, attempt := 4, nPlus := none, phase := .counting } 60001 .unstable ∧
      EndsMeasurement { probe := 0, range := 1, attempt := 1, nPlus := some 2000, phase := .counting } 60001 .polarized := by
  refine ⟨.inr ⟨rfl, rfl⟩, counting_awake, ⟨_, rfl, ?_, by decide +kernel⟩, by decide +kernel, by decide, ?_, ?_, ?_⟩
  all_goals (unfold EndsMeasurement; decide)

/-- The measurement of probe 1 after N+ = 2000. -/
def secondCount (s : State) : State :=
  { counting s with
    scanner :=
      { (counting s).scanner with
        polarity := .negative
        measurement := some { probe := 0, range := 1, attempt := 1, nPlus := some 2000, phase := .counting } } }

theorem witness_PairIsConverted :
    (secondCount runningPart).Awake ∧
      (∃ m, (secondCount runningPart).scanner.measurement = some m ∧ EndsMeasurement m 2000 .pair ∧ m.nPlus = some 2000 ∧
        ((secondCount runningPart).probe m.probe).assignment = some { zone := .z1, group := 0, role := .control }) ∧
      CountsTo (.thresholdCrossed 2000) 2000 ∧ Curve.builtIn.points = ⟨560, 300⟩ :: Curve.builtIn.points.tail ∧
      ((secondCount runningPart).channels .z1).db.usable = some 290 ∧
      ((logOfCount 1 2000 : Int) - logOfCount 1 1024).natAbs > 12 := by
  refine ⟨?_, ⟨_, rfl, ?_, rfl, by decide +kernel⟩, .inl ⟨rfl, by decide⟩, rfl, by decide +kernel, by decide +kernel⟩
  · unfold State.Awake State.Quiet; decide +kernel
  · unfold EndsMeasurement; decide

/-- With another probe above, and with none. -/
theorem witness_ScanGoesOnOrCompletes :
    (counting runningPart).scanner.state = .scanning ∧ (counting runningPart).scanner.startDue = false ∧
      (∀ p : Fin 48, 0 < p → ((counting runningPart).probe p).qualifies = false) ∧
      (({ counting runningPart with
          probes :=
            setTable (counting runningPart).probes 47
              (ProbeRecord.assigned { zone := .z1, group := 0, role := .watch }) } : State).probe 47).qualifies = true ∧
      (∃ m, (counting runningPart).scanner.measurement = some m ∧ EndsMeasurement m 65535 .dryLimit) := by
  refine ⟨rfl, rfl, by decide +kernel, by decide +kernel, _, rfl, ?_⟩
  unfold EndsMeasurement; decide

/-- The ring full; and a reading that faults its probe. -/
theorem witness_ScanGoesOnOrCompletes_and_faults :
    (let f : Frame := ⟨1, 2, 3, .idle, none, 0, none, false, [], []⟩
    let s := { counting runningPart with history := { History.powerOn with frames := List.replicate 96 f } }
    s.history.frames = f :: f :: List.replicate 94 f ∧ s.history.frames.length = 96 ∧
      shows .counterFull s (fun t => (t.history.slip, t.history.frames.length)) = some (true, 96)) ∧
    (let r : ProbeRecord :=
      { ProbeRecord.assigned { zone := .z1, group := 0, role := .control } with state := .suspect, faultCount := 2 }
    shows (.thresholdCrossed 60001)
      { secondCount runningPart with probes := setTable runningPart.probes 0 r } (fun t => (t.probe 0).state) =
      some .faulted) := ⟨⟨rfl, rfl, by decide +kernel⟩, by decide +kernel⟩

theorem witness_LogResistanceIsExact : 1024 ≤ 1024 ∧ 1024 ≤ 60000 ∧ 60000 ≤ 60000 := by decide

theorem witness_CurveIsInterpolatedAndClamped :
    (Curve.builtIn.points.tail ≠ []) ∧ Curve.builtIn.points.IsChain (fun p q => p.lc < q.lc ∧ q.mc ≤ p.mc) ∧
      (559 : Int) < (560 : Nat) ∧ ((560 : Nat) : Int) ≤ 1100 ∧ ((1100 : Nat) : Int) < 1101 := by decide

theorem witness_ReadingsAreFilteredAndApplied :
    ([1, 2, 3] : List Nat).length ≤ 3 ∧ ReadingKind.faultKind .short = some .short ∧
      (Reading.mk .valid (some 700) (some 700) (some 170) .none 5).validMc = some 170 ∧
      (ProbeRecord.mk none .good [200, 210, 190] 2 2 none 1 none).filtered = some 200 ∧
      ((250 : Nat) : Int) - (200 : Nat) > (40 : Nat) ∧ ((240 : Nat) : Int) - (200 : Nat) ≤ (40 : Nat) := by decide

/-- The running part with four GOOD probes. -/
def measuredPart : State :=
  let good := fun (values : List Nat) =>
    { ProbeRecord.assigned { zone := .z1, group := 0, role := .control } with state := .good, values }
  { counting runningPart with
    probes :=
      setTable
        (setTable
          (setTable (setTable (counting runningPart).probes 1 (good [200, 210, 190])) 2 (good [180, 170, 160])) 3
          (good [190, 190, 190]))
        4 (good [150, 150, 150]) }

/-- The same with the measurement at the last probe, which is FAULTED. -/
def lastMeasured : State :=
  { measuredPart with
    probes := setTable measuredPart.probes 47 (measuredPart.probe 0)
    scanner :=
      { measuredPart.scanner with
        measurement := some { probe := 47, range := 3, attempt := 1, nPlus := none, phase := .counting } } }

theorem witness_PublishedFiguresFollowTheOrder :
    1 ≤ measuredPart.settings.w ∧ 1 ≤ measuredPart.settings.q ∧
      measuredPart.settings.q ≤ measuredPart.eligibleProbes.length := by decide +kernel

theorem witness_LostQuorumHoldsTheRun :
    (counting runningPart).Awake ∧ ((counting runningPart).probe 0).state = .faulted ∧
      (counting runningPart).eligibleProbes.length < (counting runningPart).settings.q ∧
      (counting runningPart).settings.quorumAction = .hold ∧ (counting runningPart).run.state = .running ∧
      (counting runningPart).run.reasons = .empty ∧ (counting runningPart).statistics.keptQuorum = .held ∧
      (∀ p : Fin 48, 0 < p → ((counting runningPart).probe p).qualifies = false) ∧
      (∃ m, (counting runningPart).scanner.measurement = some m ∧ m.phase = .counting ∧ m.nPlus = none ∧ m.range = 3) ∧
      CountsTo (.thresholdCrossed 60001) 60001 :=
  ⟨counting_awake, by decide +kernel, by decide +kernel, rfl, rfl, rfl, rfl, by decide +kernel, ⟨_, rfl, rfl, rfl, rfl⟩,
    .inl ⟨rfl, by decide⟩⟩

/-- Publications that lose the quorum, with HOLD and with CONTINUE, after a pair and after a reading that faults its
probe, and one that regains it, in a step without an MC test. -/
theorem witness_LostQuorumHoldsTheRun_in_any_run :
    (let s := { counting runningPart with schedule := { runningPart.schedule with bufferA := [heatupStep, coolStep] } }
    s.Awake ∧ s.currentStep = some heatupStep ∧ heatupStep.test.isMc = false ∧ s.scanner.startDue = false ∧
      ({ s with settings := { s.settings with quorumAction := .continue } } : State).Awake) ∧
    shows (.thresholdCrossed 60001)
      { lastMeasured with
        schedule := { runningPart.schedule with bufferA := [heatupStep, coolStep] }
        statistics := { latest := none, keptQuorum := .lost }
        run := { runningPart.run with state := .held, reasons := { HoldSet.empty with quorum := true } } }
      (fun t => (t.run.state, t.notices.map (·.kind))) = some (.running, [.quorumRegained, .runResumed]) ∧
    (let s := { secondCount runningPart with schedule := { runningPart.schedule with bufferA := [heatupStep, coolStep] } }
    s.Awake ∧ ∃ m, s.scanner.measurement = some m ∧ EndsMeasurement m 2000 .pair) ∧
    (let r : ProbeRecord :=
      { ProbeRecord.assigned { zone := .z1, group := 0, role := .control } with state := .suspect, faultCount := 2 }
    shows (.thresholdCrossed 60001)
      { secondCount runningPart with
        probes := setTable runningPart.probes 0 r
        schedule := { runningPart.schedule with bufferA := [heatupStep, coolStep] } } (fun t => t.notices.map (·.kind)) =
      some [.probeFaulted, .quorumLost, .runHeld]) := by
  refine ⟨⟨?_, by decide +kernel, rfl, rfl, ?_⟩, by decide +kernel, ⟨?_, _, rfl, ?_⟩, by decide +kernel⟩
  case refine_4 => unfold EndsMeasurement; decide
  all_goals (unfold State.Awake State.Quiet; decide +kernel)

/-- The running part in a step, at a minute, with the judgements of a minute event due. -/
def judging (step : StepRecord) (minutes : Nat) : State :=
  { runningPart with
    schedule := { runningPart.schedule with bufferA := [step, coolStep] }
    run := { runningPart.run with stepMinutes := minutes, inBand := true, settleTimer := 10 }
    due := { hours := true, settle := true, timeout := true, hourCheckpoint := true, checkpoint := false } }

/-- Each of the two tests passes. A step whose hours are not reached, and one whose zones are not in band, have reached
their maximum at the same minute event, with ADVANCE and with HOLD; and a judgement that is not due. -/
theorem witness_MinuteJudgementsEndOrHoldTheStep :
    MinuteTestPasses .hoursTestPass (judging dryStep 60) dryStep ∧
      MinuteTestPasses .settleTimerPass (judging heatupStep 60) heatupStep ∧
      (judging heatupStep 60).powered = true ∧
      (∀ action,
        let x := { dryStep with testHours := some 3, timeoutAction := some action }
        let s := judging x 120
        (∀ y, ¬ MinuteTestPasses .hoursTestPass s y) ∧ (∀ y, ¬ MinuteTestPasses .settleTimerPass s y) ∧
          s.due.hours = true ∧ s.due.timeout = true ∧ s.run.state = .running ∧ s.run.timeoutTaken = false ∧
          s.currentStep = some x ∧ s.run.stepIndex = some 0 ∧ x.maxHours = some 2 ∧ 60 * 2 ≤ s.run.stepMinutes ∧
          x.timeoutAction = some action ∧ s.run.reasons.timeout = false ∧ s.due.checkpoint = false) ∧
      (judging heatupStep 60).due.settle = true ∧ ({ judging heatupStep 60 with due := .none } : State).due.timeout = false := by
  refine ⟨⟨rfl, by decide +kernel, by decide, .inl ⟨rfl, rfl, ⟨1, rfl, by decide⟩, .inr (.inl rfl)⟩⟩,
    ⟨rfl, by decide +kernel, by decide, .inr ⟨rfl, rfl, rfl, rfl, ⟨.z1, rfl⟩, 10, rfl, by decide⟩⟩, rfl, fun action => ?_, rfl, rfl⟩
  have minutes : ∀ x, (judging x 120).run.stepMinutes = 120 := fun _ => rfl
  have step : (judging { dryStep with testHours := some 3, timeoutAction := some action } 120).currentStep =
      some { dryStep with testHours := some 3, timeoutAction := some action } := rfl
  refine ⟨?_, ?_, rfl, rfl, rfl, rfl, step, rfl, rfl, by simp [minutes], rfl, rfl, rfl⟩
  · rintro y ⟨-, hy, -, ⟨-, -, ⟨h, hh, hm⟩, -⟩ | ⟨hc, -⟩⟩
    · cases step.symm.trans hy; cases hh; simp [minutes] at hm
    · cases hc
  · rintro y ⟨-, hy, -, ⟨hc, -⟩ | ⟨-, -, -, ht, -⟩⟩
    · cases hc
    · cases step.symm.trans hy; cases ht

/-- R123: the same SETTLED step, its timer at the settle minutes, once no zone is active. -/
theorem test_settled_does_not_pass_without_a_zone :
    shows .settleTimerPass (judging heatupStep 60) (·.run.stepIndex) = some (some 1) ∧
      shows .settleTimerPass
        { judging heatupStep 60 with
          settings := { runningPart.settings with zones := .replicate { ZoneSettings.default with active := false } } }
        (fun t => (t.run.stepIndex, t.run.inBand)) = some (some 0, true) := by decide +kernel

theorem witness_RunHourRequestsACheckpoint :
    ({ runningPart with due := { Due.none with hourCheckpoint := true } } : State).powered = true ∧
      ({ runningPart with due := { Due.none with hourCheckpoint := true } } : State).due.hours = false ∧
      runningPart.run.state.inProgress = true ∧ runningPart.run.stepIndex = some 0 ∧ runningPart.memory.op = .none :=
  ⟨rfl, rfl, rfl, rfl, rfl⟩

/-- The last step, a COOL step, with its sample set due; and an MC step at the completion of a scan. -/
theorem witness_SetsAndPublicationsEndSteps :
    (let s : State := { duePart with run := { duePart.run with stepIndex := some 1 } }
    s.Awake ∧ s.ready = true ∧ s.sampler.mark = .due ∧ s.run.state = .running ∧ s.currentStep = some coolStep ∧
      coolStep.test = .cooled ∧ 60 * coolStep.minHours.getD 0 ≤ s.run.stepMinutes ∧ s.schedule.adoption = none ∧
      s.schedule.activeSteps.length = 1 + 1 ∧ s.zoneActive .z1 = true ∧
      ∀ z, ((s.channels z).db.take (.value 340)).1.state = .ok ∧
        ((s.channels z).db.take (.value 340)).1.published = some 340) ∧
    (let s := lastMeasured
    s.Awake ∧ (s.probe 47).state = .faulted ∧ (∀ p : Fin 48, 47 < p → (s.probe p).qualifies = false) ∧
      ((s.publicationNow s.scanner.scanNumber).figures.map (·.controlling)) = some 178 ∧
      (s.publicationNow s.scanner.scanNumber).quorum = .held ∧ s.statistics.keptQuorum = .held ∧
      s.currentStep = some dryStep ∧ dryStep.statistic = some .controlling ∧ dryStep.mcThreshold = some 200 ∧
      (∃ m, s.scanner.measurement = some m ∧ m.phase = .counting ∧ m.nPlus = none ∧ m.range = 3)) := by
  refine ⟨⟨?_, rfl, rfl, rfl, by decide +kernel, rfl, by decide, rfl, by decide +kernel, by decide +kernel, ?_⟩,
    ?_, by decide +kernel, fun p h => absurd h (by omega), by decide +kernel, by decide +kernel, by decide +kernel,
    by decide +kernel, rfl, rfl, _, rfl, rfl, rfl, rfl⟩
  · unfold State.Awake State.Quiet; decide +kernel
  · intro z; cases z <;> decide +kernel
  · unfold State.Awake State.Quiet; decide +kernel

/-- The part at its last measurement, in a step with this test. -/
def publishing (x : StepRecord) : State :=
  { lastMeasured with schedule := { runningPart.schedule with bufferA := [x, coolStep] } }

/-- The step index and MC-met after the last measurement's count. -/
def published (s : State) : Option (Option Nat × Bool) := shows (.thresholdCrossed 60001) s fun t => (t.run.stepIndex, t.run.mcMet)

/-- MC tests at a publication: one that passes, and ones that do not, for the statistic, for a quorum LOST under CONTINUE,
for the minimum hours, and for the hours. -/
theorem witness_SetsAndPublicationsEndSteps_general :
    (∀ x, (publishing x).powered = true ∧ (publishing x).due = .none ∧ (publishing x).currentStep = some x ∧
      (publishing x).scanner.startDue = false) ∧
    (publishing dryStep).Awake ∧
    (∀ m, lastMeasured.scanner.measurement = some m → EndsMeasurement m 60001 .dryLimit) ∧
    (∀ p : Fin 48, 47 < p → (lastMeasured.probe p).qualifies = false) ∧ (lastMeasured.probe 1).qualifies = true ∧
    published (publishing dryStep) = some (some 1, false) ∧
    published (publishing { dryStep with mcThreshold := some 177 }) = some (some 0, false) ∧
    published (publishing { dryStep with minHours := some 2 }) = some (some 0, false) ∧
    published { publishing dryStep with settings := { lastMeasured.settings with q := 5, quorumAction := .continue } } =
      some (some 0, false) ∧
    published (publishing { dryStep with test := .mcAndHours, testHours := some 2 }) = some (some 0, true) := by
  refine ⟨fun x => ⟨rfl, rfl, rfl, rfl⟩, ?_, ?_, fun p h => absurd h (by omega), by decide +kernel, by decide +kernel,
    by decide +kernel, by decide +kernel, by decide +kernel, by decide +kernel⟩
  · unfold State.Awake State.Quiet; decide +kernel
  · rintro m ⟨⟩; exact ⟨rfl, .inl ⟨rfl, .inr (.inl ⟨by decide, rfl, rfl⟩)⟩⟩

theorem witness_EditRequestsChangeTheEditBufferAlone :
    runningPart.Receptive ∧ runningPart.schedule.adoption = none ∧ (1 : Nat) ≤ runningPart.schedule.editSteps.length ∧
      ({ runningPart with
          schedule := { runningPart.schedule with adoption := some { target := 0, restart := false } } } : State).Receptive :=
  ⟨runningPart_receptive, rfl, by decide +kernel, by unfold State.Receptive State.Awake State.Quiet; decide +kernel⟩

/-- The fields of `dryStep` on the link. -/
def rawStep : RawStep :=
  { kind := 1, dbTarget := 300, depression := 20, rampRate := 100, reversalInterval := 60, speed := 0, test := 4
    statistic := some 0, mcThreshold := some 200, testHours := some 1, settleMinutes := none, minHours := none
    maxHours := some 2, timeoutAction := some 0 }

/-- The first and the last of fields 2 to 15 fail, and an MC threshold that the test needs is absent. -/
theorem witness_PutStepReadsBackTheRecord_refusals :
    rawStep.bytes = dryStep.bytes ∧ rawStep.Fits ∧ ({ rawStep with kind := 5 } : RawStep).Fits ∧
      FirstFailing ({ rawStep with kind := 5 } : RawStep).conditions 0 ∧
      FirstFailing ({ rawStep with mcThreshold := none } : RawStep).conditions 8 ∧
      FirstFailing ({ rawStep with timeoutAction := some 2 } : RawStep).conditions 13 ∧
      optionalWidth 0x7F = 11 ∧ (0x80 : Byte).getLsbD 7 = true ∧
      ({ runningPart with
          schedule := { runningPart.schedule with adoption := some { target := 0, restart := false } } } : State).Receptive := by
  refine ⟨by decide, by simp [RawStep.Fits, rawStep]; omega, by simp [RawStep.Fits, rawStep]; omega,
    ⟨⟨_, rfl, by decide⟩, fun j x h => absurd h (by omega)⟩, ⟨⟨_, rfl, ?_⟩, ?_⟩, ⟨⟨_, rfl, ?_⟩, ?_⟩,
    by decide, by decide, ?_⟩
  case refine_5 => unfold State.Receptive State.Awake State.Quiet; decide +kernel
  case refine_1 | refine_3 => simp [rawStep]
  all_goals
    intro j x h e
    match j with
    | 0 | 1 | 2 | 3 | 4 | 5 | 6 | 7 | 8 | 9 | 10 | 11 | 12 => first | omega | (cases e; simp [rawStep])
    | _ + 13 => omega

theorem witness_PutStepReadsBackTheRecord :
    runningPart.Receptive ∧ dryStep.Legal ∧ coolStep.Legal ∧ heatupStep.Legal ∧ runningPart.schedule.adoption = none ∧
      1 ≤ runningPart.schedule.editSteps.length ∧ runningPart.schedule.editSteps.length < 2 := by
  refine ⟨runningPart_receptive, ?_, ?_, ?_, rfl, by decide +kernel, by decide +kernel⟩ <;>
    simp [StepRecord.Legal, dryStep, coolStep, heatupStep, StepTest.isMc, StepTest.isHours]

theorem witness_ValidationReportsTheFirstFailure :
    validate [heatupStep, dryStep, coolStep] = none ∧ validate [] = some (0, .empty) ∧
      validate [dryStep, heatupStep] = some (1, .kindOrder) ∧
      validate [{ dryStep with test := .settled }] = some (0, .testKind) ∧
      validate [{ dryStep with testHours := some 3 }] = some (0, .minOverMax) := by decide

/-- A part whose EDIT buffer passes validation, with no run and with one that goes. -/
theorem witness_AdoptNowExchangesTheRoles :
    runningPart.Receptive ∧ runningPart.schedule.adoption = none ∧ validate runningPart.schedule.editSteps = none ∧
      runningPart.run.state.going = true ∧ runningPart.schedule.editSteps[0]? = some dryStep ∧
      ({ idlePart with schedule := runningPart.schedule } : State).Receptive ∧
      idlePart.run.state.inProgress = false ∧ (0 : Byte).toNat ≤ 23 ∧ (1 : Byte).toNat ≤ 1 := by
  refine ⟨runningPart_receptive, rfl, by decide +kernel, rfl, by decide +kernel, ?_, rfl, by decide, by decide⟩
  unfold State.Receptive State.Awake State.Quiet; decide +kernel

theorem witness_AdoptionRequestsAreCheckedInOrder :
    runningPart.Receptive ∧ (0 : Nat) < runningPart.schedule.editSteps.length ∧ runningPart.run.state.going = true ∧
      ({ runningPart with run := { runningPart.run with state := .safe } } : State).Receptive ∧
      idlePart.Receptive ∧ validate idlePart.schedule.editSteps = some (0, .empty) ∧ 23 < (24 : Byte).toNat := by
  refine ⟨runningPart_receptive, by decide +kernel, rfl, ?_, idlePart_receptive, by decide +kernel, by decide⟩
  unfold State.Receptive State.Awake State.Quiet; decide +kernel

/-- A part that may start a run: with the fans' latch clear and set, and with a DB in FAULT and a lost quorum. -/
def startable : State := { idlePart with schedule := runningPart.schedule }

theorem witness_RunStartEntersTheFirstStep :
    startable.Receptive ∧ startable.run.state.inProgress = false ∧ startable.fans.Agrees ∧
      startable.schedule.activeSteps[(0 : Byte).toNat]? = some dryStep ∧
      startable.schedule.activeSteps[(1 : Byte).toNat]? = some coolStep ∧ startable.zoneActive .z1 = true ∧
      (∀ j, (startable.input j).latch = false) ∧ startable.fans.state = .stopped ∧ (startable.input .fanRun).live = false ∧
      (∀ z, (startable.channels z).db.state = .ok) ∧ startable.statistics.latest = none := by
  refine ⟨?_, rfl, And.intro rfl rfl, by decide +kernel, by decide +kernel, by decide +kernel, ?_, rfl, rfl, ?_, rfl⟩
  · unfold State.Receptive State.Awake State.Quiet; decide +kernel
  · intro j; cases j <;> decide +kernel
  · intro z; cases z <;> decide +kernel

theorem witness_RunStartIsRefusedInOrder :
    runningPart.Receptive ∧ runningPart.run.state.inProgress = true ∧ idlePart.Receptive ∧
      idlePart.schedule.activeSteps = [] ∧ startable.schedule.activeSteps.length = 2 ∧
      ((startable.setInput .door { live := true, latch := true, trippedAt := some 0 }).input .door).latch = true ∧
      startable.inputLevel .door = 3 ∧
      (∀ z, ({ startable with
          settings :=
            { startable.settings with
              zones := .replicate { ZoneSettings.default with active := false } } } : State).zoneActive z = false) := by
  refine ⟨runningPart_receptive, rfl, idlePart_receptive, by decide +kernel, by decide +kernel, rfl, rfl, ?_⟩
  intro z; cases z <;> rfl

/-- The running part in another run state. -/
def inState (r : RunState) (reasons : HoldSet) : State :=
  { runningPart with run := { runningPart.run with state := r, reasons } }

theorem inState_receptive (r : RunState) (reasons : HoldSet) : (inState r reasons).Receptive :=
  And.intro (And.intro rfl (And.intro rfl (And.intro rfl (And.intro rfl (And.intro rfl (And.intro rfl rfl))))))
    (And.intro rfl rfl)

theorem witness_HoldAndResumeChangeTheReasons :
    ∀ r reasons, (inState r reasons).Receptive ∧ (inState r reasons).run.state = r ∧
      (inState r reasons).run.reasons = reasons := fun r reasons => ⟨inState_receptive r reasons, rfl, rfl⟩

theorem witness_RestartHoldsAndAbortEndsTheRun :
    (∀ r reasons, (inState r reasons).Receptive ∧ (inState r reasons).fans.Agrees ∧
      (inState r reasons).run.stepIndex = some 0) ∧ (∀ j, ((inState .safe .empty).input j).latch = false) := by
  refine ⟨fun r reasons => ⟨inState_receptive r reasons, runningPart_fansAgree, rfl⟩, ?_⟩
  intro j; cases j <;> rfl

theorem witness_LiveLevelChangeTripsByLevel :
    runningPart.Awake ∧ runningPart.InterlockAgrees ∧ runningPart.ValvesSound ∧
      (∀ i, i ≠ .fanRun → (runningPart.input i).live = true ∧ (runningPart.input i).latch = false ∧
        (runningPart.settings.interlocks.get i).expectedClosed = true) ∧
      runningPart.inputLevel .heatSupply = 1 ∧ runningPart.inputLevel .door = 3 ∧
      (runningPart.settings.interlocks.get .door).compare = true ∧ runningPart.ready = true ∧
      runningPart.run.state = .running ∧ runningPart.run.reasons = .empty := by
  refine ⟨runningPart_receptive.1, runningPart_interlockAgrees, runningPart_valvesSound, ?_, rfl, rfl, rfl, rfl, rfl, rfl⟩
  intro i h; cases i <;> first | exact ⟨rfl, rfl, rfl⟩ | exact absurd rfl h

/-- The running part with fans that are starting, running or coasting. -/
def withFans (f : Fans) (live : Bool) : State :=
  { runningPart with
    fans := f, interlocks := runningPart.interlocks.set .fanRun { live, latch := false, trippedAt := none } }.refreshOutputs

/-- Fans that start, with the window over. -/
def startingFans : Fans := { Fans.powerOn with state := .starting, confirmTimer := 20 }

theorem witness_FanRunConfirmsOrTrips :
    (let s := withFans { startingFans with confirmTimer := 0 } false
    s.Awake ∧ s.fans.Agrees ∧ s.InterlockAgrees ∧ s.ValvesSound ∧ s.ForcingAgrees ∧ (s.input .fanRun).latch = false ∧
      s.fans.state = .starting ∧ (s.input .fanRun).live = false ∧ s.fans.NoReversal) ∧
    runningPart.fans.state.isRunning = true ∧ (runningPart.input .fanRun).live = true ∧
    runningPart.inputLevel .fanRun = 2 ∧ (runningPart.input .fanRun).latch = false := by
  refine ⟨⟨?_, rfl, ?_, ?_, ?_, rfl, rfl, rfl, .inl rfl⟩, rfl, rfl, rfl, rfl⟩
  · unfold State.Awake State.Quiet; decide +kernel
  · intro _; decide +kernel
  · intro z k; unfold Valve.Sound; cases z <;> cases k <;> decide +kernel
  · intro z k; cases z <;> cases k <;> decide +kernel

/-- FAN_RUN's latch set and FAILED fans; a start with its reversal due; STOPPED, before READY too, and COASTING. -/
theorem witness_FanRunConfirmsOrTrips_states :
    (let failed : Fans := { Fans.powerOn with state := .failed, compareActive := true }
    let s := { withFans failed false with interlocks := runningPart.interlocks.set .fanRun ⟨false, true, some 0⟩ }
    s.Awake ∧ s.fans.Agrees ∧ s.fans.state = .failed ∧ (s.input .fanRun).latch = true ∧ s.inputLevel .fanRun = 2 ∧
      (s.input .fanRun).live = false) ∧
    (let s := withFans { startingFans with confirmTimer := 0, reversalInterval := 60, reversalTimer := 60 } false
    s.Awake ∧ s.fans.Agrees ∧ s.InterlockAgrees ∧ s.ValvesSound ∧ s.ForcingAgrees ∧ ¬ s.fans.NoReversal) ∧
    (let s := withFans { runningPart.fans with state := .coasting, compareActive := false } true
    s.Awake ∧ s.fans.Agrees ∧ s.fans.state = .coasting) ∧
    (let s : State := { State.reset with powered := true }
    s.Awake ∧ s.fans.Agrees ∧ s.fans.state = .stopped ∧ s.ready = false) := by
  refine ⟨⟨?_, ⟨rfl, rfl⟩, rfl, rfl, rfl, rfl⟩, ⟨?_, rfl, ?_, ?_, ?_, ?_⟩, ⟨?_, rfl, rfl⟩, ?_, ⟨rfl, rfl⟩, rfl, rfl⟩
  · unfold State.Awake State.Quiet; decide +kernel
  · unfold State.Awake State.Quiet; decide +kernel
  · intro _; decide +kernel
  · intro z k; unfold Valve.Sound; cases z <;> cases k <;> decide +kernel
  · intro z k; cases z <;> cases k <;> decide +kernel
  · unfold Fans.NoReversal; decide +kernel
  · unfold State.Awake State.Quiet; decide +kernel
  · unfold State.Awake State.Quiet; decide +kernel

theorem witness_FanTimersExpire :
    (∀ f live, (withFans f live).powered = true ∧ (withFans f live).due = .none ∧ (withFans f live).fans = f ∧
      ((withFans f live).input .fanRun).latch = false ∧ ((withFans f live).input .fanRun).live = live ∧
      (withFans f live).settings.startConfirmWindow = 20 ∧ (withFans f live).settings.coastTime = 90) ∧
    startingFans.Agrees ∧ startingFans.NoReversal ∧ ({ runningPart.fans with reversalTimer := 60 } : Fans).Agrees ∧
    ({ runningPart.fans with state := .coasting, compareActive := false, coastTimer := 90 } : Fans).Agrees ∧
    (∀ z k, (((withFans startingFans false).outputs.get z).valve k).Sound) ∧ (withFans startingFans false).ForcingAgrees ∧
    (withFans startingFans false).InterlockAgrees := by
  refine ⟨fun f live => ⟨rfl, rfl, rfl, rfl, rfl, rfl, rfl⟩, rfl, .inl rfl, And.intro rfl (And.intro rfl rfl), rfl,
    ?_, ?_, ?_⟩
  · intro z k; unfold Valve.Sound; cases z <;> cases k <;> decide +kernel
  · intro z k; cases z <;> cases k <;> decide +kernel
  · intro _; decide +kernel

/-- A valve in a cycle with part of it ON; and a part with no command waiting, with and without supply. -/
theorem witness_ValveCyclesFollowTheOnTime :
    runningPart.Awake ∧ ((runningPart.outputs.get .z1).valve .heat).cycle.isSome = true ∧
      (runningPart.mapValve .z1 .heat fun v =>
        { v with output := true, cycle := some { period := 30, elapsed := 9, onTime := 10 } }).Awake ∧
      runningPart.pending = [] ∧ ({ idlePart with powered := false } : State).powered = false := by
  refine ⟨runningPart_receptive.1, by decide +kernel, ?_, rfl, rfl⟩
  unfold State.Awake State.Quiet; decide +kernel

/-- A part whose receiver is in a given state. -/
def receiving (r : Receiver) : State := { idlePart with link := { idlePart.link with receiver := r } }

theorem receiving_awake (r : Receiver) : (receiving r).Awake :=
  And.intro rfl (And.intro rfl (And.intro rfl (And.intro rfl (And.intro rfl (And.intro rfl rfl)))))

theorem witness_ReceiverFollowsItsTable :
    (∀ r, (receiving r).Awake ∧ (receiving r).link.receiver = r) ∧
      crcBytes (crcOf [1, 2, 1, 0]) ≠ [0, 0] ∧ (1 : Byte).toNat < 2 ∧ 250 < (251 : Byte).toNat ∧ 2 ≤ (2 : Byte).toNat ∧
      (250 : Byte).toNat ≤ 250 :=
  ⟨fun r => ⟨receiving_awake r, rfl⟩, by decide +kernel, by decide, by decide, by decide, by decide⟩

theorem witness_FramesAreReadBackAsTheirRequests :
    requestOf (.runStart 7 [1]) = some (0x28, 7, [1]) ∧ wellFormed (.runStart 7 [1]) = true ∧ idlePart.Awake ∧
      idlePart.link.receiver = .hunt ∧ 2 ≠ idlePart.linkAddress ∧
      ([0, 0] : List Byte) ≠ crcBytes (crcOf (frameBody idlePart.linkAddress 0x28 7 [1])) :=
  ⟨rfl, rfl, idlePart_receptive.1, rfl, by decide, by decide +kernel⟩

theorem witness_RequestsAreDispatchedInOrder :
    idlePart.Awake ∧ idlePart.link.receiver = .hunt ∧ wellFormed (.unknownRequest 0x50 0 []) = true ∧
      State.reset.Awake ∧ State.reset.ready = false ∧ State.reset.link.receiver = .hunt ∧
      catalogue.contains (0x28 : Byte).toNat = true ∧ (receiving .answering).Awake ∧
      (receiving .answering).link.receiver = .answering := by
  refine ⟨idlePart_receptive.1, rfl, by decide, ?_, rfl, rfl, by decide, receiving_awake _, rfl⟩
  unfold State.Awake State.Quiet; decide +kernel

theorem witness_IdentifyGivesItsFields : State.reset.Awake ∧ State.reset.link.receiver = .hunt := by
  refine ⟨?_, rfl⟩; unfold State.Awake State.Quiet; decide +kernel

theorem witness_ReadingRequestsChangeNothing :
    runningPart.Receptive ∧ runningPart.statistics.latest = none ∧ runningPart.history.latest = none ∧
      runningPart.schedule.activeSteps[0]? = some dryStep ∧ runningPart.schedule.editSteps[0]? = some dryStep ∧
      State.reset.Awake ∧ State.reset.link.receiver = .hunt ∧ State.reset.ready = false ∧ State.reset.ColdAgrees := by
  refine ⟨runningPart_receptive, rfl, rfl, by decide +kernel, by decide +kernel, ?_, rfl, rfl, ?_⟩
  · unfold State.Awake State.Quiet; decide +kernel
  · refine fun _ => ⟨fun i => ?_, rfl, rfl, rfl, rfl⟩; cases i <;> rfl

theorem witness_ProbeRequestsWriteOneRecord :
    idlePart.Receptive ∧ (idlePart.curve 0).isSome = true ∧ idlePart.curve 1 = none ∧
      idlePart.underMeasurement 0 = false ∧ (idlePart.probe 0).state = .unassigned ∧
      (measuredPart.probe 0).state = .faulted ∧ (measuredPart.probe 1).state = .good ∧
      (measuredPart.scanner.measurement.map (·.probe)) = some 0 ∧ (measuredPart.probe 1).qualifies = true ∧
      ((counting runningPart).scanner.measurement.map (·.probe)) = some 0 ∧
      (∀ x : Fin 48, 0 < x → ((counting runningPart).probe x).qualifies = false) ∧
      (counting runningPart).scanner.startDue = false ∧ (counting runningPart).ready = true := by
  refine ⟨idlePart_receptive, ?_, ?_, rfl, ?_, ?_, ?_, ?_, ?_, rfl, ?_, rfl, rfl⟩ <;> decide +kernel

theorem witness_ProbeConfigIsCheckedWhole :
    idlePart.Receptive ∧ (1 ≤ (16 : Byte).toNat ∧ (16 : Byte).toNat ≤ 16) ∧ 10 ≤ (200 : Byte).toNat + 256 * (0 : Byte).toNat :=
  ⟨idlePart_receptive, by decide, by decide⟩

theorem witness_ScanRequestsActOnTheScanner :
    idlePart.Receptive ∧ idlePart.scanner.state = .waiting ∧ measuredPart.Receptive ∧
      measuredPart.scanner.state = .scanning ∧ measuredPart.FirstProbe 0 ∧ idlePart.settings.scanInterval = (5 : Byte).toNat ∧
      ({ idlePart with
          settings := { idlePart.settings with scanEnable := false }
          scanner := { idlePart.scanner with state := .off } } : State).Receptive ∧
      (∀ p, (idlePart.probe p).qualifies = false) ∧
      (let s : State := { idlePart with scanner := { idlePart.scanner with timer := 4 } }
      s.Receptive ∧ (3 : Byte).toNat ≠ s.settings.scanInterval ∧ (3 : Byte).toNat ≤ s.scanner.timer ∧
        s.scanner.state = .waiting ∧ s.settings.scanEnable = true) := by
  refine ⟨idlePart_receptive, rfl, ?_, rfl, ⟨by decide +kernel, fun q h => absurd h (by simp)⟩, rfl, ?_,
    by decide +kernel, ?_, by decide, by decide, rfl, rfl⟩ <;>
    (unfold State.Receptive State.Awake State.Quiet; decide +kernel)

/-- A legal curve; an Lc out of range, an Lc not above the one before, and an MC above the one before. -/
theorem witness_CurveRequestsReplaceOrClearAGroup :
    idlePart.Receptive ∧ LegalPoints [⟨0, 600⟩, ⟨2000, 20⟩] ∧ idlePart.naming 0 = 0 ∧ measuredPart.naming 0 = 5 ∧
      FirstFailing (pointConditions [⟨2001, 600⟩, ⟨2000, 20⟩]) 0 ∧
      FirstFailing (pointConditions [⟨700, 170⟩, ⟨700, 160⟩]) 2 ∧
      FirstFailing (pointConditions [⟨700, 170⟩, ⟨701, 171⟩]) 3 := by
  refine ⟨idlePart_receptive, by simp [LegalPoints], by decide +kernel, by decide +kernel,
    ⟨⟨_, rfl, by simp⟩, fun j x h => absurd h (by omega)⟩, ⟨⟨_, rfl, by simp⟩, ?_⟩, ⟨⟨_, rfl, by simp⟩, ?_⟩⟩
  all_goals
    intro j x h e
    match j with
    | 0 | 1 | 2 => first | omega | (cases e; simp)
    | _ + 3 => omega

theorem witness_ZoneConfigActsOnTheZone :
    idlePart.Receptive ∧ (idlePart.zoneSettings .z4).active = true ∧ runningPart.currentStep = some dryStep ∧
      (runningPart.setZoneSettings .z1 { ZoneSettings.default with active := false }).Receptive ∧ (100 : Byte).toNat ≤ 100 := by
  refine ⟨idlePart_receptive, rfl, by decide +kernel, ?_, by decide⟩
  unfold State.Receptive State.Awake State.Quiet; decide +kernel

theorem witness_LoopModeFollowsItsTable :
    runningPart.Receptive ∧ (runningPart.zoneSettings .z1).heatMode = .auto ∧
      (runningPart.setZoneSettings .z1 { ZoneSettings.default with heatMode := .manual, humidityMode := .manual }).Receptive := by
  refine ⟨runningPart_receptive, rfl, ?_⟩
  unfold State.Receptive State.Awake State.Quiet; decide +kernel

theorem witness_FanConfigActsAtOnce :
    runningPart.Receptive ∧ runningPart.ForcingAgrees ∧ runningPart.VentsAgree ∧
      (withFans { runningPart.fans with state := .coasting, compareActive := false, coastTimer := 30 } false).Receptive ∧
      (withFans { runningPart.fans with state := .coasting, compareActive := false, coastTimer := 30 } false).ForcingAgrees ∧
      (withFans { runningPart.fans with state := .coasting, compareActive := false, coastTimer := 30 } false).VentsAgree := by
  refine ⟨runningPart_receptive, runningPart_forcingAgrees, runningPart_ventsAgree, ?_, ?_, ?_⟩
  · unfold State.Receptive State.Awake State.Quiet; decide +kernel
  · intro z k; cases z <;> cases k <;> decide +kernel
  · intro z; cases z <;> decide +kernel

/-- Fans that start with 10 seconds on the timer, and a window of 10 seconds written: FAN_RUN at level 2 and at level 0. -/
theorem witness_FanConfigActsAtOnce_in_a_start :
    ∀ level, level = 0 ∨ level = 2 →
      let s : State :=
        { withFans { startingFans with confirmTimer := 10 } false with
          settings :=
            { runningPart.settings with
              interlocks :=
                runningPart.settings.interlocks.set .fanRun { expectedClosed := false, compare := true, level } } }
      s.Receptive ∧ s.ForcingAgrees ∧ s.VentsAgree ∧ s.fans.state = .starting ∧ (10 : Byte).toNat ≤ s.fans.confirmTimer ∧
        (s.input .fanRun).live = false ∧ (s.input .fanRun).latch = false ∧ s.fans.Agrees ∧ s.InterlockAgrees ∧
        s.ValvesSound ∧ s.inputLevel .fanRun = level ∧ s.fans.NoReversal := by
  rintro level (rfl | rfl)
  all_goals
    refine ⟨?_, ?_, ?_, rfl, by decide, rfl, rfl, rfl, ?_, ?_, rfl, .inl rfl⟩
    · unfold State.Receptive State.Awake State.Quiet; decide +kernel
    · intro z k; cases z <;> cases k <;> decide +kernel
    · intro z; cases z <;> decide +kernel
    · intro _; decide +kernel
    · intro z k; unfold Valve.Sound; cases z <;> cases k <;> decide +kernel

/-- An input that may trip at any level or is not judged, a latch already set, ESTOP's own values, and FAN_RUN of running
fans that read stopped at level 0. -/
theorem witness_InterlockConfigJudgesTheInput :
    runningPart.Receptive ∧ (∀ i, (runningPart.input i).latch = false) ∧
      (runningPart.settings.interlocks.get .aux1).compare = false ∧ (runningPart.input .aux1).live = true ∧
      runningPart.settings.interlocks.get .estop = { expectedClosed := true, compare := true, level := 3 } ∧
      (runningPart.setInput .aux1 { live := true, latch := true, trippedAt := some 0 }).Receptive ∧
      (let s : State :=
        { withFans runningPart.fans false with
          settings :=
            { runningPart.settings with
              interlocks :=
                runningPart.settings.interlocks.set .fanRun { expectedClosed := false, compare := true, level := 0 } } }
      s.Receptive ∧ s.fans.state.isRunning = true ∧ (s.input .fanRun).live = false ∧ s.fans.Agrees ∧
        s.InterlockAgrees ∧ s.ValvesSound ∧ s.ForcingAgrees) := by
  refine ⟨runningPart_receptive, ?_, rfl, rfl, rfl, ?_, ?_, rfl, rfl, runningPart_fansAgree, ?_, ?_, ?_⟩
  · intro i; cases i <;> rfl
  · unfold State.Receptive State.Awake State.Quiet; decide +kernel
  · unfold State.Receptive State.Awake State.Quiet; decide +kernel
  · intro _; decide +kernel
  · intro z k; unfold Valve.Sound; cases z <;> cases k <;> decide +kernel
  · intro z k; cases z <;> cases k <;> decide +kernel

/-- A level-1 latch of a conforming and of a nonconforming input, a level-2 latch that holds the run, failed fans. -/
theorem witness_InterlockClearReleasesTheLatch :
    (∀ live, (runningPart.setInput .heatSupply { live, latch := true, trippedAt := some 0 }).Receptive) ∧
      (∀ live, (runningPart.setInput .heatSupply { live, latch := true, trippedAt := some 0 }).InterlockAgrees) ∧
      (let s : State :=
        { (inState .held { HoldSet.empty with interlock := true }).setInput .aux1
            { live := true, latch := true, trippedAt := some 0 } with
          settings :=
            { runningPart.settings with
              interlocks :=
                runningPart.settings.interlocks.set .aux1 { expectedClosed := true, compare := true, level := 2 } } }
      s.Receptive ∧ s.InterlockAgrees ∧ s.inputLevel .aux1 = 2) ∧
      (let s : State :=
        { (runningPart.setInput .fanRun { live := false, latch := true, trippedAt := some 0 }) with
          fans := { Fans.powerOn with state := .failed, compareActive := true }
          settings :=
            { runningPart.settings with
              interlocks :=
                runningPart.settings.interlocks.set .fanRun { expectedClosed := false, compare := true, level := 1 } } }
      s.Receptive ∧ s.InterlockAgrees ∧ s.fans.expectRunning = false ∧ s.run.state.going = true) := by
  refine ⟨fun live => ?_, fun live => ?_, ⟨?_, ?_, rfl⟩, ?_, ?_, rfl, rfl⟩
  · cases live <;> (unfold State.Receptive State.Awake State.Quiet; decide +kernel)
  · intro _; cases live <;> decide +kernel
  · unfold State.Receptive State.Awake State.Quiet; decide +kernel
  · intro _; decide +kernel
  · unfold State.Receptive State.Awake State.Quiet; decide +kernel
  · intro _; decide +kernel

/-- A level-2 latch of AUX1 that is the only one, with another hold reason beside it, and with another level-2 latch; and
FAN_RUN's at its default level in a HELD run with failed fans. -/
theorem witness_InterlockClearReleasesTheLatch_at_level_2 :
    (∀ other quorum,
      let s : State :=
        { (((inState .held { HoldSet.empty with interlock := true, quorum }).setInput .aux1
              { live := true, latch := true, trippedAt := some 0 }).setInput .aux2
            { live := true, latch := other, trippedAt := none }) with
          settings :=
            { runningPart.settings with
              interlocks :=
                (runningPart.settings.interlocks.set .aux1 { expectedClosed := true, compare := true, level := 2 }).set
                  .aux2 { expectedClosed := true, compare := true, level := 2 } } }
      s.Receptive ∧ (s.input .aux1).latch = true ∧ (s.input .aux1).live = true ∧ s.inputLevel .aux1 = 2 ∧
        (s.input .aux2).latch = other ∧ s.inputLevel .aux2 = 2 ∧ s.run.reasons.quorum = quorum) ∧
    (let s : State :=
      { ((inState .held { HoldSet.empty with interlock := true }).setInput .fanRun
          { live := false, latch := true, trippedAt := some 0 }) with
        fans := { Fans.powerOn with state := .failed, compareActive := true } }
    s.Receptive ∧ s.inputLevel .fanRun = 2 ∧ (s.input .fanRun).latch = true ∧ (s.input .fanRun).live = s.fans.expectRunning ∧
      s.fans.Agrees ∧ s.fans.state = .failed ∧ s.run.state.going = true) := by
  refine ⟨fun other quorum => ⟨?_, rfl, rfl, rfl, rfl, rfl, rfl⟩, ?_, rfl, rfl, rfl, And.intro rfl rfl, rfl, rfl⟩
  · cases other <;> cases quorum <;> (unfold State.Receptive State.Awake State.Quiet; decide +kernel)
  · unfold State.Receptive State.Awake State.Quiet; decide +kernel

theorem witness_QueueAndMemoryRequests :
    idlePart.Receptive ∧ idlePart.history.frames = [] ∧ idlePart.notices = [] ∧ idlePart.memory.op = .none ∧
      (∀ op i, (writing op none i false).Receptive) ∧
      ({ idlePart with notices := [⟨.saveDone, 0, 0, 0, false⟩] } : State).Receptive ∧
      (let n : Notice := ⟨.saveDone, 0, 0, 0, false⟩
      List.replicate 32 n = n :: n :: List.replicate 30 n ∧ (List.replicate 32 n).length = 32) := by
  refine ⟨idlePart_receptive, rfl, rfl, rfl, fun _ _ => ?_, ?_, rfl, rfl⟩
  · exact And.intro (And.intro rfl (And.intro rfl (And.intro rfl (And.intro rfl (And.intro rfl (And.intro rfl rfl))))))
      (And.intro rfl rfl)
  · unfold State.Receptive State.Awake State.Quiet; decide +kernel

theorem witness_BlockResetsReachTheirBlockAlone :
    idlePart.Receptive ∧ idlePart.scanner.measurement = none ∧ measuredPart.Receptive ∧
      ((runningPart.outputs.get .z1).valve .heat).cycle.isSome = true ∧
      ((idlePart.outputs.get .z1).valve .heat).cycle = none ∧ 4 < (5 : Byte).toNat ∧
      (receiving (.crc 1 4 [0x49, 7, 5, 0] (some 37))).Awake ∧
      AwaitsLastByte (receiving (.crc 1 4 [0x49, 7, 5, 0] (some 37))) 0x49 7 [5, 0] 56 ∧
      AwaitsLastByte (receiving (.crc 1 2 [0x49, 7] (some 91))) 0x49 7 [] 167 := by
  refine ⟨idlePart_receptive, rfl, ?_, by decide +kernel, by decide +kernel, by decide, receiving_awake _,
    ⟨_, _, _, rfl, by decide +kernel⟩, _, _, _, rfl, by decide +kernel⟩
  unfold State.Receptive State.Awake State.Quiet; decide +kernel

/-- Before a part is READY, and in a run, there is a next state to which the invariants apply. -/
theorem witness_EveryStep : (∃ t, step State.reset = .next t) ∧ ∃ t, step runningPart = .next t := ⟨⟨_, rfl⟩, ⟨_, rfl⟩⟩

/-- A part before READY and one in a run, each with a next state. -/
theorem witness_EveryStepKeepsInterlocksAndFans :
    ∀ s, s = State.reset ∨ s = runningPart →
      (∃ t, step s = .next t) ∧ s.scanner.Agrees ∧ s.InterlocksSound ∧ s.FansSound ∧ s.FanSettingsSound := by
  rintro s (rfl | rfl)
  · refine ⟨⟨_, rfl⟩, ?_, ⟨fun h => ?_, fun _ => ⟨fun i => ?_, rfl, rfl, rfl, rfl⟩, fun h => ?_⟩, ⟨⟨rfl, rfl⟩, ?_, ?_⟩, ?_⟩
    · simp [Scanner.Agrees, State.reset, Scanner.powerOn]
    · rfl
    · cases i <;> rfl
    · exact absurd h (by decide)
    · intro h; exact absurd h (by decide)
    · intro h; exact absurd h (by decide)
    · simp [State.FanSettingsSound, Settings.FansWithin, Memory.ImagesMeet, State.reset, Settings.default]
  · refine ⟨⟨_, rfl⟩, ?_, ⟨fun h => ?_, fun h => ?_, runningPart_interlockAgrees⟩, ⟨runningPart_fansAgree, ?_, ?_⟩, ?_⟩
    · simp [Scanner.Agrees, show runningPart.scanner = { Scanner.powerOn with state := .waiting } from rfl, Scanner.powerOn]
    · exact absurd h (by decide +kernel)
    · exact absurd h (by decide)
    · intro h; exact absurd h (by decide)
    · intro h; exact absurd h (by decide)
    · refine ⟨by unfold Settings.FansWithin; decide +kernel, fun i h => ?_, fun i h => ?_, fun i h => ?_⟩ <;> cases h

/-- RUN_START of stopped fans whose direction was REV, the end of a coast, and RUN_START after the due end of the last
step has stopped fans that ran in REV, are changes of direction. -/
theorem witness_DirectionChangesOnlyWithRunOff :
    (let s : State := { startable with fans := { Fans.powerOn with direction := .rev } }
    1 ≤ s.settings.coastTime ∧ s.Quiet ∧ shows (.runStart 0 [0]) s (·.fans.direction) = some .fwd) ∧
    (let s := withFans { runningPart.fans with state := .coasting, compareActive := false, coastTimer := 90 } false
    1 ≤ s.settings.coastTime ∧ s.due = .none ∧ s.confirmIsOver = false ∧ s.scanExpiryDue = false ∧
      s.restartIsDue = false ∧
      shows .coastEnd s (·.fans.direction) = some .rev) ∧
    (let s : State :=
      { judging dryStep 60 with
        schedule := { runningPart.schedule with bufferA := [dryStep] }
        fans := { runningPart.fans with state := .runningRev, direction := .rev } }
    1 ≤ s.settings.coastTime ∧
    s.restartIsDue = false ∧ s.takeDue.fans.state = .stopped ∧
      shows (.runStart 0 [0]) s (·.fans.direction) = some .fwd) := by
  refine ⟨⟨by decide, ?_, by decide +kernel⟩, by decide +kernel, by decide +kernel⟩
  unfold State.Quiet; decide +kernel

end Sys2Proof.Tests
end

section
/-! SUPPORT. What a step is made of: the operations that the commands of the part apply to a state, once. A condition
that each of them keeps is kept by every step. -/

namespace Sys2Proof.Machine

/-! ### Checks of request fields (R166) -/

/-- No field is reported exactly when every check passes. -/
theorem firstBad_eq_none_iff (checks : List (Nat × Bool)) : firstBad checks = none ↔ ∀ c ∈ checks, c.2 = true := by
  simp [firstBad]

/-! ### The operations of the requests -/

/-- R42, R51, R53: the records that a request may give a probe in place of its own. -/
inductive RecordReplaced (r : ProbeRecord) : ProbeRecord → Prop
  | cleared : RecordReplaced r .cleared
  | assigned (a : Assignment) : RecordReplaced r (.assigned a)
  | blocked (h : r.state ≠ .unassigned) : RecordReplaced r r.block
  | readmitted (h : r.state = .faulted) : RecordReplaced r r.renew

/-- A condition is kept by what the requests of the catalogue do to a part that is READY (R165), each operation under the
checks that its request has passed. -/
structure RequestsKeep (P : State → Prop) : Prop where
  link : ∀ s, P s → ∀ l : Link, P { s with link := l }
  replaceRecord : ∀ s, P s → s.ready = true → ∀ p r, RecordReplaced (s.probe p) r → P (s.replaceRecord p r)
  unblock : ∀ s, P s → s.ready = true → ∀ p, (s.probe p).state = .blocked → P (s.setProbe p (s.probe p).renew)
  probeConfig : ∀ s, P s → s.ready = true → ∀ w q jumpLimit quorumAction,
    P { s with settings := { s.settings with w, q, jumpLimit, quorumAction } }
  resetProbes : ∀ s, P s → s.ready = true → P s.resetProbes
  scanConfig : ∀ s, P s → s.ready = true → ∀ interval enable tolerance,
    P (s.writeScanConfig interval enable tolerance)
  scanNow : ∀ s, P s → s.ready = true → s.scanner.state ≠ .scanning → P s.startScan
  resetScanner : ∀ s, P s → s.ready = true → P s.resetScanner
  putCurve : ∀ s, P s → s.ready = true → ∀ g c, P (s.putCurve g c)
  clearCurve : ∀ s, P s → s.ready = true → ∀ g, P (s.clearCurve g)
  setEdit : ∀ s, P s → s.ready = true → ∀ steps, P (s.setEdit steps)
  cancelAdoption : ∀ s, P s → s.ready = true → P { s with schedule := { s.schedule with adoption := none } }
  adopt : ∀ s, P s → s.ready = true → ∀ atStepEnd target restart, s.schedule.adoption = none →
    adoptionRefused atStepEnd s.run.state = false → validate s.schedule.editSteps = none →
    (s.run.state.going = true → target < s.schedule.editSteps.length) → P (s.adopt atStepEnd target restart)
  runStart : ∀ s, P s → s.ready = true → ∀ i, s.run.state.inProgress = false →
    i < s.schedule.activeSteps.length →
    s.startTripped = false → s.activeZones.isEmpty = false → P (s.startRun i)
  runHold : ∀ s, P s → s.ready = true → s.run.state.going = true → P (s.addReason .host).wantCheckpoint
  runResume : ∀ s, P s → s.ready = true → s.run.state = .held → P s.resumeRun
  runRestart : ∀ s, P s → s.ready = true → s.run.state = .safe → s.anyLatchOfLevel 3 = false → P s.restartRun
  runAbort : ∀ s, P s → s.ready = true → s.run.state.inProgress = true → P s.abortRun
  writeZone : ∀ s, P s → s.ready = true → ∀ z active woodFitted heatKp heatKi humidityKp humidityKi band,
    P (s.writeZone z { s.zoneSettings z with active, woodFitted, heatKp, heatKi, humidityKp, humidityKi } band)
  switchHeat : ∀ s, P s → s.ready = true → ∀ z toManual value,
    (toManual = true → inRangeInt 0 1000 value = true) → P (s.switchHeat z toManual value)
  switchHumidity : ∀ s, P s → s.ready = true → ∀ z toManual value,
    (toManual = true → inRangeInt (-1000) 1000 value = true) → P (s.switchHumidity z toManual value)
  resetZone : ∀ s, P s → s.ready = true → ∀ z, P (s.resetZone z)
  fanConfig : ∀ s, P s → s.ready = true → ∀ window coast heat spray position,
    inRange 5 60 window = true → inRange 30 300 coast = true → inRange 10 120 heat = true →
    inRange 10 120 spray = true → (position == 0 || position == 1000) = true →
    P (s.writeFanConfig window coast heat spray position)
  interlockConfig : ∀ s, P s → s.ready = true → ∀ i expected compare level,
    firstBad (interlockChecks i expected compare level) = none →
    P (s.configureInput i (interlockWrite i (s.settings.interlocks.get i) expected compare level))
  clearLatch : ∀ s, P s → s.ready = true → ∀ i, (s.input i).latch = true →
    s.conforms i = true → P (s.clearLatch i)
  readFrame : ∀ s, P s → s.ready = true → ∀ f rest, s.history.frames = f :: rest →
    P { s with history := { s.history with frames := rest } }
  resetHistory : ∀ s, P s → s.ready = true → P { s with history := s.history.reset }
  dropNotices : ∀ s, P s → s.ready = true → ∀ n, P { s with notices := s.notices.drop n }
  requestSave : ∀ s, P s → s.ready = true → s.memory.saveBusy = false →
    P { s with memory := s.memory.requestSave s.imageNow }

namespace RequestsKeep

variable {P : State → Prop}

/-- A payload of one probe: a refusal changes nothing. -/
theorem withProbe (payload : List Byte) (s : State) (short : Reply) (f : Fin 48 → State × Reply) (hs : P s)
    (hf : ∀ p, P (f p).1) : P (withProbe payload s short f).1 := by
  unfold Machine.withProbe
  split
  · split
    · exact hf _
    · exact hs
  · exact hs

/-- A payload of one group: a refusal changes nothing. -/
theorem withGroup (payload : List Byte) (s : State) (f : Fin 8 → State × Reply) (hs : P s)
    (hf : ∀ g, P (f g).1) : P (withGroup payload s f).1 := by
  unfold Machine.withGroup
  split
  · split
    · exact hf _
    · exact hs
  · exact hs

variable (h : RequestsKeep P) (payload : List Byte) (s : State) (hs : P s) (hr : s.ready = true)
include h hs hr

theorem probeSet : P (handleProbeSet payload s).1 := by
  unfold handleProbeSet
  split
  · split
    · exact hs
    · split
      · exact h.replaceRecord s hs hr _ _ .cleared
      · split
        · exact hs
        · exact hs
        · exact hs
        · exact h.replaceRecord s hs hr _ _ (.assigned _)
  · exact hs

theorem probeBlock : P (handleProbeBlock payload s).1 := by
  refine withProbe _ _ _ _ hs fun p => ?_
  cases hp : (s.probe p).state with
  | unassigned | blocked => exact hs
  | new | good | suspect | faulted => exact h.replaceRecord s hs hr _ _ (.blocked (by simp [hp]))

theorem probeUnblock : P (handleProbeUnblock payload s).1 := by
  refine withProbe _ _ _ _ hs fun p => ?_
  cases hp : (s.probe p).state with
  | blocked => exact h.unblock s hs hr p hp
  | unassigned | new | good | suspect | faulted => exact hs

theorem probeReadmit : P (handleProbeReadmit payload s).1 := by
  refine withProbe _ _ _ _ hs fun p => ?_
  cases hp : (s.probe p).state with
  | faulted => exact h.replaceRecord s hs hr _ _ (.readmitted hp)
  | unassigned | new | good | suspect | blocked => exact hs

theorem probeConfigWrite : P (handleProbeConfig payload s).1 := by
  unfold handleProbeConfig
  split
  · exact hs
  · split
    · exact hs
    · exact hs
    · exact h.probeConfig s hs hr _ _ _ _
  · exact hs

theorem scanConfigWrite : P (handleScanConfig payload s).1 := by
  unfold handleScanConfig
  split
  · exact hs
  · split
    · exact hs
    · exact h.scanConfig s hs hr _ _ _
  · exact hs

theorem scanNowRequest : P (handleScanNow payload s).1 := by
  unfold handleScanNow
  split
  · cases hx : s.scanner.state with
    | scanning => exact hs
    | off | waiting => exact h.scanNow s hs hr (by simp [hx])
  · exact hs

theorem curvePut : P (handleCurvePut payload s).1 := by
  unfold handleCurvePut
  split
  · split
    · exact hs
    · exact hs
    · split
      · exact hs
      · split
        · exact hs
        · exact h.putCurve s hs hr _ _
  · exact hs

theorem curveClear : P (handleCurveClear payload s).1 := by
  refine withGroup _ _ _ hs fun g => ?_
  split
  · exact h.clearCurve s hs hr _
  · exact hs

omit h hr in
/-- An edit of the EDIT buffer behind its lock (R67). -/
theorem edit (taken : State × Reply) (ht : P taken.1) : P (s.edit taken).1 := by
  unfold State.edit
  split
  · exact hs
  · exact ht

theorem schedClear : P (handleSchedClear payload s).1 := by
  unfold handleSchedClear
  split
  · exact edit s hs _ (h.setEdit s hs hr _)
  · exact hs

theorem schedPutStep : P (handleSchedPutStep payload s).1 := by
  unfold handleSchedPutStep
  split
  · split
    · exact hs
    · refine edit s hs _ ?_
      split
      · exact hs
      · exact hs
      · exact h.setEdit s hs hr _
  · exact hs

theorem schedTruncate : P (handleSchedTruncate payload s).1 := by
  unfold handleSchedTruncate
  split
  · refine edit s hs _ ?_
    split
    · exact hs
    · exact h.setEdit s hs hr _
  · exact hs

theorem schedCopyActive : P (handleSchedCopyActive payload s).1 := by
  unfold handleSchedCopyActive
  split
  · exact edit s hs _ (h.setEdit s hs hr _)
  · exact hs

theorem schedAdopt : P (handleSchedAdopt payload s).1 := by
  unfold handleSchedAdopt
  split
  · split
    · exact hs
    · split
      · exact hs
      · rename_i hnone
        split
        · exact hs
        · rename_i hallowed
          split
          · exact hs
          · rename_i hvalid
            split
            · exact hs
            · rename_i hfits
              refine h.adopt s hs hr _ _ _ (by simpa using hnone) (by simpa using hallowed) hvalid fun hg => ?_
              simpa [hg] using hfits
  · exact hs

theorem schedAdoptCancel : P (handleSchedAdoptCancel payload s).1 := by
  unfold handleSchedAdoptCancel
  split
  · split
    · exact h.cancelAdoption s hs hr
    · exact hs
  · exact hs

theorem runStartRequest : P (handleRunStart payload s).1 := by
  unfold handleRunStart
  split
  · split
    · exact hs
    · rename_i hidle
      split
      · exact hs
      · split
        · exact hs
        · rename_i hindex
          split
          · exact hs
          · rename_i htrip
            split
            · exact hs
            · rename_i hzones
              exact h.runStart s hs hr _ (by simpa using hidle) (by simpa using hindex) (by simpa using htrip)
                (by simpa using hzones)
  · exact hs

theorem runHoldRequest : P (handleRunHold payload s).1 := by
  unfold handleRunHold
  split
  · split
    · exact h.runHold s hs hr ‹_›
    · exact hs
  · exact hs

theorem runResumeRequest : P (handleRunResume payload s).1 := by
  unfold handleRunResume
  split
  · split
    · exact h.runResume s hs hr ‹_›
    · exact hs
  · exact hs

theorem runRestartRequest : P (handleRunRestart payload s).1 := by
  unfold handleRunRestart
  split
  · split
    · rename_i hsafe
      split
      · exact hs
      · rename_i hlatch
        exact h.runRestart s hs hr hsafe (by simpa using hlatch)
    · exact hs
  · exact hs

theorem runAbortRequest : P (handleRunAbort payload s).1 := by
  unfold handleRunAbort
  split
  · split
    · exact h.runAbort s hs hr ‹_›
    · exact hs
  · exact hs

theorem zoneConfig : P (handleZoneConfig payload s).1 := by
  unfold handleZoneConfig
  split
  · split
    · exact hs
    · exact hs
  · split
    · exact hs
    · split
      · exact hs
      · exact h.writeZone s hs hr _ _ _ _ _ _ _ _
  · exact hs

theorem loopMode : P (handleLoopMode payload s).1 := by
  unfold handleLoopMode
  split
  · rename_i loop mode v0 v1
    split
    · exact hs
    · dsimp only
      split
      · exact hs
      · rename_i hok
        have hfits : decide (mode.toNat = 1) = true → manualFits loop.toNat (readSigned2 v0 v1) = true := by
          rw [firstBad_eq_none_iff] at hok
          simp only [List.forall_mem_cons] at hok
          obtain ⟨-, -, hvalue, -⟩ := hok
          intro hmanual
          simpa [hmanual] using hvalue
        split
        · rename_i hheat
          exact h.switchHeat s hs hr _ _ _ fun hm => by simpa [manualFits, hheat] using hfits hm
        · rename_i hheat
          exact h.switchHumidity s hs hr _ _ _ fun hm => by simpa [manualFits, hheat] using hfits hm
  · exact hs

theorem fanConfigWrite : P (handleFanConfig payload s).1 := by
  unfold handleFanConfig
  split
  · exact hs
  · dsimp only
    split
    · exact hs
    · rename_i hok
      rw [firstBad_eq_none_iff] at hok
      simp only [List.forall_mem_cons] at hok
      obtain ⟨hwindow, hcoast, hheat, hspray, hposition, -⟩ := hok
      exact h.fanConfig s hs hr _ _ _ _ _ hwindow hcoast hheat hspray hposition
  · exact hs

theorem interlockConfigWrite : P (handleInterlockConfig payload s).1 := by
  unfold handleInterlockConfig
  split
  · split
    · exact hs
    · exact hs
  · split
    · exact hs
    · split
      · exact hs
      · exact h.interlockConfig s hs hr _ _ _ _ ‹_›
  · exact hs

theorem interlockClear : P (handleInterlockClear payload s).1 := by
  unfold handleInterlockClear
  split
  · split
    · exact hs
    · split
      · exact hs
      · rename_i hlatch
        split
        · exact h.clearLatch s hs hr _ (by simpa using hlatch) ‹_›
        · exact hs
  · exact hs

theorem historyRead : P (handleHistoryRead payload s).1 := by
  unfold handleHistoryRead
  split
  · split
    · exact hs
    · exact h.readFrame s hs hr _ _ ‹_›
  · exact hs

theorem noticeFetch : P (handleNoticeFetch payload s).1 := by
  unfold handleNoticeFetch
  split
  · split
    · exact hs
    · exact h.dropNotices s hs hr 4
  · exact hs

theorem settingsSave : P (handleSettingsSave payload s).1 := by
  unfold handleSettingsSave
  split
  · split
    · exact hs
    · rename_i hbusy
      exact h.requestSave s hs hr (by simpa using hbusy)
  · exact hs

omit hr in
theorem restartPart : P (handleRestartPart payload s).1 := by
  unfold handleRestartPart
  split
  · exact h.link s hs _
  · exact hs

theorem resetBlock : P (handleResetBlock payload s).1 := by
  unfold handleResetBlock
  split
  · split
    · exact h.resetScanner s hs hr
    · exact h.resetProbes s hs hr
    · exact h.resetZone s hs hr _
    · exact hs
    · exact h.resetHistory s hs hr
    · simpa using h.dropNotices s hs hr s.notices.length
    · exact hs
  · exact hs

omit h hr in
/-- The requests that only read: their handlers leave the state as it is. -/
theorem readOnly {f : List Byte → State → State × Reply}
    (hf : f ∈ [handleIdentify, handleStatus, handleProbeGet, handleStatsGet, handleCurveGet, handleSchedGetStep,
      handleRunGet, handleZoneGet, handleInterlockGet, handleHistoryLatest]) : P (f payload s).1 := by
  have hsame : (f payload s).1 = s := by
    fin_cases hf
    all_goals
      simp only [handleIdentify, handleStatus, handleProbeGet, handleStatsGet, handleCurveGet, handleSchedGetStep,
        handleRunGet, handleZoneGet, handleInterlockGet, handleHistoryLatest, Machine.withProbe, Machine.withGroup,
        probeReply, scheduleReply, runReply, zoneReply]
      (repeat' split) <;> rfl
  rwa [hsame]

/-- Every request of the catalogue, by its handler (10.5). -/
theorem handled {kind : Nat} {f : List Byte → State → State × Reply} (hf : handlerOf kind = some f) :
    P (f payload s).1 := by
  unfold handlerOf at hf
  split at hf <;> cases hf
  · exact readOnly payload s hs (by simp)
  · exact readOnly payload s hs (by simp)
  · exact h.probeSet payload s hs hr
  · exact readOnly payload s hs (by simp)
  · exact h.probeBlock payload s hs hr
  · exact h.probeUnblock payload s hs hr
  · exact h.probeReadmit payload s hs hr
  · exact h.probeConfigWrite payload s hs hr
  · exact readOnly payload s hs (by simp)
  · exact h.scanConfigWrite payload s hs hr
  · exact h.scanNowRequest payload s hs hr
  · exact h.curvePut payload s hs hr
  · exact readOnly payload s hs (by simp)
  · exact h.curveClear payload s hs hr
  · exact h.schedClear payload s hs hr
  · exact h.schedPutStep payload s hs hr
  · exact h.schedTruncate payload s hs hr
  · exact h.schedCopyActive payload s hs hr
  · exact readOnly payload s hs (by simp)
  · exact h.schedAdopt payload s hs hr
  · exact h.schedAdoptCancel payload s hs hr
  · exact h.runStartRequest payload s hs hr
  · exact h.runHoldRequest payload s hs hr
  · exact h.runResumeRequest payload s hs hr
  · exact h.runRestartRequest payload s hs hr
  · exact h.runAbortRequest payload s hs hr
  · exact readOnly payload s hs (by simp)
  · exact h.zoneConfig payload s hs hr
  · exact readOnly payload s hs (by simp)
  · exact h.loopMode payload s hs hr
  · exact h.fanConfigWrite payload s hs hr
  · exact h.interlockConfigWrite payload s hs hr
  · exact readOnly payload s hs (by simp)
  · exact h.interlockClear payload s hs hr
  · exact h.historyRead payload s hs hr
  · exact readOnly payload s hs (by simp)
  · exact h.noticeFetch payload s hs hr
  · exact h.settingsSave payload s hs hr
  · exact h.resetBlock payload s hs hr
  · exact h.restartPart payload s hs

omit hr in
/-- R165: a dispatched frame: a request is handled, refused before READY, or unknown. -/
theorem dispatch (kind : Byte) : P (s.dispatch kind payload).1 := by
  unfold State.dispatch
  split
  · exact hs
  · rename_i f hf
    split
    · rename_i hserved
      by_cases hready : s.ready = true
      · exact h.handled payload s hs hready hf
      · have hearly : kind = 0x01#8 ∨ kind = 0x02#8 := by simpa [hready, servedEarly] using hserved
        refine readOnly payload s hs ?_
        obtain rfl | rfl := hearly <;> cases hf <;> simp
    · exact hs

end RequestsKeep
end Sys2Proof.Machine
end

section
/-! SUPPORT. A condition kept by the part's own events and by its requests is kept by every command and every step. -/

namespace Sys2Proof.Machine

/-- A condition is kept by what each command of the part does, the requests of the catalogue among them. -/
structure CommandsKeep (P : State → Prop) : Prop extends RequestsKeep P where
  pending : ∀ s, P s → ∀ queue, P { s with pending := queue }
  finishEvent : ∀ s, P s → P s.finishEvent
  tickValves : ∀ s, P s → P s.tickValves
  reachOnTime : ∀ s, P s → ∀ z k, P (s.mapValve z k Valve.reachOnTime)
  reachPeriod : ∀ s, P s → ∀ z k, P (s.mapValve z k fun v => v.reachPeriod (s.settings.period k))
  takeHours : ∀ s, P s → P s.takeHours
  takeSettle : ∀ s, P s → P s.takeSettle
  takeTimeout : ∀ s, P s → P s.takeTimeout
  takeHourCheckpoint : ∀ s, P s → P s.takeHourCheckpoint
  takeCoastEnd : ∀ s, P s → P s.takeCoastEnd
  takeConfirmExpiry : ∀ s, P s → P s.takeConfirmExpiry
  takeScanExpiry : ∀ s, P s → P s.takeScanExpiry
  checkReversal : ∀ s, P s → P s.checkReversal
  restartNow : ∀ s, P s → s.restartIsDue = true → P s.restartNow
  powerOn : ∀ s, P s → ∀ straps contacts, P (s.takePowerOn straps contacts)
  powerLoss : ∀ s, P s → ∀ tear, P (s.losePower tear)
  loadEnd : ∀ s, P s → s.memory.op = .load → s.ready = false → ∀ settingsReads checkpointReads,
    P (s.endLoad settingsReads checkpointReads)
  checkpointWriteEnd : ∀ s, P s → ∀ result, P (s.endCheckpointWrite result)
  saveWriteEnd : ∀ s, P s → ∀ result, P (s.endSaveWrite result)
  countSecond : ∀ s, P s → P s.countSecond
  takeSet : ∀ s, P s → s.ready = true → s.sampler.setIsDue = true → ∀ samples, P (s.takeSet samples)
  settleEnds : ∀ s, P s → P s.settleEnds
  countEnds : ∀ s, P s → ∀ n, P (s.countEnds n)
  changeLive : ∀ s, P s → ∀ i closed, P (s.changeLive i closed)

namespace CommandsKeep

variable {P : State → Prop} (h : CommandsKeep P)
include h

theorem takeRestart (s : State) (hs : P s) : P s.takeRestart := by
  unfold State.takeRestart
  split
  · exact h.restartNow s hs ‹_›
  · exact hs

theorem takeMinuteWork (s : State) (hs : P s) : P s.takeMinuteWork :=
  h.finishEvent _ (h.takeHourCheckpoint _ (h.takeTimeout _ hs))

/-- Everything that is due is taken (log 2). -/
theorem takeDue (s : State) (hs : P s) : P s.takeDue :=
  h.takeRestart _ <| h.finishEvent _ <| h.checkReversal _ <| h.takeScanExpiry _ <| h.takeConfirmExpiry _ <|
    h.takeCoastEnd _ <| h.takeMinuteWork _ hs

theorem caughtUp (s : State) (hs : P s) : P s.caughtUp := by
  unfold State.caughtUp
  split
  · exact h.takeDue s hs
  · exact hs

theorem event (s : State) (hs : P s) (f : State → State) (hf : ∀ t, P t → P (f t)) : P (s.event f) := by
  unfold State.event
  split
  · exact h.finishEvent _ (hf _ (h.takeDue s hs))
  · exact hs

theorem dueEvent (s : State) (hs : P s) (f : State → State) (hf : ∀ t, P t → P (f t)) : P (s.dueEvent f) := by
  unfold State.dueEvent
  split
  · exact h.finishEvent _ (hf _ hs)
  · exact hs

theorem afterMinute (s : State) (hs : P s) (f : State → State) (hf : ∀ t, P t → P (f t)) : P (s.afterMinute f) :=
  h.dueEvent s hs _ fun t ht => hf _ (h.takeMinuteWork t ht)

/-! ### The link -/

theorem accept (s : State) (hs : P s) (kind tag : Byte) (payload : List Byte) : P (s.accept kind tag payload) :=
  h.link _ (h.dispatch payload s hs kind) _

theorem setReceiver (s : State) (hs : P s) (r : Receiver) : P (s.setReceiver r) := h.link s hs _

theorem judgeFrame (s : State) (hs : P s) (address length : Byte) (bytes : List Byte) (high low : Byte) :
    P (s.judgeFrame address length bytes high low) := by
  unfold State.judgeFrame
  split
  · split
    · exact h.accept s hs _ _ _
    · exact h.setReceiver s hs _
  · exact h.setReceiver s hs _

theorem receiveByte (s : State) (hs : P s) (b : Byte) : P (s.receiveByte b) := by
  unfold State.receiveByte
  split
  · split
    · exact h.setReceiver s hs _
    · exact hs
  · exact h.setReceiver s hs _
  · exact h.setReceiver s hs _
  · exact h.setReceiver s hs _
  · exact h.setReceiver s hs _
  · exact h.judgeFrame s hs _ _ _ _ _
  · exact h.setReceiver s hs _
  · exact hs

theorem receiveBytes (bytes : List Byte) (s : State) (hs : P s) : P (bytes.foldl State.receiveByte s) := by
  induction bytes generalizing s with
  | nil => exact hs
  | cons b rest ih => exact ih _ (h.receiveByte s hs b)

theorem request (s : State) (hs : P s) (kind tag : Byte) (payload : List Byte) : P (s.request kind tag payload) := by
  unfold State.request
  split
  · exact h.accept s hs _ _ _
  · exact hs
  all_goals exact h.receiveBytes _ s hs

/-- A request of the host is an event that takes its frame. -/
theorem requestEvent (s : State) (hs : P s) (kind tag : Byte) (payload : List Byte) :
    P (s.event fun t => t.request kind tag payload) :=
  h.event s hs _ fun t ht => h.request t ht kind tag payload

/-! The line's own events move the receiver, the reply in hand or the driver, or change nothing. -/

theorem gap (s : State) (hs : P s) : P s.gap := by
  unfold State.gap; split <;> first | exact hs | exact h.setReceiver s hs _

theorem refuseLength (s : State) (hs : P s) (b : Byte) : P (s.refuseLength b) := by
  unfold State.refuseLength; (repeat' split) <;> first | exact hs | exact h.setReceiver s hs _

theorem endSkip (s : State) (hs : P s) : P s.endSkip := by
  unfold State.endSkip; split <;> first | exact hs | exact h.setReceiver s hs _

theorem refuseCrc (s : State) (hs : P s) (low : Byte) : P (s.refuseCrc low) := by
  unfold State.refuseCrc; (repeat' split) <;> first | exact hs | exact h.setReceiver s hs _

theorem startReply (s : State) (hs : P s) : P s.startReply := by
  unfold State.startReply; split <;> first | exact hs | exact h.link s hs _

theorem endReply (s : State) (hs : P s) : P s.endReply := by
  unfold State.endReply; split <;> first | exact hs | exact h.link s hs _

/-! ### Commands and steps -/

/-- A condition that the operations keep is kept by every command. -/
theorem exec {c : Instr} {s t : State} (hs : P s) (ht : exec c s = .next t) : P t := by
  have hguard : ∀ (b : Bool) (f : State → State) (u : State), P u → (b = true → P (f u)) →
      P (if b then f u else u) := by
    intro b f u hu hf
    split
    · exact hf ‹_›
    · exact hu
  cases c <;> cases ht
  case powerOn straps contacts => exact h.powerOn _ (h.caughtUp s hs) _ _
  case powerLoss tear =>
    exact hguard s.powered (fun t => t.caughtUp.losePower tear) s hs fun _ => h.powerLoss _ (h.caughtUp s hs) _
  case loadEnd a b =>
    refine h.event s hs _ fun t ht => hguard _ (fun t => t.endLoad a b) t ht fun hload => ?_
    simp only [Bool.and_eq_true, decide_eq_true_eq, Bool.not_eq_true'] at hload
    exact h.loadEnd t ht hload.1 hload.2 a b
  case secondEvent => exact h.event s hs _ h.countSecond
  case minuteEvent =>
    refine h.event s hs _ fun t ht => ?_
    split
    · exact h.countSecond t ht
    · exact ht
  case sampleSet x =>
    refine h.event s hs _ fun t ht => hguard _ (fun t => t.takeSet x) t ht fun hset => ?_
    simp only [Bool.and_eq_true] at hset
    exact h.takeSet t ht hset.1 hset.2 x
  case scanTimerExpiry => exact h.afterMinute s hs _ h.takeScanExpiry
  case settleEnd => exact h.event s hs _ h.settleEnds
  case thresholdCrossed n =>
    refine h.event s hs _ fun t ht => ?_
    split
    · exact h.countEnds t ht n
    · exact ht
  case counterFull => exact h.event s hs _ fun t ht => h.countEnds t ht _
  case hoursTestPass => exact h.dueEvent s hs _ fun t ht => hguard _ State.takeHours t ht fun _ => h.takeHours t ht
  case settleTimerPass => exact h.dueEvent s hs _ fun t ht => hguard _ State.takeSettle t ht fun _ => h.takeSettle t ht
  case stepTimeout => exact h.dueEvent s hs _ fun t ht => hguard _ State.takeTimeout t ht fun _ => h.takeTimeout t ht
  case runHourCheckpoint => exact h.dueEvent s hs _ h.takeHourCheckpoint
  case liveLevelChange i closed => exact h.event s hs _ fun t ht => h.changeLive t ht i closed
  case startConfirmExpiry => exact h.afterMinute s hs _ h.takeConfirmExpiry
  case reversalDue => exact h.dueEvent s hs _ h.checkReversal
  case coastEnd => exact h.dueEvent s hs _ h.takeCoastEnd
  case valveOnTimeReached z k => exact h.event s hs _ fun t ht => h.reachOnTime t ht z k
  case valveCycleEnd z k => exact h.event s hs _ fun t ht => h.reachPeriod t ht z k
  case checkpointWriteEnd r => exact h.event s hs _ fun t ht => h.checkpointWriteEnd t ht r
  case saveWriteEnd r => exact h.event s hs _ fun t ht => h.saveWriteEnd t ht r
  case gapTimeout => exact h.event s hs _ h.gap
  case frameLengthInvalid b => exact h.event s hs _ fun t ht => h.refuseLength t ht b
  case frameSkipped => exact h.event s hs _ h.endSkip
  case frameCrcFail b => exact h.event s hs _ fun t ht => h.refuseCrc t ht b
  case replyFirstCharacter => exact h.event s hs _ h.startReply
  case replyEnd => exact h.event s hs _ h.endReply
  case characterReceived b => exact h.event s hs _ fun t ht => h.receiveByte t ht b
  case unknownRequest kind tag payload =>
    exact h.event s hs _ fun t ht => hguard _ (fun t => t.request kind tag payload) t ht fun _ => h.request t ht _ _ _
  case partRestart => exact h.afterMinute s hs _ h.takeRestart
  all_goals exact h.requestEvent s hs _ _ _

/-- A condition that the operations keep is kept by every step. -/
theorem step {s t : State} (hs : P s) (ht : step s = .next t) : P t := by
  unfold Machine.step at ht
  split at ht
  · cases ht
    unfold State.idle
    split
    · exact h.tickValves _ (h.finishEvent _ (h.takeDue s hs))
    · exact hs
  · exact h.exec (h.pending s hs _) ht

end CommandsKeep
end Sys2Proof.Machine
end

section
/-! SUPPORT. The Probe Scanner: the probe that comes next, what a scan start, an advance and a completion come to, and that
a measurement is in progress exactly in SCANNING. -/

namespace Sys2Proof.Machine

/-! ### The next probe (R10) -/

theorem probeNumber_lt_iff (p q : Fin 48) : probeNumber p < probeNumber q ↔ p < q := by
  simp [probeNumber]

theorem zero_lt_probeNumber (p : Fin 48) : 0 < probeNumber p := Nat.succ_pos _

/-- R10: the next probe above a number is the lowest-numbered qualifying one above it. -/
theorem State.nextProbe_eq_some_iff (s : State) (above : Nat) (p : Fin 48) :
    s.nextProbe above = some p ↔
      above < probeNumber p ∧ (s.probe p).qualifies = true ∧
        ∀ q, above < probeNumber q → q < p → (s.probe q).qualifies = false := by
  simp only [State.nextProbe, allProbes, List.find?_eq_some_iff_getElem, Bool.and_eq_true, decide_eq_true_eq,
    List.getElem_finRange, List.length_finRange]
  constructor
  · rintro ⟨⟨habove, hq⟩, i, hi, hip, hbefore⟩
    refine ⟨habove, hq, fun q haboveq hqp => ?_⟩
    have hqi : q.val < i := by rw [← hip] at hqp; exact hqp
    simpa [haboveq] using hbefore q.val hqi
  · rintro ⟨habove, hq, hbefore⟩
    refine ⟨⟨habove, hq⟩, p.val, p.isLt, rfl, fun j hj => ?_⟩
    have hnot := hbefore ⟨j, by omega⟩
    by_cases haj : above < probeNumber ⟨j, by omega⟩
    · simp [hnot haj hj]
    · simp [haj]

/-- R11: no probe comes next exactly when none above the number qualifies. -/
theorem State.nextProbe_eq_none_iff (s : State) (above : Nat) :
    s.nextProbe above = none ↔ ∀ q, above < probeNumber q → (s.probe q).qualifies = false := by
  simp [State.nextProbe, allProbes]

/-- The next probe depends on the assignments and states above the number alone. -/
theorem State.nextProbe_congr {s t : State} {above : Nat}
    (h : ∀ q, above < probeNumber q → (t.probe q).qualifies = (s.probe q).qualifies) :
    t.nextProbe above = s.nextProbe above := by
  unfold State.nextProbe
  congr 1
  funext q
  by_cases hq : above < probeNumber q
  · rw [h q hq]
  · simp [hq]

/-- R10: the probe at which a scan starts. -/
theorem State.nextProbe_zero_of_first {s : State} {p : Fin 48} (h : s.FirstProbe p) : s.nextProbe 0 = some p :=
  (s.nextProbe_eq_some_iff 0 p).2 ⟨zero_lt_probeNumber p, h.1, fun q _ hq => h.2 q hq⟩

theorem State.nextProbe_zero_of_none {s : State} (h : ∀ p, (s.probe p).qualifies = false) : s.nextProbe 0 = none :=
  (s.nextProbe_eq_none_iff 0).2 fun q _ => h q

/-! ### Scan start, advance and completion (R9 to R11) -/

@[simp] theorem State.publishScan_scanner (s : State) :
    s.publishScan.scanner = { s.scanner with excitation := .off, measurement := none } := by
  simp [State.publishScan]

@[simp] theorem State.restScan_scanner (s : State) :
    s.restScan.scanner =
      if s.settings.scanEnable then { s.scanner with state := .waiting } else { s.scanner with state := .off, timer := 0 } :=
  rfl

@[simp] theorem State.selectProbe_scanner (s : State) (p : Fin 48) :
    (s.selectProbe p).scanner = s.scanner.select p (s.probe p).rangeMemory := rfl

/-- R11: a scan that is over with nothing due has its scanner at rest. -/
theorem State.restScan_publishScan_scanner (s : State) :
    s.publishScan.restScan.scanner = s.scanner.rested s.settings.scanEnable := by
  cases h : s.settings.scanEnable <;> simp [Scanner.rested, h]

/-- R9: a scan start that finds a probe selects it. -/
theorem State.startScan_of_next {s : State} {p : Fin 48} (h : s.nextProbe 0 = some p) :
    s.startScan = s.setScanner ((s.scanner.begin s.settings.scanEnable).select p (s.probe p).rangeMemory) := by
  have hnext : (s.setScanner (s.scanner.begin s.settings.scanEnable)).nextProbe 0 = some p := h
  simp only [State.startScan, hnext]
  rfl

/-- R9, R11: a scan start that finds none completes at once. -/
theorem State.startScan_of_none {s : State} (h : s.nextProbe 0 = none) :
    s.startScan = (s.setScanner (s.scanner.begin s.settings.scanEnable)).publishScan.restScan := by
  have hnext : (s.setScanner (s.scanner.begin s.settings.scanEnable)).nextProbe 0 = none := h
  simp only [State.startScan, hnext]

theorem State.advanceScan_of_next {s : State} {after p : Fin 48} (h : s.nextProbe (probeNumber after) = some p) :
    s.advanceScan after = s.selectProbe p := by
  simp [State.advanceScan, h]

theorem State.advanceScan_of_none {s : State} {after : Fin 48} (h : s.nextProbe (probeNumber after) = none) :
    s.advanceScan after = s.completeScan := by
  simp [State.advanceScan, h]

theorem State.completeScan_of_due {s : State} (h : s.scanner.startDue = true) :
    s.completeScan = s.publishScan.startScan := by
  simp [State.completeScan, h]

theorem State.completeScan_of_not_due {s : State} (h : s.scanner.startDue = false) :
    s.completeScan = s.publishScan.restScan := by
  simp [State.completeScan, h]

/-! ### A measurement is in progress exactly in SCANNING (1.6) -/

theorem Scanner.select_agrees {x : Scanner} (h : x.state = .scanning) (p : Fin 48) (r : Fin 4) :
    (x.select p r).Agrees := by
  simp [Scanner.Agrees, Scanner.select, h]

theorem Scanner.rested_agrees (x : Scanner) (enable : Bool) : (x.rested enable).Agrees := by
  cases enable <;> simp [Scanner.Agrees, Scanner.rested]

/-- A scanner at work on a measurement, whatever it and the excitation have become. -/
theorem Scanner.agrees_of_measuring {x : Scanner} (h : x.state = .scanning) (hm : x.measurement.isSome = true) :
    x.Agrees := by
  simp [Scanner.Agrees, h, hm]

/-- What the agreement asks of a scanner without its counters and its start-due flag. -/
theorem Scanner.Agrees.congr {x y : Scanner} (h : x.Agrees) (hs : y.state = x.state) (he : y.excitation = x.excitation)
    (hm : y.measurement = x.measurement) : y.Agrees := by
  simpa [Scanner.Agrees, hs, he, hm] using h

theorem State.underMeasurement_iff (s : State) (p : Fin 48) :
    s.underMeasurement p = true ↔ ∃ m, s.scanner.measurement = some m ∧ m.probe = p := by
  simp [State.underMeasurement, Option.any_eq_true]

theorem Scanner.Agrees.scanning {x : Scanner} {m : Measurement} (h : x.Agrees) (hm : x.measurement = some m) :
    x.state = .scanning := h.1.1 (by simp [hm])

/-- R9: every scan start leaves the scanner at work or at rest. -/
theorem State.startScan_agrees (s : State) : s.startScan.scanner.Agrees := by
  cases h : s.nextProbe 0 with
  | some p => rw [s.startScan_of_next h]; exact Scanner.select_agrees rfl _ _
  | none => rw [s.startScan_of_none h, State.restScan_publishScan_scanner]; exact Scanner.rested_agrees _ _

theorem State.completeScan_agrees (s : State) : s.completeScan.scanner.Agrees := by
  cases h : s.scanner.startDue with
  | true => rw [s.completeScan_of_due h]; exact State.startScan_agrees _
  | false =>
    rw [s.completeScan_of_not_due h, State.restScan_publishScan_scanner]; exact Scanner.rested_agrees _ _

theorem State.advanceScan_agrees (s : State) (after : Fin 48) (h : s.scanner.state = .scanning) :
    (s.advanceScan after).scanner.Agrees := by
  cases hn : s.nextProbe (probeNumber after) with
  | some p => rw [State.advanceScan_of_next hn]; exact Scanner.select_agrees h _ _
  | none => rw [State.advanceScan_of_none hn]; exact s.completeScan_agrees

/-! ### The scanner's events and requests keep the agreement -/

section
variable (s : State) (h : s.scanner.Agrees)
include h

theorem State.positiveCount_agrees (m : Measurement) (hm : s.scanner.measurement = some m) (n : Nat) :
    (s.positiveCount m n).scanner.Agrees := by
  unfold State.positiveCount
  split
  · exact State.advanceScan_agrees _ _ (by simpa using h.scanning hm)
  · exact Scanner.agrees_of_measuring (h.scanning hm) rfl
  · exact Scanner.agrees_of_measuring (h.scanning hm) rfl

theorem State.countEnds_agrees (n : Nat) : (s.countEnds n).scanner.Agrees := by
  unfold State.countEnds
  split
  · rename_i m hm
    split
    · exact s.positiveCount_agrees h m hm n
    · exact State.advanceScan_agrees _ _ (by simpa using h.scanning hm)
    · exact h
  · exact h

theorem State.settleEnds_agrees : s.settleEnds.scanner.Agrees := by
  unfold State.settleEnds
  split
  · rename_i m hm
    split
    · exact Scanner.agrees_of_measuring (h.scanning hm) rfl
    · exact h
  · exact h

theorem State.takeScanExpiry_agrees : s.takeScanExpiry.scanner.Agrees := by
  unfold State.takeScanExpiry
  split
  · split
    · exact s.startScan_agrees
    · exact h.congr rfl rfl rfl
    · exact h
  · exact h

theorem State.discardFor_agrees (p : Fin 48) : (s.discardFor p).scanner.Agrees := by
  unfold State.discardFor
  split
  · rename_i hp
    obtain ⟨m, hm, -⟩ := (s.underMeasurement_iff p).1 hp
    exact s.advanceScan_agrees p (h.scanning hm)
  · exact h

theorem State.discardAny_agrees : s.discardAny.scanner.Agrees := by
  unfold State.discardAny
  split
  · exact s.advanceScan_agrees _ (h.scanning ‹_›)
  · exact h

theorem State.scanEnabled_agrees : s.scanEnabled.scanner.Agrees := by
  unfold State.scanEnabled
  split
  · exact s.startScan_agrees
  · exact h.congr rfl rfl rfl
  · exact h

theorem State.scanDisabled_agrees : s.scanDisabled.scanner.Agrees := by
  unfold State.scanDisabled
  split
  · rename_i hw
    simpa [Scanner.Agrees, hw] using h
  · exact h.congr rfl rfl rfl
  · exact h

theorem State.intervalChanged_agrees : s.intervalChanged.scanner.Agrees := by
  unfold State.intervalChanged
  split
  · split
    · exact s.startScan_agrees
    · exact h
  · split
    · exact h.congr rfl rfl rfl
    · exact h
  · exact h

theorem State.writeScanConfig_agrees (interval : Nat) (enable : Bool) (tolerance : Nat) :
    (s.writeScanConfig interval enable tolerance).scanner.Agrees := by
  simp only [State.writeScanConfig]
  split
  · split
    · exact State.scanEnabled_agrees _ h
    · exact State.scanDisabled_agrees _ h
    all_goals exact h
  · refine State.intervalChanged_agrees _ ?_
    split
    · exact State.scanEnabled_agrees _ h
    · exact State.scanDisabled_agrees _ h
    all_goals exact h

theorem State.countMinute_agrees : s.countMinute.scanner.Agrees := by
  simp only [State.countMinute, State.runCountMinute_frame, Scanner.countMinute]
  split
  · exact h.congr rfl rfl rfl
  · exact h

theorem State.countSecond_agrees : s.countSecond.scanner.Agrees := by
  simp only [State.countSecond]
  split
  · exact h
  · exact State.countMinute_agrees _ h

end

theorem State.resetScanner_agrees (s : State) : s.resetScanner.scanner.Agrees := by
  cases he : s.settings.scanEnable <;> simp [Scanner.Agrees, State.resetScanner, he]

/-- A scanner at power-on is at rest (R22). -/
theorem Scanner.powerOn_agrees : Scanner.powerOn.Agrees := by
  simp [Scanner.Agrees, Scanner.powerOn]

end Sys2Proof.Machine
end

section
/-! SUPPORT. What the end of the load leaves, and its actions at READY taken one after another. -/

namespace Sys2Proof.Machine

@[simp] theorem State.applySettings_frame (s : State) (x : SettingsLoad) :
    (s.applySettings x).powered = s.powered ∧
    (s.applySettings x).ready = s.ready ∧
    (s.applySettings x).straps = s.straps ∧
    (s.applySettings x).clock = s.clock ∧
    (s.applySettings x).scanner = s.scanner ∧
    (s.applySettings x).statistics = s.statistics ∧
    (s.applySettings x).schedule = s.schedule ∧
    (s.applySettings x).run = s.run ∧
    (s.applySettings x).sampler = s.sampler ∧
    (s.applySettings x).zones = s.zones ∧
    (s.applySettings x).outputs = s.outputs ∧
    (s.applySettings x).fans = s.fans ∧
    (s.applySettings x).interlocks = s.interlocks ∧
    (s.applySettings x).history = s.history ∧
    (s.applySettings x).link = s.link ∧
    (s.applySettings x).memory = s.memory ∧
    (s.applySettings x).due = s.due ∧
    (s.applySettings x).draws = s.draws ∧
    (s.applySettings x).pending = s.pending := by
  cases x <;> simp [State.applySettings]

@[simp] theorem State.restoreRun_frame (s : State) (b : CheckpointBody) :
    (s.restoreRun b).powered = s.powered ∧
    (s.restoreRun b).ready = s.ready ∧
    (s.restoreRun b).straps = s.straps ∧
    (s.restoreRun b).clock = s.clock ∧
    (s.restoreRun b).settings = s.settings ∧
    (s.restoreRun b).scanner = s.scanner ∧
    (s.restoreRun b).probes = s.probes ∧
    (s.restoreRun b).statistics = s.statistics ∧
    (s.restoreRun b).sampler = s.sampler ∧
    (s.restoreRun b).interlocks = s.interlocks ∧
    (s.restoreRun b).history = s.history ∧
    (s.restoreRun b).link = s.link ∧
    (s.restoreRun b).memory = s.memory ∧
    (s.restoreRun b).due = s.due ∧
    (s.restoreRun b).draws = s.draws ∧
    (s.restoreRun b).pending = s.pending := by
  simp only [State.restoreRun]; (repeat' split) <;> simp

@[simp] theorem State.applyRun_frame (s : State) (x : RunLoad) :
    (s.applyRun x).powered = s.powered ∧
    (s.applyRun x).ready = s.ready ∧
    (s.applyRun x).straps = s.straps ∧
    (s.applyRun x).clock = s.clock ∧
    (s.applyRun x).settings = s.settings ∧
    (s.applyRun x).scanner = s.scanner ∧
    (s.applyRun x).probes = s.probes ∧
    (s.applyRun x).statistics = s.statistics ∧
    (s.applyRun x).sampler = s.sampler ∧
    (s.applyRun x).interlocks = s.interlocks ∧
    (s.applyRun x).history = s.history ∧
    (s.applyRun x).link = s.link ∧
    (s.applyRun x).memory = s.memory ∧
    (s.applyRun x).due = s.due ∧
    (s.applyRun x).draws = s.draws ∧
    (s.applyRun x).pending = s.pending := by
  cases x <;> simp [State.applyRun]

@[simp] theorem State.endCheckpointWrite_frame (s : State) (r : CheckpointEnd) :
    (s.endCheckpointWrite r).settings = s.settings ∧ (s.endCheckpointWrite r).scanner = s.scanner ∧
    (s.endCheckpointWrite r).zones = s.zones := by
  unfold State.endCheckpointWrite; split <;> exact ⟨rfl, rfl, rfl⟩

@[simp] theorem State.endSaveWrite_frame (s : State) (r : SaveEnd) :
    (s.endSaveWrite r).settings = s.settings ∧ (s.endSaveWrite r).scanner = s.scanner ∧
    (s.endSaveWrite r).zones = s.zones := by
  simp only [State.endSaveWrite]; (repeat' split) <;> exact ⟨rfl, rfl, rfl⟩

/-- What READY's actions keep is kept from the state in which the outputs have become driven, in whatever order they are
taken (log 4). -/
theorem State.reachReady_keeps {P : State → Prop} (s : State)
    (hstart : ∀ n, P
      { ({ s with ready := true, sampler := { s.sampler with timer := 0, mark := .none } } : State).refreshOutputs with
        draws := n })
    (haction : ∀ t a, P t → P (t.takeReadyAction a)) : P s.reachReady :=
  List.foldlRecOn _ _ (hstart _) fun t ht a _ => haction t a ht

end Sys2Proof.Machine
end

section
/-! EveryStepKeepsScannerAndZones, the scanner: the operations that move it, and the frames of all others. -/

namespace Sys2Proof.Machine

theorem State.takeReadyAction_agrees (s : State) (a : ReadyAction) (h : s.scanner.Agrees) :
    (s.takeReadyAction a).scanner.Agrees := by
  cases a with
  | scanStart => exact s.startScan_agrees
  | trip i => simpa [State.takeReadyAction] using h
  | fanStart => simpa [State.takeReadyAction] using h

theorem State.endLoad_agrees (s : State) (h : s.scanner.Agrees) (a b : Bool) : (s.endLoad a b).scanner.Agrees :=
  State.reachReady_keeps (P := fun t => t.scanner.Agrees) _ (fun n => by simpa using h) State.takeReadyAction_agrees

/-- 1.6: every operation of the commands keeps the scanner's agreement. -/
theorem scannerAgrees_kept : CommandsKeep fun s => s.scanner.Agrees := by
  constructor
  case toRequestsKeep =>
    constructor
    case replaceRecord => exact fun s h _ p r _ => State.discardFor_agrees (s.setProbe p r) h p
    case resetProbes => exact fun s h _ => State.discardAny_agrees { s with probes := _ } h
    case scanConfig => exact fun s h _ => s.writeScanConfig_agrees h
    case scanNow => exact fun s _ _ _ => s.startScan_agrees
    case resetScanner => exact fun s _ _ => s.resetScanner_agrees
    case adopt =>
      intro s h _ atStepEnd target restart _ _ _ _
      simp only [State.adopt]
      (repeat' split) <;> simpa using h
    case switchHeat => exact fun s h _ z b v _ => by simpa [State.switchHeat] using h
    case switchHumidity => exact fun s h _ z b v _ => by simpa [State.switchHumidity] using h
    all_goals
      intro s h
      intros
      simpa using h
  case takeScanExpiry => exact fun s h => s.takeScanExpiry_agrees h
  case restartNow => exact fun s _ _ => Scanner.powerOn_agrees
  case powerOn => exact fun s _ _ _ => Scanner.powerOn_agrees
  case powerLoss => exact fun s _ _ => Scanner.powerOn_agrees
  case loadEnd => exact fun s h _ _ => s.endLoad_agrees h
  case countSecond => exact fun s h => s.countSecond_agrees h
  case settleEnds => exact fun s h => s.settleEnds_agrees h
  case countEnds => exact fun s h => s.countEnds_agrees h
  all_goals
    intro s h
    intros
    simpa using h

end Sys2Proof.Machine
end

section
/-! SUPPORT. The Zone Loops stay within their ranges: the clamps, the loops, the ramps, and what the Run Controller asks of
the zones (R114 to R123). -/

namespace Sys2Proof.Machine

/-! ### Clamps and loops (5.2, R117 to R119) -/

theorem clampInt_mem {a b : Int} (h : a ≤ b) (x : Int) : a ≤ clampInt a b x ∧ clampInt a b x ≤ b := by
  unfold clampInt
  split <;> (try split) <;> omega

theorem nextIntegrator_mem {lo hi i : Int} (h : lo ≤ i ∧ i ≤ hi) (kp ki e : Int) :
    lo ≤ nextIntegrator lo hi kp ki e i ∧ nextIntegrator lo hi kp ki e i ≤ hi := by
  simp only [nextIntegrator]
  split
  · exact h
  · exact clampInt_mem (h.1.trans h.2) _

theorem Loop.Within.evaluate {lo hi : Int} {x : Loop} (h : x.Within lo hi) (kp ki e : Int) :
    (x.evaluate lo hi kp ki e).Within lo hi :=
  ⟨nextIntegrator_mem h.1 _ _ _, clampInt_mem (h.1.1.trans h.1.2) _⟩

/-- A demand within the range put in place of a loop's own. -/
theorem Loop.Within.withDemand {lo hi : Int} {x : Loop} (h : x.Within lo hi) {d : Int} (hd : lo ≤ d ∧ d ≤ hi) :
    ({ x with demand := d } : Loop).Within lo hi := ⟨h.1, hd⟩

theorem Loop.Within.withIntegrator {lo hi : Int} {x : Loop} (h : x.Within lo hi) {i : Int} (hi' : lo ≤ i ∧ i ≤ hi) :
    ({ x with integrator := i } : Loop).Within lo hi := ⟨hi', h.2⟩

theorem Loop.zero_within {lo hi : Int} (h : lo ≤ 0 ∧ 0 ≤ hi) (x : Loop) : x.zero.Within lo hi := ⟨h, h⟩

theorem Loop.Within.dropDemand {lo hi : Int} {x : Loop} (h : x.Within lo hi) (h0 : lo ≤ 0 ∧ 0 ≤ hi) :
    x.dropDemand.Within lo hi := h.withDemand h0

/-- R117, R118: the heat loop stays within 0 to 1000. -/
theorem State.heatLoop_within (s : State) (z : ZoneId) (h : (s.zone z).heat.Within 0 1000)
    (hm : 0 ≤ (s.zoneSettings z).heatManual ∧ (s.zoneSettings z).heatManual ≤ 1000) :
    (s.heatLoop z).Within 0 1000 := by
  have hx : ({ (s.zone z).heat with condition := s.heatCondition z } : Loop).Within 0 1000 := h
  simp only [State.heatLoop]
  split
  · exact hx.withDemand ⟨le_rfl, by norm_num⟩
  · exact Loop.zero_within ⟨le_rfl, by norm_num⟩ (s.zone z).heat
  · exact hx
  · exact hx.withDemand ⟨le_rfl, by norm_num⟩
  · exact hx.withDemand hm
  · exact hx
  · exact hx.withDemand ⟨le_rfl, by norm_num⟩
  · split
    · exact hx.evaluate _ _ _
    · exact hx

/-- R117, R119: the humidity loop stays within -1000 to 1000. -/
theorem State.humidityLoop_within (s : State) (z : ZoneId) (h : (s.zone z).humidity.Within (-1000) 1000)
    (hm : -1000 ≤ (s.zoneSettings z).humidityManual ∧ (s.zoneSettings z).humidityManual ≤ 1000) :
    (s.humidityLoop z).Within (-1000) 1000 := by
  have hx : ({ (s.zone z).humidity with condition := s.humidityCondition z } : Loop).Within (-1000) 1000 := h
  simp only [State.humidityLoop]
  split
  · exact hx.withDemand ⟨by norm_num, by norm_num⟩
  · exact Loop.zero_within ⟨by norm_num, by norm_num⟩ (s.zone z).humidity
  · exact hx
  · exact hx
  · exact hx.withDemand hm
  · exact hx
  · exact hx
  · split
    · exact hx.evaluate _ _ _
    · exact hx

/-- R117, R120: the spray and vent demands stay within 0 to 1000. -/
theorem sprayVent_le (before : ZoneLoops) (humidity : Loop)
    (hb : before.sprayDemand ≤ 1000 ∧ before.ventDemand ≤ 1000)
    (hu : humidity.Within (-1000) 1000) :
    (sprayVent before humidity).1 ≤ 1000 ∧ (sprayVent before humidity).2 ≤ 1000 := by
  obtain ⟨-, hlo, hhi⟩ := hu
  unfold sprayVent
  split
  · simp
  · exact hb
  all_goals exact ⟨by omega, by omega⟩

/-! ### Ramps (R115, R116) -/

theorem rampFrom_within (x : StepRecord) (origin : Int) : (rampFrom x origin).Within :=
  ⟨min_le_left _ _, le_max_left _ _⟩

/-- R115: the working setpoint lies between the ramp origin and the target, whatever the minutes. -/
theorem Ramp.setpointAt_mem (r : Ramp) (m : Nat) :
    min r.origin r.dbTarget ≤ r.setpointAt m ∧ r.setpointAt m ≤ max r.origin r.dbTarget := by
  simp only [Ramp.setpointAt]
  split
  · exact ⟨min_le_right _ _, le_max_right _ _⟩
  · generalize r.rampRate * m / 60 = k
    rcases lt_trichotomy (r.dbTarget : Int) r.origin with hlt | heq | hgt
    · rw [Int.sign_eq_neg_one_of_neg (by omega)]
      omega
    · simp [heq]
    · rw [Int.sign_eq_one_of_pos (by omega)]
      omega

/-- R76, R116: a retargeted ramp has its setpoint clamped into the new span. -/
theorem Ramp.retarget_within (r : Ramp) (x : StepRecord) : (r.retarget x).Within :=
  clampInt_mem (min_le_max) _

theorem ZoneLoops.Within.withRamp {x : ZoneLoops} (h : x.Within) {q : Option Ramp} (hq : ∀ r, q = some r → r.Within) :
    ({ x with ramp := q } : ZoneLoops).Within := by
  obtain ⟨hheat, hhumidity, hspray, hvent, -⟩ := h
  exact ⟨hheat, hhumidity, hspray, hvent, hq⟩

/-- A zone put on a ramp. -/
theorem ZoneLoops.Within.onRamp {x : ZoneLoops} (h : x.Within) {r : Ramp} (hr : r.Within) :
    ({ x with ramp := some r } : ZoneLoops).Within :=
  h.withRamp fun q hq => by cases hq; exact hr

theorem ZoneLoops.Within.zeroDemands {x : ZoneLoops} (h : x.Within) : x.zeroDemands.Within := by
  obtain ⟨-, -, -, -, hramp⟩ := h
  exact ⟨Loop.zero_within (by norm_num) _, Loop.zero_within (by norm_num) _, Nat.zero_le _, Nat.zero_le _, hramp⟩

theorem ZoneLoops.Within.deactivate {x : ZoneLoops} (h : x.Within) : x.deactivate.Within := by
  obtain ⟨hheat, hhumidity, -, -, -⟩ := h
  exact ⟨hheat.dropDemand (by norm_num), hhumidity.dropDemand (by norm_num), Nat.zero_le _, Nat.zero_le _,
    fun r hr => by cases hr⟩

theorem ZoneLoops.powerOn_within : ZoneLoops.powerOn.Within := by
  simp [ZoneLoops.Within, Loop.Within, ZoneLoops.powerOn, Loop.powerOn]

/-! ### All zones of a state -/

/-- R114, R115: every zone within its ranges. -/
def State.ZonesWithin (s : State) : Prop := ∀ z, (s.zone z).Within

theorem State.zonesWithin_of_zones_eq {s t : State} (h : s.ZonesWithin) (heq : t.zones = s.zones) : t.ZonesWithin := by
  simpa [State.ZonesWithin, State.zone, heq] using h

theorem State.ZonesWithin.setZone {s : State} (h : s.ZonesWithin) (z : ZoneId) {x : ZoneLoops} (hx : x.Within) :
    (s.setZone z x).ZonesWithin := by
  intro y
  by_cases hy : y = z
  · subst hy; simpa using hx
  · simpa [State.zone, zones_get_set_ne _ _ _ _ hy] using h y

theorem State.ZonesWithin.zonesTakeStep {s : State} (h : s.ZonesWithin) (x : StepRecord) (origin : ZoneId → Int) :
    (s.zonesTakeStep x origin).ZonesWithin := by
  intro z
  simp only [State.zonesTakeStep, State.zone, zones_get_map]
  split
  · exact (h z).onRamp (rampFrom_within _ _)
  · exact h z

theorem State.ZonesWithin.zonesRetarget {s : State} (h : s.ZonesWithin) (x : StepRecord) :
    (s.zonesRetarget x).ZonesWithin := by
  intro z
  simp only [State.zonesRetarget, State.zone, zones_get_map]
  split
  · refine (h z).onRamp ?_
    split
    · exact Ramp.retarget_within _ _
    · exact rampFrom_within _ _
  · exact h z

theorem State.ZonesWithin.zonesEndRun {s : State} (h : s.ZonesWithin) : s.zonesEndRun.ZonesWithin := by
  intro z
  simp only [State.zonesEndRun, State.handAllDemands_frame, State.zone, zones_get_map]
  exact (h z).zeroDemands.withRamp fun r hr => by cases hr

/-- R115: the setpoint of a zone recomputed. -/
theorem State.ZonesWithin.recomputeSetpoint {s : State} (h : s.ZonesWithin) (z : ZoneId) :
    (s.recomputeSetpoint z).ZonesWithin := by
  simp only [State.recomputeSetpoint]
  split
  · exact h.setZone z ((h z).onRamp (Ramp.setpointAt_mem _ _))
  · exact h

/-- R117: the loops of a zone judged. -/
theorem State.ZonesWithin.judgeLoops {s : State} (h : s.ZonesWithin) (hm : s.settings.ManualWithin) (z : ZoneId) :
    (s.judgeLoops z).ZonesWithin := by
  obtain ⟨hheat, hhumidity, hspray, hvent, hramp⟩ := h z
  have hu := s.humidityLoop_within z hhumidity (hm z).2
  have hd := sprayVent_le (s.zone z) (s.humidityLoop z) ⟨hspray, hvent⟩ hu
  exact h.setZone z ⟨s.heatLoop_within z hheat (hm z).1, hu, hd.1, hd.2, hramp⟩

/-- R113 to R119: a sample set taken by the zones. -/
theorem State.ZonesWithin.zonesTakeSet {s : State} (h : s.ZonesWithin) (hm : s.settings.ManualWithin) :
    s.zonesTakeSet.ZonesWithin := by
  have hfold : (ZoneId.all.foldl (fun t z => (t.recomputeSetpoint z).judgeLoops z) s).ZonesWithin ∧
      (ZoneId.all.foldl (fun t z => (t.recomputeSetpoint z).judgeLoops z) s).settings.ManualWithin :=
    List.foldlRecOn (motive := fun t : State => t.ZonesWithin ∧ t.settings.ManualWithin) _ _ ⟨h, hm⟩ fun t ht z _ =>
      ⟨(ht.1.recomputeSetpoint z).judgeLoops (by simpa using ht.2) z, by simpa using ht.2⟩
  exact State.zonesWithin_of_zones_eq hfold.1 (State.handAllDemands_frame _).2.2.2.2.2.2.2.2.2.2.2.1

/-! ### The run's operations on the zones -/

theorem State.ZonesWithin.enterStepFrom {s : State} (h : s.ZonesWithin) (i : Nat) (origin : StepRecord → ZoneId → Int) :
    (s.enterStepFrom i origin).ZonesWithin := by
  unfold State.enterStepFrom
  split
  · exact h
  · have hrun : ({ s with run := s.run.entering i } : State).ZonesWithin := h
    exact State.zonesWithin_of_zones_eq (hrun.zonesTakeStep _ (origin _)) (by simp; rfl)

theorem State.ZonesWithin.endRun {s : State} (h : s.ZonesWithin) (final : RunState) : (s.endRun final).ZonesWithin := by
  have hrun : ({ s with run := { s.run with state := final, reasons := .empty, inBand := false } } : State).ZonesWithin := h
  exact State.zonesWithin_of_zones_eq hrun.zonesEndRun (by simp [State.endRun])

theorem State.ZonesWithin.completeRun {s : State} (h : s.ZonesWithin) : s.completeRun.ZonesWithin := by
  have hrun : ({ s with run := { s.run with completion := some s.completionNow } } : State).ZonesWithin := h
  exact State.zonesWithin_of_zones_eq (hrun.endRun .complete) (by simp [State.completeRun])

theorem State.ZonesWithin.stepEnd {s : State} (h : s.ZonesWithin) : s.stepEnd.ZonesWithin := by
  simp only [State.stepEnd]
  split
  · exact State.ZonesWithin.enterStepFrom (State.zonesWithin_of_zones_eq h (by simp)) _ _
  · split
    · exact h.completeRun
    · exact h.enterStepFrom _ _

theorem State.ZonesWithin.takeHours {s : State} (h : s.ZonesWithin) : s.takeHours.ZonesWithin := by
  unfold State.takeHours
  split
  · split
    · exact State.ZonesWithin.stepEnd (s := s.judgementsOver) h
    · exact h
  · exact h

theorem State.ZonesWithin.takeSettle {s : State} (h : s.ZonesWithin) : s.takeSettle.ZonesWithin := by
  unfold State.takeSettle
  split
  · split
    · exact State.ZonesWithin.stepEnd (s := s.judgementsOver) h
    · exact h
  · exact h

theorem State.ZonesWithin.timeOut {s : State} (h : s.ZonesWithin) (x : StepRecord) : (s.timeOut x).ZonesWithin := by
  unfold State.timeOut
  split
  · exact State.ZonesWithin.stepEnd (State.zonesWithin_of_zones_eq h (by simp))
  · exact State.zonesWithin_of_zones_eq h (by simp)
  · exact h

theorem State.ZonesWithin.takeTimeout {s : State} (h : s.ZonesWithin) : s.takeTimeout.ZonesWithin := by
  have hbefore := h.takeHours.takeSettle
  simp only [State.takeTimeout]
  split
  · split
    · refine State.ZonesWithin.timeOut ?_ _
      exact State.zonesWithin_of_zones_eq hbefore rfl
    · exact hbefore
  · exact hbefore

theorem State.ZonesWithin.testAtPublication {s : State} (h : s.ZonesWithin) (f : Option McFigures) :
    (s.testAtPublication f).ZonesWithin := by
  have hmet : ({ s with run := { s.run with mcMet := true } } : State).ZonesWithin := h
  simp only [State.testAtPublication]
  split
  · exact h
  · split
    · split
      · exact h.stepEnd
      · exact h
    · split
      · exact h.stepEnd
      · exact h
    · split <;> split
      · exact hmet.stepEnd
      · exact hmet
      · exact h.stepEnd
      · exact h
    all_goals exact h

theorem State.ZonesWithin.testAtSet {s : State} (h : s.ZonesWithin) : s.testAtSet.ZonesWithin := by
  unfold State.testAtSet
  split
  · exact h
  · split
    · exact State.zonesWithin_of_zones_eq h (by simp)
    · split
      · exact h.stepEnd
      · exact h
    all_goals exact h

theorem State.ZonesWithin.runTakePublication {s : State} (h : s.ZonesWithin) (p : Publication) :
    (s.runTakePublication p).ZonesWithin :=
  State.ZonesWithin.testAtPublication (State.zonesWithin_of_zones_eq h (by simp)) _

theorem State.ZonesWithin.publish {s : State} (h : s.ZonesWithin) (n : Nat) : (s.publish n).ZonesWithin := by
  have hkept : ((s.noticeQuorum (s.publicationNow n)).keepPublication (s.publicationNow n)).ZonesWithin :=
    State.zonesWithin_of_zones_eq h (by simp)
  exact hkept.runTakePublication (s.publicationNow n)

theorem State.ZonesWithin.publishScan {s : State} (h : s.ZonesWithin) : s.publishScan.ZonesWithin :=
  State.ZonesWithin.publish (State.zonesWithin_of_zones_eq h (by simp)) _

theorem State.ZonesWithin.startScan {s : State} (h : s.ZonesWithin) : s.startScan.ZonesWithin := by
  cases hn : s.nextProbe 0 with
  | some p => rw [s.startScan_of_next hn]; exact h
  | none =>
    rw [s.startScan_of_none hn]
    exact State.ZonesWithin.publishScan (s := s.setScanner _) h

theorem State.ZonesWithin.advanceScan {s : State} (h : s.ZonesWithin) (after : Fin 48) :
    (s.advanceScan after).ZonesWithin := by
  cases hn : s.nextProbe (probeNumber after) with
  | some p => rw [State.advanceScan_of_next hn]; exact h
  | none =>
    rw [State.advanceScan_of_none hn]
    cases hd : s.scanner.startDue with
    | true => rw [s.completeScan_of_due hd]; exact h.publishScan.startScan
    | false => rw [s.completeScan_of_not_due hd]; exact h.publishScan

end Sys2Proof.Machine
end

section
/-! SUPPORT. The settings images that the Settings Memory Controller holds (11.1): what each of its operations keeps of a
condition on their settings. -/

namespace Sys2Proof.Machine

section
variable {m : Memory} {condition : Settings → Prop} (h : m.ImagesMeet condition)
include h

theorem Memory.ImagesMeet.startCheckpoint (c : Checkpoint) : (m.startCheckpoint c).ImagesMeet condition :=
  ⟨h.1, (fun _ hi => by cases hi), h.2.2⟩

theorem Memory.ImagesMeet.requestCheckpoint (c : Checkpoint) : (m.requestCheckpoint c).ImagesMeet condition := by
  obtain ⟨-, heq⟩ | ⟨-, heq⟩ := m.requestCheckpoint_cases c <;> rw [heq]
  · exact h.startCheckpoint c
  · exact h

theorem Memory.ImagesMeet.requestSave {i : Image} (hi : condition i.settings) :
    (m.requestSave i).ImagesMeet condition := by
  obtain ⟨hregion, hop, hpending⟩ := h
  unfold Memory.requestSave
  split
  · exact ⟨hregion, fun j hj => by cases hj; exact hi, hpending⟩
  all_goals exact ⟨hregion, hop, fun j hj => by cases hj; exact hi⟩

theorem Memory.ImagesMeet.startNext : m.startNext.ImagesMeet condition := by
  obtain ⟨hregion, -, hpending⟩ := h
  unfold Memory.startNext
  split
  · exact ⟨hregion, (fun _ hi => by cases hi), hpending⟩
  · split
    · exact ⟨hregion, (fun _ hi => by cases hi), hpending⟩
    · split
      · rename_i i hi
        exact ⟨hregion, fun j hj => by cases hj; exact hpending i hi, (fun _ hi => by cases hi)⟩
      · exact ⟨hregion, (fun _ hi => by cases hi), hpending⟩

theorem Memory.ImagesMeet.restart : m.restart.ImagesMeet condition := by
  obtain ⟨hregion, hop, -⟩ := h
  have hdropped : ({ m with pendingSave := none, loadWaits := true } : Memory).ImagesMeet condition :=
    ⟨hregion, hop, (fun _ hi => by cases hi)⟩
  simp only [Memory.restart]
  split
  · exact hdropped.startNext
  all_goals exact hdropped

theorem Memory.ImagesMeet.tear (t : Tear) : (m.tear t).ImagesMeet condition := by
  unfold Memory.tear
  split
  · exact h
  · exact ⟨(fun _ hi => by cases hi), h.2⟩
  all_goals exact h

/-- With nothing in flight and nothing waiting, the region alone holds an image. -/
theorem Memory.ImagesMeet.emptied : m.emptied.ImagesMeet condition :=
  ⟨h.1, (fun _ hi => by cases hi), (fun _ hi => by cases hi)⟩

theorem Memory.ImagesMeet.withCheckpointRegion (r : CheckpointRegion) :
    ({ m with checkpointRegion := r } : Memory).ImagesMeet condition := h

/-- R175: what a save write leaves in the region, ended well or not. -/
theorem Memory.ImagesMeet.withSaveEnd {i : Image} (hop : m.op = .saveWrite i) (r : SaveEnd) :
    ({ m with settingsRegion := saveEndRegion i m.settingsRegion r } : Memory).ImagesMeet condition := by
  obtain ⟨hregion, hopMeets, hpending⟩ := h
  refine ⟨fun j hj => ?_, hopMeets, hpending⟩
  cases r with
  | agrees | failsAsWritten => cases hj; exact hopMeets i hop
  | failsAsBefore => exact hregion j hj
  | failsUnmarked | failsVersion | failsCrc => cases hj

end

theorem State.finishEvent_images {s : State} {condition : Settings → Prop} (h : s.memory.ImagesMeet condition) :
    s.finishEvent.memory.ImagesMeet condition := by
  obtain heq | ⟨-, -, heq⟩ := s.finishEvent_cases <;> rw [heq]
  · exact h
  · exact h.requestCheckpoint _

theorem State.endCheckpointWrite_images {s : State} {condition : Settings → Prop} (h : s.memory.ImagesMeet condition)
    (r : CheckpointEnd) : (s.endCheckpointWrite r).memory.ImagesMeet condition := by
  unfold State.endCheckpointWrite
  split
  · exact (h.withCheckpointRegion _).startNext
  all_goals exact h

theorem State.endSaveWrite_images {s : State} {condition : Settings → Prop} (h : s.memory.ImagesMeet condition)
    (r : SaveEnd) : (s.endSaveWrite r).memory.ImagesMeet condition := by
  simp only [State.endSaveWrite]
  split
  · rename_i i hop
    split
    · exact (h.withSaveEnd hop r).startNext
    · exact (h.withSaveEnd hop r).startNext
  all_goals exact h

/-- R173: an image applied meets what every image in the region meets. -/
theorem settingsLoad_applied {skip reads : Bool} {region : SettingsRegion} {i : Image}
    (h : settingsLoad skip reads region = .applied i) : region = .image i := by
  unfold settingsLoad at h
  split at h
  · cases h
  · split at h
    · cases h
    · cases region <;> cases h
      rfl

end Sys2Proof.Machine
end

section
/-! EveryStepKeepsScannerAndZones, the zones: the operations that change zones, manual values or settings images, and the
frames of all others. -/

namespace Sys2Proof.Machine

theorem Settings.ManualWithin.congr {x y : Settings} (h : x.ManualWithin) (heq : y.zones = x.zones) : y.ManualWithin := by
  simpa [Settings.ManualWithin, heq] using h

/-- A zone's settings replaced by ones whose manual values are within their ranges. -/
theorem Settings.ManualWithin.setZone {x : Settings} (h : x.ManualWithin) (z : ZoneId) {g : ZoneSettings}
    (hheat : 0 ≤ g.heatManual ∧ g.heatManual ≤ 1000)
    (hhumidity : -1000 ≤ g.humidityManual ∧ g.humidityManual ≤ 1000) :
    ({ x with zones := x.zones.set z g } : Settings).ManualWithin := by
  intro y
  by_cases hy : y = z
  · subst hy; simpa using ⟨hheat, hhumidity⟩
  · simpa [zones_get_set_ne _ _ _ _ hy] using h y

theorem Settings.default_manualWithin : Settings.default.ManualWithin := by
  intro z
  simp [Settings.default, ZoneSettings.default]

/-- An operation that changes zones, but neither settings nor memory. -/
theorem State.ZonesSound.of_zones {s t : State} (h : s.ZonesSound) (hs : t.settings = s.settings)
    (hm : t.memory = s.memory) (hz : t.ZonesWithin) : t.ZonesSound := by
  obtain ⟨-, hmanual, himages⟩ := h
  exact ⟨hz, hs ▸ hmanual, hm ▸ himages⟩

/-- An operation that changes neither zones nor zone settings, and whose memory keeps its images. -/
theorem State.ZonesSound.of_memory {s t : State} (h : s.ZonesSound) (hz : t.zones = s.zones)
    (hs : t.settings.zones = s.settings.zones) (hm : t.memory.ImagesMeet Settings.ManualWithin) : t.ZonesSound :=
  ⟨State.zonesWithin_of_zones_eq h.1 hz, h.2.1.congr hs, hm⟩

/-- An operation that changes none of them. -/
theorem State.ZonesSound.congr {s t : State} (h : s.ZonesSound) (hz : t.zones = s.zones)
    (hs : t.settings.zones = s.settings.zones) (hm : t.memory = s.memory) : t.ZonesSound :=
  h.of_memory hz hs (hm ▸ h.2.2)

section
variable (s : State) (h : s.ZonesSound)
include h

theorem State.finishEvent_zonesSound : s.finishEvent.ZonesSound :=
  h.of_memory (by simp) (by simp) (State.finishEvent_images h.2.2)

theorem State.startScan_zonesSound : s.startScan.ZonesSound :=
  h.of_zones (by simp) (by simp) (State.ZonesWithin.startScan h.1)

theorem State.advanceScan_zonesSound (after : Fin 48) : (s.advanceScan after).ZonesSound :=
  h.of_zones (by simp) (by simp) (State.ZonesWithin.advanceScan h.1 after)

theorem State.positiveCount_zonesSound (m : Measurement) (n : Nat) : (s.positiveCount m n).ZonesSound := by
  unfold State.positiveCount
  split
  · exact State.advanceScan_zonesSound _ (h.congr (by simp) (by simp) (by simp)) _
  · exact h
  · exact h

theorem State.countEnds_zonesSound (n : Nat) : (s.countEnds n).ZonesSound := by
  unfold State.countEnds
  split
  · split
    · exact s.positiveCount_zonesSound h _ _
    · exact State.advanceScan_zonesSound _ (h.congr (by simp) (by simp) (by simp)) _
    · exact h
  · exact h

theorem State.discardFor_zonesSound (p : Fin 48) : (s.discardFor p).ZonesSound := by
  unfold State.discardFor
  split
  · exact s.advanceScan_zonesSound h _
  · exact h

theorem State.discardAny_zonesSound : s.discardAny.ZonesSound := by
  unfold State.discardAny
  split
  · exact s.advanceScan_zonesSound h _
  · exact h

theorem State.takeScanExpiry_zonesSound : s.takeScanExpiry.ZonesSound := by
  unfold State.takeScanExpiry
  split
  · split
    · exact s.startScan_zonesSound h
    · exact h
    · exact h
  · exact h

theorem State.scanEnabled_zonesSound : s.scanEnabled.ZonesSound := by
  unfold State.scanEnabled
  split
  · exact s.startScan_zonesSound h
  · exact h
  · exact h

theorem State.scanDisabled_zonesSound : s.scanDisabled.ZonesSound := h.congr (by simp) (by simp) (by simp)

theorem State.intervalChanged_zonesSound : s.intervalChanged.ZonesSound := by
  unfold State.intervalChanged
  split
  · split
    · exact s.startScan_zonesSound h
    · exact h
  · split
    · exact h
    · exact h
  · exact h

theorem State.writeScanConfig_zonesSound (interval : Nat) (enable : Bool) (tolerance : Nat) :
    (s.writeScanConfig interval enable tolerance).ZonesSound := by
  have hset : ({ s with
      settings := { s.settings with scanInterval := interval, scanEnable := enable, polarityTolerance := tolerance } } :
      State).ZonesSound := h
  simp only [State.writeScanConfig]
  split
  · split
    · exact State.scanEnabled_zonesSound _ hset
    · exact State.scanDisabled_zonesSound _ hset
    all_goals exact hset
  · refine State.intervalChanged_zonesSound _ ?_
    split
    · exact State.scanEnabled_zonesSound _ hset
    · exact State.scanDisabled_zonesSound _ hset
    all_goals exact hset

/-- R109 to R119: a sample set. -/
theorem State.takeSet_zonesSound (samples : Zones ZoneSamples) : (s.takeSet samples).ZonesSound := by
  have hsampled : (({ s with sampler := s.sampler.takeMark } : State).sampleChannels samples).ZonesSound :=
    h.congr (by simp) (by simp) (by simp)
  have hzones := State.ZonesWithin.zonesTakeSet hsampled.1 hsampled.2.1
  refine h.of_zones (by simp) (by simp) (State.ZonesWithin.testAtSet ?_)
  exact State.zonesWithin_of_zones_eq hzones (by simp)

theorem State.refreshOutputs_zonesSound : s.refreshOutputs.ZonesSound := h.congr (by simp) (by simp) (by simp)

theorem State.activateZone_zonesSound (z : ZoneId) : (s.activateZone z).ZonesSound := by
  unfold State.activateZone
  split
  · split
    · exact h.of_zones rfl rfl (State.ZonesWithin.setZone h.1 z ((h.1 z).onRamp (rampFrom_within _ _)))
    · exact h
  · exact h

theorem State.deactivateZone_zonesSound (z : ZoneId) : (s.deactivateZone z).ZonesSound :=
  h.of_zones (by simp) (by simp) (State.ZonesWithin.setZone h.1 z (h.1 z).deactivate)

/-- R123: ZONE_CONFIG keeps the manual values. -/
theorem State.writeZone_zonesSound (z : ZoneId) (g : ZoneSettings) (band : Nat)
    (hheat : g.heatManual = (s.zoneSettings z).heatManual)
    (hhumidity : g.humidityManual = (s.zoneSettings z).humidityManual) : (s.writeZone z g band).ZonesSound := by
  have hmanual := h.2.1 z
  have hset : ({ s.setZoneSettings z g with settings := { (s.setZoneSettings z g).settings with settleBand := band } } :
      State).ZonesSound :=
    ⟨h.1, h.2.1.setZone z (hheat ▸ hmanual.1) (hhumidity ▸ hmanual.2), h.2.2⟩
  have hwood : ∀ b : Bool, ∀ t : State, t.ZonesSound → (if b then t.clearWood z else t).ZonesSound := by
    intro b t ht
    split
    · exact ht.congr (by simp) (by simp) (by simp)
    · exact ht
  have hfitted := hwood ((s.zoneSettings z).woodFitted && !g.woodFitted) _ hset
  simp only [State.writeZone]
  refine State.refreshOutputs_zonesSound _ ?_
  split
  · exact State.activateZone_zonesSound _ hfitted z
  · exact State.deactivateZone_zonesSound _ hfitted z
  all_goals exact hfitted

omit h in
/-- R121: a loop's mode switched, the value asked for only when the mode becomes MANUAL. -/
theorem switchLoop_within {lo hi : Int} (hrange : lo ≤ hi) (toManual : Bool) (value : Int) (mode : LoopMode)
    (manual : Int) (x : Loop) (hv : toManual = true → lo ≤ value ∧ value ≤ hi) (hm : lo ≤ manual ∧ manual ≤ hi)
    (hx : x.Within lo hi) :
    (lo ≤ (switchLoop lo hi toManual value mode manual x).2.1 ∧
      (switchLoop lo hi toManual value mode manual x).2.1 ≤ hi) ∧
      (switchLoop lo hi toManual value mode manual x).2.2.Within lo hi := by
  unfold switchLoop
  split
  · exact ⟨hv rfl, hx⟩
  · exact ⟨hm, hx.withIntegrator (clampInt_mem hrange _)⟩
  · exact ⟨hm, hx⟩

theorem State.switchHeat_zonesSound (z : ZoneId) (toManual : Bool) (value : Int)
    (hv : toManual = true → inRangeInt 0 1000 value = true) : (s.switchHeat z toManual value).ZonesSound := by
  obtain ⟨hheat, hhumidity, hspray, hvent, hramp⟩ := h.1 z
  obtain ⟨hmanual, hhumidityManual⟩ := h.2.1 z
  have hswitch := switchLoop_within (by norm_num) toManual value (s.zoneSettings z).heatMode _ _
    (fun ht => by simpa [inRangeInt] using hv ht) hmanual hheat
  exact ⟨State.ZonesWithin.setZone (s := s.setZoneSettings z _) h.1 z ⟨hswitch.2, hhumidity, hspray, hvent, hramp⟩,
    h.2.1.setZone z hswitch.1 hhumidityManual, h.2.2⟩

theorem State.switchHumidity_zonesSound (z : ZoneId) (toManual : Bool) (value : Int)
    (hv : toManual = true → inRangeInt (-1000) 1000 value = true) : (s.switchHumidity z toManual value).ZonesSound := by
  obtain ⟨hheat, hhumidity, hspray, hvent, hramp⟩ := h.1 z
  obtain ⟨hheatManual, hmanual⟩ := h.2.1 z
  have hswitch := switchLoop_within (by norm_num) toManual value (s.zoneSettings z).humidityMode _ _
    (fun ht => by simpa [inRangeInt] using hv ht) hmanual hhumidity
  exact ⟨State.ZonesWithin.setZone (s := s.setZoneSettings z _) h.1 z ⟨hheat, hswitch.2, hspray, hvent, hramp⟩,
    h.2.1.setZone z hheatManual hswitch.1, h.2.2⟩

theorem State.resetZone_zonesSound (z : ZoneId) : (s.resetZone z).ZonesSound :=
  h.of_zones (by simp) (by simp) <| State.zonesWithin_of_zones_eq
    (State.ZonesWithin.setZone h.1 z (h.1 z).zeroDemands) (by simp [State.resetZone])

/-! ### The run's requests -/

omit h in
theorem State.ZonesWithin.fansFollowRun (h : s.ZonesWithin) : s.fansFollowRun.ZonesWithin :=
  State.zonesWithin_of_zones_eq h (by simp)

theorem State.startRun_zonesSound (i : Nat) : (s.startRun i).ZonesSound := by
  have hreason : ∀ (b : Bool) (r : HoldReason) (t : State), t.ZonesWithin →
      (if b then t.addReason r else t).ZonesWithin := by
    intro b r t ht
    split
    · exact State.zonesWithin_of_zones_eq ht (by simp)
    · exact ht
  refine h.of_zones (by simp) (by simp) ?_
  simp only [State.startRun]
  refine State.ZonesWithin.fansFollowRun _ (hreason _ _ _ (hreason _ _ _ (State.ZonesWithin.enterStepFrom ?_ i _)))
  exact State.zonesWithin_of_zones_eq h.1 (by simp)

theorem State.abortRun_zonesSound : s.abortRun.ZonesSound := by
  refine h.of_zones (by simp) (by simp) ?_
  exact State.ZonesWithin.endRun (s := { s with schedule := { s.schedule with adoption := none } }) h.1 .aborted

theorem State.adoptNow_zonesSound (target : Nat) (restart : Bool) : (s.adoptNow target restart).ZonesSound := by
  refine h.of_zones (by simp) (by simp) ?_
  simp only [State.adoptNow]
  split
  · exact h.1
  · split
    · exact State.zonesWithin_of_zones_eq
        (State.ZonesWithin.zonesTakeStep (s := { s with run := _, schedule := _ }) h.1 _ _) (by simp; rfl)
    · exact State.zonesWithin_of_zones_eq
        (State.ZonesWithin.zonesRetarget (s := { s with run := _, schedule := _ }) h.1 _) (by simp; rfl)

theorem State.adopt_zonesSound (atStepEnd : Bool) (target : Nat) (restart : Bool) :
    (s.adopt atStepEnd target restart).ZonesSound := by
  simp only [State.adopt]
  split
  · exact h
  · split
    · exact s.adoptNow_zonesSound h _ _
    · exact h

/-! ### The load, the supply and the restart -/

theorem State.takeReadyAction_zonesSound (a : ReadyAction) : (s.takeReadyAction a).ZonesSound := by
  cases a with
  | scanStart => exact s.startScan_zonesSound h
  | trip i =>
    exact h.congr (by simp [State.takeReadyAction]) (by simp [State.takeReadyAction]) (by simp [State.takeReadyAction])
  | fanStart =>
    exact h.congr (by simp [State.takeReadyAction]) (by simp [State.takeReadyAction]) (by simp [State.takeReadyAction])

/-- R173: the settings of an image that is loaded. -/
theorem State.applySettings_zonesSound (x : SettingsLoad) (hx : ∀ i, x = .applied i → i.settings.ManualWithin) :
    (s.applySettings x).ZonesSound := by
  cases x with
  | defaulted c => exact h
  | applied i => exact ⟨h.1, hx i rfl, h.2.2⟩

theorem State.restoreRun_zonesSound (b : CheckpointBody) : (s.restoreRun b).ZonesSound := by
  refine h.of_zones (by simp) (by simp) ?_
  simp only [State.restoreRun]
  split
  · exact h.1
  · exact State.zonesWithin_of_zones_eq
      (State.ZonesWithin.zonesTakeStep (s := { s with run := _, schedule := _ }) h.1 _ _) (by simp; rfl)

theorem State.applyRun_zonesSound (x : RunLoad) : (s.applyRun x).ZonesSound := by
  cases x with
  | idle => exact h
  | lost => exact h
  | restored b => exact s.restoreRun_zonesSound h b

theorem State.endLoad_zonesSound (settingsReads checkpointReads : Bool) :
    (s.endLoad settingsReads checkpointReads).ZonesSound := by
  have hsettings := s.applySettings_zonesSound h (settingsLoad s.straps.skipSettings settingsReads s.memory.settingsRegion)
    fun i hi => h.2.2.1 i (settingsLoad_applied hi)
  have hrun := State.applyRun_zonesSound _ hsettings
    (runLoad (settingsLoad s.straps.skipSettings settingsReads s.memory.settingsRegion) checkpointReads
      s.memory.checkpointRegion)
  refine State.reachReady_keeps (P := State.ZonesSound) _ (fun n => ?_) fun t a ht => t.takeReadyAction_zonesSound ht a
  exact hrun.of_memory (by simp) (by simp) (by simpa using h.2.2.startNext)

end

/-- R171: every block at its power-on values, with a memory that keeps its images. -/
theorem State.zonesSound_of_powerOn {s : State} (hz : s.zones = .replicate .powerOn) (hs : s.settings = .default)
    (hm : s.memory.ImagesMeet Settings.ManualWithin) : s.ZonesSound :=
  ⟨fun z => by simpa [State.zone, hz] using ZoneLoops.powerOn_within, hs ▸ Settings.default_manualWithin, hm⟩

/-- R114, R115, R123: every operation of the commands keeps the ranges of the zones and of the manual values. -/
theorem zonesSound_kept : CommandsKeep State.ZonesSound := by
  constructor
  case toRequestsKeep =>
    constructor
    case replaceRecord => exact fun s h _ p r _ => State.discardFor_zonesSound (s.setProbe p r) h p
    case resetProbes => exact fun s h _ => State.discardAny_zonesSound { s with probes := _ } h
    case scanConfig => exact fun s h _ => s.writeScanConfig_zonesSound h
    case scanNow => exact fun s h _ _ => s.startScan_zonesSound h
    case adopt => exact fun s h _ b n r _ _ _ _ => s.adopt_zonesSound h b n r
    case runStart => exact fun s h _ i _ _ _ _ => s.startRun_zonesSound h i
    case runAbort => exact fun s h _ _ => s.abortRun_zonesSound h
    case writeZone => exact fun s h _ z _ _ _ _ _ _ band => s.writeZone_zonesSound h z _ band rfl rfl
    case switchHeat => exact fun s h _ z b v hv => s.switchHeat_zonesSound h z b v hv
    case switchHumidity => exact fun s h _ z b v hv => s.switchHumidity_zonesSound h z b v hv
    case resetZone => exact fun s h _ z => s.resetZone_zonesSound h z
    case probeConfig => exact fun s h _ _ _ _ _ => h
    case putCurve => exact fun s h _ _ _ => h
    case clearCurve => exact fun s h _ _ => h
    case fanConfig => exact fun s h _ _ _ _ _ _ _ _ _ _ _ => h.congr (by simp) (by simp [State.writeFanConfig]) (by simp)
    case interlockConfig =>
      refine fun s h _ i _ _ _ _ => h.congr (by simp) ?_ (by simp)
      simp only [State.configureInput]
      split <;> simp
    case requestSave => exact fun s h _ _ => h.of_memory rfl rfl (h.2.2.requestSave h.2.1)
    all_goals
      intro s h
      intros
      exact h.congr (by simp) (by simp) (by simp)
  case finishEvent => exact fun s h => s.finishEvent_zonesSound h
  case takeHours => exact fun s h => h.of_zones (by simp) (by simp) (State.ZonesWithin.takeHours h.1)
  case takeSettle => exact fun s h => h.of_zones (by simp) (by simp) (State.ZonesWithin.takeSettle h.1)
  case takeTimeout => exact fun s h => h.of_zones (by simp) (by simp) (State.ZonesWithin.takeTimeout h.1)
  case takeScanExpiry => exact fun s h => s.takeScanExpiry_zonesSound h
  case restartNow => exact fun s h _ => State.zonesSound_of_powerOn rfl rfl h.2.2.restart
  case powerOn =>
    refine fun s h _ _ => State.zonesSound_of_powerOn rfl rfl ?_
    exact ⟨(h.2.2.tear .writing).1, (fun _ hi => by cases hi), (fun _ hi => by cases hi)⟩
  case powerLoss => exact fun s h t => State.zonesSound_of_powerOn rfl rfl (h.2.2.tear t).emptied
  case loadEnd => exact fun s h _ _ => s.endLoad_zonesSound h
  case checkpointWriteEnd => exact fun s h r => h.of_memory (by simp) (by simp) (State.endCheckpointWrite_images h.2.2 r)
  case saveWriteEnd => exact fun s h r => h.of_memory (by simp) (by simp) (State.endSaveWrite_images h.2.2 r)
  case takeSet => exact fun s h _ _ samples => s.takeSet_zonesSound h samples
  case countEnds => exact fun s h => s.countEnds_zonesSound h
  all_goals
    intro s h
    intros
    exact h.congr (by simp) (by simp) (by simp)

/-- Settles O58: each operation of the commands keeps the scanner's agreement, and each the zones' ranges, so every step
does. -/
theorem everyStepKeepsScannerAndZones : Obligations.EveryStepKeepsScannerAndZones := by
  unfold Obligations.EveryStepKeepsScannerAndZones
  exact fun s t ht => ⟨fun h => scannerAgrees_kept.step h ht, fun h => zonesSound_kept.step h ht⟩

end Sys2Proof.Machine
end

section
/-! ResetMeetsEveryCondition: the state right after power-on. -/

namespace Sys2Proof.Machine

/-- Settles O59: every block at its power-on values meets its condition. -/
theorem resetMeetsEveryCondition : Obligations.ResetMeetsEveryCondition := by
  unfold Obligations.ResetMeetsEveryCondition
  constructor
  case collections =>
    have hprobe : ∀ p, State.reset.probe p = .cleared := fun p => by
      simp [State.probe, State.reset, getTable]
    refine ⟨⟨by decide, by decide⟩, fun p => ?_, fun p => ?_⟩
    · rw [hprobe]; exact ⟨by decide, by decide, by decide⟩
    · rw [hprobe]; decide
  case run => exact ⟨⟨by decide, by decide⟩, by decide, by decide, by decide, by decide⟩
  case clocks =>
    refine ⟨⟨by decide, by decide⟩, ?_, ?_, ?_⟩ <;> simp [State.reset]
  case outputs =>
    refine ⟨fun z k => ?_, fun z k => ?_, fun z => ?_, fun z => .inl ?_⟩
    · cases z <;> cases k <;> rfl
    · cases z <;> cases k <;> simp [Valve.Sound] <;> decide
    · cases z <;> exact ⟨rfl, rfl⟩
    · cases z <;> rfl
  case interlocks =>
    refine ⟨fun h => ?_, fun _ => ⟨fun i => ?_, rfl, rfl, rfl, rfl⟩, fun h => ?_⟩
    · rfl
    · cases i <;> rfl
    · cases h
  case fans => exact ⟨⟨rfl, rfl⟩, fun _ => rfl, fun _ => .inr rfl⟩
  case fanSettings =>
    simp [State.FanSettingsSound, Settings.FansWithin, Memory.ImagesMeet, State.reset, Settings.default]
  case scanner => exact Scanner.powerOn_agrees
  case zones =>
    refine State.zonesSound_of_powerOn rfl rfl ?_
    simp [Memory.ImagesMeet, State.reset]

end Sys2Proof.Machine
end

section
/-! SUPPORT. The scanner's events of an awake part: the scan timer's expiry, the settle's end and the count's end, and how a
count ends (R1 to R6, R12). -/

namespace Sys2Proof.Machine

/-! ### The events -/

theorem exec_settleEnd_of_awake {s : State} (h : s.Awake) : exec .settleEnd s = .next s.settleEnds.finishEvent := by
  show Host.Outcome.next (s.event State.settleEnds) = _
  rw [s.event_of_awake h]

/-- R1: a count that the threshold or the full counter ends. -/
theorem exec_of_countsTo {c : Instr} {n : Nat} {s : State} (hc : CountsTo c n) (h : s.Awake) :
    exec c s = .next (s.countEnds n).finishEvent := by
  obtain ⟨rfl, hn⟩ | ⟨rfl, rfl⟩ := hc
  · show Host.Outcome.next (s.event fun t => if n ≤ 65534 then t.countEnds n else t) = _
    rw [s.event_of_awake h, if_pos hn]
  · show Host.Outcome.next (s.event fun t => t.countEnds 65535) = _
    rw [s.event_of_awake h]

theorem exec_scanTimerExpiry_of_due_none {s : State} (hp : s.powered = true) (hd : s.due = .none) :
    exec .scanTimerExpiry s = .next s.takeScanExpiry.finishEvent := by
  show Host.Outcome.next (s.afterMinute State.takeScanExpiry) = _
  rw [s.afterMinute_of_due_none hd, State.dueEvent, if_pos hp]

/-- A scanner that alone has changed asks for no checkpoint. -/
theorem State.finishEvent_setScanner {s : State} (hd : s.due = .none) (x : Scanner) :
    (s.setScanner x).finishEvent = s.setScanner x :=
  State.finishEvent_of_due_none _ (by simpa using hd)

theorem State.Awake.due_none {s : State} (h : s.Awake) : s.due = .none := h.2.1

/-! ### The scan timer's expiry (R12) -/

/-- R12: in SCANNING the expiry sets start-due, which may already be set. -/
theorem State.takeScanExpiry_of_scanning {s : State} (he : s.settings.scanEnable = true)
    (ht : s.settings.scanInterval ≤ s.scanner.timer) (hs : s.scanner.state = .scanning) :
    s.takeScanExpiry = s.setScanner { s.scanner with startDue := true } := by
  cases hd : s.scanner.startDue with
  | false => simp [State.takeScanExpiry, State.scanExpiryDue, he, ht, hs, hd]
  | true =>
    have hsame : s.setScanner { s.scanner with startDue := true } = s := by rw [← hd]; rfl
    rw [hsame]
    simp [State.takeScanExpiry, State.scanExpiryDue, he, ht, hs, hd]

theorem State.takeScanExpiry_of_waiting {s : State} (he : s.settings.scanEnable = true)
    (ht : s.settings.scanInterval ≤ s.scanner.timer) (hs : s.scanner.state = .waiting) :
    s.takeScanExpiry = s.startScan := by
  simp [State.takeScanExpiry, State.scanExpiryDue, he, ht, hs]

/-! ### Counts (R1, R4, R6) -/

theorem countBand_low {n : Nat} (h : n < 1024) : countBand n = .low := by simp [countBand, h]

theorem countBand_inWindow {n : Nat} (hlo : 1024 ≤ n) (hhi : n ≤ 60000) : countBand n = .inWindow := by
  simp [countBand, hhi]; omega

theorem countBand_high {n : Nat} (h : 60000 < n) : countBand n = .high := by
  rw [countBand, if_neg (by omega), if_neg (by omega)]

/-- R4: in window, the negative part follows. -/
theorem decide4_inWindow {n : Nat} (hlo : 1024 ≤ n) (hhi : n ≤ 60000) (r : Fin 4) (attempt : Nat) :
    decide4 n r attempt = .negativePart := by
  simp [decide4, countBand_inWindow hlo hhi]

/-- R4: with attempts left, a low count goes a range down and a high one a range up. -/
theorem decide4_nextAttempt {n attempt : Nat} {from_ r : Fin 4} (ha : attempt < 4)
    (h : n < 1024 ∧ r.val + 1 = from_.val ∨ 60000 < n ∧ r.val = from_.val + 1) :
    decide4 n from_ attempt = .nextAttempt r := by
  obtain ⟨hn, hr⟩ | ⟨hn, hr⟩ := h
  · have hne : from_ ≠ 0 := fun h0 => by simp [h0] at hr
    have hdown : rangeDown from_ = r := Fin.ext (by simp [rangeDown]; omega)
    simp [decide4, countBand_low hn, hne, ha, hdown]
  · have hne : from_ ≠ 3 := fun h3 => by simp [h3] at hr; omega
    have hup : rangeUp from_ = r := by
      rw [rangeUp, dif_pos (by omega)]
      exact Fin.ext hr.symm
    simp [decide4, countBand_high hn, hne, ha, hup]

/-- R4: a positive count that ends the measurement, and its outcome. -/
theorem decide4_ends {n attempt : Nat} {r : Fin 4} {outcome : Outcome}
    (h : n < 1024 ∧ r = 0 ∧ outcome = .short ∨ 60000 < n ∧ r = 3 ∧ outcome = .dryLimit ∨
      (n < 1024 ∧ r ≠ 0 ∨ 60000 < n ∧ r ≠ 3) ∧ 4 ≤ attempt ∧ outcome = .unstable) :
    decide4 n r attempt = .ends outcome := by
  obtain ⟨hn, rfl, rfl⟩ | ⟨hn, rfl, rfl⟩ | ⟨⟨hn, hr⟩ | ⟨hn, hr⟩, ha, rfl⟩ := h
  · simp [decide4, countBand_low hn]
  · simp [decide4, countBand_high hn]
  · simp [decide4, countBand_low hn, hr, Nat.not_lt.2 ha]
  · simp [decide4, countBand_high hn, hr, Nat.not_lt.2 ha]

/-- R6: a negative count that ends the measurement, and its outcome. -/
theorem negativeOutcome_eq {n : Nat} {outcome : Outcome}
    (h : (1024 ≤ n ∧ n ≤ 60000) ∧ outcome = .pair ∨ (n < 1024 ∨ 60000 < n) ∧ outcome = .polarized) :
    negativeOutcome n = outcome := by
  obtain ⟨⟨hlo, hhi⟩, rfl⟩ | ⟨hlow | hhigh, rfl⟩ := h
  · simp [negativeOutcome, countBand_inWindow hlo hhi]
  · simp [negativeOutcome, countBand_low hlow]
  · simp [negativeOutcome, countBand_high hhigh]

/-- R4: a positive count in progress. -/
theorem State.countEnds_of_positive {s : State} {m : Measurement} (hm : s.scanner.measurement = some m)
    (hp : m.phase = .counting) (hn : m.nPlus = none) (n : Nat) : s.countEnds n = s.positiveCount m n := by
  simp [State.countEnds, hm, hp, hn]

/-- R4, R6, R7: a count that ends the measurement hands over N+ and, when it was the negative one, N-. -/
theorem State.countEnds_of_ends {s : State} {m : Measurement} {n : Nat} {outcome : Outcome}
    (hm : s.scanner.measurement = some m) (h : EndsMeasurement m n outcome) :
    s.countEnds n = s.endMeasurement m outcome (m.nPlus.getD n) (m.nPlus.map fun _ => n) := by
  obtain ⟨hphase, ⟨hplus, hends⟩ | ⟨hplus, hends⟩⟩ := h
  · rw [s.countEnds_of_positive hm hphase hplus]
    simp [State.positiveCount, decide4_ends hends, hplus]
  · obtain ⟨p, hp⟩ := Option.isSome_iff_exists.1 hplus
    simp [State.countEnds, hm, hphase, hp, negativeOutcome_eq hends]

end Sys2Proof.Machine
end

section
/-! SettlesAndPositiveCountsGoOn. -/

namespace Sys2Proof.Machine

/-- Settles O14: the settle's end starts the count, and a positive count that goes on reverses the polarity or takes the
next range, as R4's table has it. -/
theorem settlesAndPositiveCountsGoOn : Obligations.SettlesAndPositiveCountsGoOn := by
  unfold Obligations.SettlesAndPositiveCountsGoOn
  refine ⟨fun s m k ha hm hp => ?_, fun s m c n hc ha hm hp hn => ⟨fun hlo hhi => ?_, fun r hattempt hr => ?_⟩⟩
  · have hends : s.settleEnds = s.setScanner { s.scanner with measurement := some { m with phase := .counting } } := by
      simp [State.settleEnds, hm, hp]
    rw [exec_settleEnd_of_awake ha, hends, State.finishEvent_setScanner ha.due_none]
    rfl
  · rw [exec_of_countsTo hc ha, State.countEnds_of_positive hm hp hn, State.positiveCount, decide4_inWindow hlo hhi]
    exact congrArg _ (State.finishEvent_setScanner ha.due_none _)
  · rw [exec_of_countsTo hc ha, State.countEnds_of_positive hm hp hn, State.positiveCount, decide4_nextAttempt hattempt hr]
    exact congrArg _ (State.finishEvent_setScanner ha.due_none _)

end Sys2Proof.Machine
end

section
/-! SUPPORT. A publication (R56, R154, R155): what it puts into the statistics and into the ring; and the notices that an
event queues (R159), which follow those already queued in it. -/

namespace Sys2Proof.Machine

/-! ### What a publication is made of -/

theorem State.publicationNow_congr {s t : State} (hp : t.probes = s.probes) (hc : t.clock = s.clock)
    (hs : t.settings = s.settings) (n : Nat) : t.publicationNow n = s.publicationNow n := by
  have hprobe : t.probe = s.probe := funext fun p => by rw [State.probe, hp]; rfl
  have heligible : t.eligibleProbes = s.eligibleProbes := by unfold State.eligibleProbes; rw [hprobe]
  have hentries : t.probeEntries = s.probeEntries := by unfold State.probeEntries; rw [hprobe]
  simp only [State.publicationNow, heligible, hentries, hc, hs]

@[simp] theorem State.publish_statistics (s : State) (n : Nat) :
    (s.publish n).statistics =
      { latest := some (s.publicationNow n), keptQuorum := (s.publicationNow n).quorum } := by
  simp [State.publish, State.keepPublication]

/-- R117, R154: the WB a frame shows: clamped to the DB where that is usable. -/
theorem ZoneChannels.usableWb_eq (c : ZoneChannels) :
    c.usableWb = c.wb.usable.map fun wb => (c.db.usable.map (min wb)).getD wb := by
  cases hw : c.wb.usable with
  | none => simp [ZoneChannels.usableWb, hw]
  | some wb =>
    have hp : c.wb.published = some wb := by
      unfold Channel.usable at hw
      split at hw
      · exact hw
      · cases hw
    cases hd : c.db.usable <;> simp [ZoneChannels.usableWb, ZoneChannels.publishedWb, hw, hp, hd]

theorem State.zoneActive_congr {s t : State} (h : t.settings.zones = s.settings.zones) : t.zoneActive = s.zoneActive := by
  funext z
  simp [State.zoneActive, State.zoneSettings, h]

/-- R154: the frame of a publication is the one the statements speak of. -/
theorem State.frameOf_eq_frameFor {s t : State} {p : Publication} (hm : p.minute = s.clock.minute)
    (hs : t.settings = s.settings) (hc : t.sampler = s.sampler) :
    t.frameOf p ((s.history.sequence + 1) % 65536) = frameFor s t p := by
  simp only [State.frameOf, frameFor, hm, State.frameStep, State.zoneEntries, State.activeZones, State.channels, hc,
    ZoneChannels.usableWb_eq, State.zoneActive_congr (congrArg Settings.zones hs), ZoneId.all]

/-- R155: a frame appended is a frame taken. -/
theorem frameTaken_of_append {s t : State} {p : Publication} (h : t.history = s.history.append (frameFor s t p)) :
    FrameTaken s t p := by
  refine ⟨fun hroom => ?_, fun oldest next rest hframes hfull => ?_⟩
  · rw [h, History.append, if_pos hroom]; rfl
  · rw [h, History.append, if_neg (by omega), hframes]; rfl

/-- R155: the frame appended once the Run Controller has taken the publication, in a state with the ring as it was. -/
theorem State.appendFrame_frameTaken {s t : State} {p : Publication} (hh : t.history = s.history)
    (hm : p.minute = s.clock.minute) (hs : t.settings = s.settings) (hc : t.sampler = s.sampler) :
    FrameTaken s (t.appendFrame p) p := by
  refine frameTaken_of_append ?_
  show t.history.append (t.frameOf p ((t.history.sequence + 1) % 65536)) = s.history.append (frameFor s t p)
  rw [hh, State.frameOf_eq_frameFor hm hs hc]

theorem State.publish_frameTaken (s : State) (n : Nat) : FrameTaken s (s.publish n) (s.publicationNow n) :=
  State.appendFrame_frameTaken (by simp) rfl (by simp) (by simp)

/-- R154: the newest frame is the publication's, whatever stood in the ring. -/
theorem State.publish_latest (s : State) (n : Nat) : (s.publish n).history.latest.map (·.scanNumber) = some n := by
  simp only [State.publish, State.appendFrame, History.append]
  split <;> rfl

/-- The frame taken does not depend on what else has changed before or after. -/
theorem FrameTaken.congr {s s' t t' : State} {p : Publication} (h : FrameTaken s t p) (hh : s'.history = s.history)
    (hc : s'.clock = s.clock) (hs : s'.settings.zones = s.settings.zones) (hsamp : s'.sampler = s.sampler)
    (ht : t'.history = t.history) (hr : t'.run = t.run) : FrameTaken s' t' p := by
  have hframe : frameFor s' t' p = frameFor s t p := by
    simp only [frameFor, hh, hc, State.channels, hsamp, hr]
    rw [State.zoneActive_congr hs]
  unfold FrameTaken at h ⊢
  rwa [hframe, hh, ht]

/-! ### The notices of an event -/

theorem noticesAfter_append {s t : State} {xs : List (NoticeKind × Nat × Nat)} (hc : t.clock = s.clock)
    (h : t.notices = noticesAfter s xs) (ys : List (NoticeKind × Nat × Nat)) :
    noticesAfter t ys = noticesAfter s (xs ++ ys) := by
  simp only [noticesAfter, List.foldl_append, hc] at h ⊢
  rw [h]

/-- A state in which an event has queued some notices and the clock stands. -/
def State.Queues (s t : State) : Prop := t.clock = s.clock ∧ ∃ xs, t.notices = noticesAfter s xs

theorem State.Queues.of_same {s t : State} (hc : t.clock = s.clock) (hn : t.notices = s.notices) : s.Queues t :=
  ⟨hc, [], hn⟩

theorem State.Queues.refl (s : State) : s.Queues s := .of_same rfl rfl

theorem State.Queues.trans {s t u : State} (h : s.Queues t) (h' : t.Queues u) : s.Queues u := by
  obtain ⟨hc, xs, hx⟩ := h
  obtain ⟨hc', ys, hy⟩ := h'
  exact ⟨hc'.trans hc, xs ++ ys, by rw [hy, noticesAfter_append hc hx]⟩

/-- What changes neither clock nor notices may follow. -/
theorem State.Queues.then_same {s t u : State} (h : s.Queues t) (hc : u.clock = t.clock) (hn : u.notices = t.notices) :
    s.Queues u := h.trans (.of_same hc hn)

theorem State.Queues.then_notice {s t : State} (h : s.Queues t) (kind : NoticeKind) (a b : Nat) :
    s.Queues (t.queueNotice kind a b) := h.trans ⟨rfl, [(kind, a, b)], rfl⟩

theorem State.Queues.then_checkpoint {s t : State} (h : s.Queues t) : s.Queues t.wantCheckpoint := h.then_same rfl rfl

theorem State.Queues.then_refreshOutputs {s t : State} (h : s.Queues t) : s.Queues t.refreshOutputs :=
  h.then_same (by simp) (by simp)

theorem State.fansEnterFailed_queues (s : State) : s.Queues s.fansEnterFailed := by
  simp only [State.fansEnterFailed]
  refine .then_refreshOutputs (.then_notice ?_ _ _ _)
  split
  · exact .then_notice (.of_same rfl rfl) _ _ _
  · exact .of_same rfl rfl

theorem State.fansStart_queues (s : State) : s.Queues s.fansStart := by
  simp only [State.fansStart]
  split
  · exact .trans (.of_same rfl rfl) (State.fansEnterFailed_queues _)
  · exact .of_same (by simp) (by simp)

theorem State.fansFollowRun_queues (s : State) : s.Queues s.fansFollowRun := by
  unfold State.fansFollowRun
  split
  · split
    · exact s.fansStart_queues
    · exact .refl s
  · exact .of_same (by simp) (by simp)

theorem State.addReason_queues (s : State) (r : HoldReason) : s.Queues (s.addReason r) := by
  simp only [State.addReason]
  split
  · exact .refl s
  · split
    · exact .then_checkpoint (.then_notice (.of_same rfl rfl) _ _ _)
    · exact .then_notice (.of_same rfl rfl) _ _ _
    all_goals exact .of_same rfl rfl

theorem State.resumeIfEmpty_queues (s : State) : s.Queues s.resumeIfEmpty := by
  unfold State.resumeIfEmpty
  split
  · exact .then_checkpoint (.then_notice (.of_same rfl rfl) _ _ _)
  · exact .refl s

theorem State.removeReason_queues (s : State) (r : HoldReason) : s.Queues (s.removeReason r) := by
  unfold State.removeReason
  split
  · exact .trans (.of_same rfl rfl) (State.resumeIfEmpty_queues _)
  · exact .refl s

theorem State.judgeReason_queues (s : State) (r : HoldReason) (present : Bool) : s.Queues (s.judgeReason r present) := by
  unfold State.judgeReason
  split
  · split
    · exact s.addReason_queues r
    · exact s.removeReason_queues r
  · exact .refl s

theorem State.enterStepFrom_queues (s : State) (i : Nat) (origin : StepRecord → ZoneId → Int) :
    s.Queues (s.enterStepFrom i origin) := by
  unfold State.enterStepFrom
  split
  · exact .refl s
  · exact .then_checkpoint (.then_notice (.of_same (by simp) (by simp)) _ _ _)

theorem State.endRun_queues (s : State) (final : RunState) : s.Queues (s.endRun final) :=
  .trans (.of_same (by simp) (by simp)) (State.fansFollowRun_queues _)

theorem State.completeRun_queues (s : State) : s.Queues s.completeRun := by
  unfold State.completeRun
  refine .then_checkpoint (.then_notice ?_ _ _ _)
  exact .trans (.of_same rfl rfl) (State.endRun_queues _ _)

theorem State.stepEnd_queues (s : State) : s.Queues s.stepEnd := by
  simp only [State.stepEnd]
  split
  · exact .trans (.then_notice (.of_same rfl rfl) _ _ _) (State.enterStepFrom_queues _ _ _)
  · split
    · exact s.completeRun_queues
    · exact s.enterStepFrom_queues _ _

theorem State.testAtPublication_queues (s : State) (f : Option McFigures) : s.Queues (s.testAtPublication f) := by
  have hmet : s.Queues { s with run := { s.run with mcMet := true } } := .of_same rfl rfl
  simp only [State.testAtPublication]
  split
  · exact .refl s
  · split
    · split
      · exact s.stepEnd_queues
      · exact .refl s
    · split
      · exact s.stepEnd_queues
      · exact .refl s
    · split <;> split
      · exact hmet.trans (State.stepEnd_queues _)
      · exact hmet
      · exact s.stepEnd_queues
      · exact .refl s
    all_goals exact .refl s

theorem State.noticeQuorum_queues (s : State) (p : Publication) : s.Queues (s.noticeQuorum p) := by
  unfold State.noticeQuorum
  split
  · split
    · exact .then_notice (.refl s) _ _ _
    · exact .then_notice (.refl s) _ _ _
    all_goals exact .refl s
  · exact .refl s

theorem State.runTakePublication_queues (s : State) (p : Publication) : s.Queues (s.runTakePublication p) :=
  (s.judgeReason_queues _ _).trans (State.testAtPublication_queues _ _)

theorem State.publish_queues (s : State) (n : Nat) : s.Queues (s.publish n) := by
  have hkept := (s.noticeQuorum_queues (s.publicationNow n)).then_same
    (u := (s.noticeQuorum (s.publicationNow n)).keepPublication (s.publicationNow n)) (by simp) (by simp)
  exact (hkept.trans (State.runTakePublication_queues _ (s.publicationNow n))).then_same (by simp [State.publish])
    (by simp [State.publish])

theorem State.publishScan_queues (s : State) : s.Queues s.publishScan :=
  .trans (.of_same (by simp) (by simp)) (State.publish_queues _ _)

theorem State.startScan_queues (s : State) : s.Queues s.startScan := by
  cases h : s.nextProbe 0 with
  | some p => rw [s.startScan_of_next h]; exact .of_same rfl rfl
  | none =>
    rw [s.startScan_of_none h]
    refine State.Queues.then_same (t := State.publishScan _) ?_ rfl rfl
    exact .trans (.of_same rfl rfl) (State.publishScan_queues _)

theorem State.completeScan_queues (s : State) : s.Queues s.completeScan := by
  cases h : s.scanner.startDue with
  | true => rw [s.completeScan_of_due h]; exact s.publishScan_queues.trans (State.startScan_queues _)
  | false => rw [s.completeScan_of_not_due h]; exact s.publishScan_queues.then_same rfl rfl

theorem State.advanceScan_queues (s : State) (after : Fin 48) : s.Queues (s.advanceScan after) := by
  cases h : s.nextProbe (probeNumber after) with
  | some p => rw [State.advanceScan_of_next h]; exact .of_same rfl rfl
  | none => rw [State.advanceScan_of_none h]; exact s.completeScan_queues

end Sys2Proof.Machine
end

section
/-! SUPPORT. A scan that publishes (R9, R11), and the hand-over of an outcome (R7, R8, R23). -/

namespace Sys2Proof.Machine

/-! ### The publication of a scan -/

/-- R56, R155: the statistics stand as published from what `t` holds, under a scan's number, and the frame has been taken
into the ring of `s`. -/
def PublicationStands (s t : State) (scanNumber : Nat) : Prop :=
  t.statistics =
      { latest := some (t.publicationNow scanNumber), keptQuorum := (t.publicationNow scanNumber).quorum } ∧
    FrameTaken s t (t.publicationNow scanNumber)

theorem PublicationStands.of_before {s s' t : State} {n : Nat} (h : PublicationStands s t n)
    (hh : s'.history = s.history) (hc : s'.clock = s.clock) (hs : s'.settings.zones = s.settings.zones)
    (hsamp : s'.sampler = s.sampler) : PublicationStands s' t n :=
  ⟨h.1, h.2.congr hh hc hs hsamp rfl rfl⟩

theorem PublicationStands.then_same {s t t' : State} {n : Nat} (h : PublicationStands s t n)
    (hstat : t'.statistics = t.statistics) (hp : t'.probes = t.probes) (hc : t'.clock = t.clock)
    (hs : t'.settings = t.settings) (hh : t'.history = t.history) (hr : t'.run = t.run) : PublicationStands s t' n := by
  unfold PublicationStands
  rw [State.publicationNow_congr hp hc hs, hstat]
  exact ⟨h.1, h.2.congr rfl rfl rfl rfl hh hr⟩

theorem State.publishScan_stands (s : State) : PublicationStands s s.publishScan s.scanner.scanNumber := by
  have hpublication : s.publishScan.publicationNow s.scanner.scanNumber = s.publicationNow s.scanner.scanNumber :=
    State.publicationNow_congr (by simp) (by simp) (by simp) _
  unfold PublicationStands
  rw [hpublication]
  exact ⟨State.publish_statistics _ _,
    (State.publish_frameTaken (s.setScanner { s.scanner with excitation := .off, measurement := none }) _).congr
      rfl rfl rfl rfl rfl rfl⟩

theorem PublicationStands.setScanner {s t : State} {n : Nat} (h : PublicationStands s t n) (x : Scanner) :
    PublicationStands s (t.setScanner x) n := h.then_same rfl rfl rfl rfl rfl rfl

theorem PublicationStands.restScan {s t : State} {n : Nat} (h : PublicationStands s t n) :
    PublicationStands s t.restScan n := h.setScanner _

theorem PublicationStands.finishEvent {s t : State} {n : Nat} (h : PublicationStands s t n) :
    PublicationStands s t.finishEvent n :=
  h.then_same (by simp) (by simp) (by simp) (by simp) (by simp) (by simp)

theorem PublicationStands.scanNumber {s t : State} {n : Nat} (h : PublicationStands s t n) :
    t.statistics.latest.map (·.scanNumber) = some n := by
  rw [h.1]; rfl

/-- R9, R11: a scan that starts with no probe to measure publishes under its own number and rests. -/
theorem State.startScan_of_none_stands {s : State} (h : s.nextProbe 0 = none) :
    PublicationStands s s.startScan ((s.scanner.scanNumber + 1) % 65536) := by
  rw [s.startScan_of_none h]
  exact ((State.publishScan_stands (s.setScanner (s.scanner.begin s.settings.scanEnable))).of_before rfl rfl rfl
    rfl).restScan

theorem State.startScan_of_none_scanner {s : State} (h : s.nextProbe 0 = none) :
    s.startScan.scanner = (s.scanner.begin s.settings.scanEnable).rested s.settings.scanEnable := by
  rw [s.startScan_of_none h, State.restScan_publishScan_scanner]
  rfl

/-! ### The hand-over -/

/-- R44: a reading neither blocks a probe nor unblocks it. -/
theorem ProbeRecord.apply_blocked_iff (r : ProbeRecord) (limit : Nat) (range : Fin 4) (x : Reading) :
    (r.apply limit range x).state = .blocked ↔ r.state = .blocked := by
  unfold ProbeRecord.apply
  dsimp only
  split
  · cases r.state <;> simp only [ProbeRecord.takeValid] <;> (repeat' split) <;>
      simp_all [ProbeRecord.enterFaulted]
  · cases r.state <;> simp only [ProbeRecord.takeFault] <;> (repeat' split) <;>
      simp_all [ProbeRecord.enterFaulted]
  · exact Iff.rfl

/-- R10, R44: a probe that qualified still does after its reading. -/
theorem ProbeRecord.apply_qualifies (r : ProbeRecord) (limit : Nat) (range : Fin 4) (x : Reading) :
    (r.apply limit range x).qualifies = r.qualifies := by
  simp only [ProbeRecord.qualifies, ProbeRecord.apply_assignment, ne_eq, ProbeRecord.apply_blocked_iff]

/-- R44, R49: the record of the probe, and every other one. -/
theorem State.applyReading_probes (s : State) (p : Fin 48) (range : Fin 4) (x : Reading) :
    (s.applyReading p range x).probes = setTable s.probes p ((s.probe p).apply s.settings.jumpLimit range x) := by
  simp only [State.applyReading, State.noticeFaulted]
  (repeat' split) <;> rfl

theorem State.applyReading_probe_self (s : State) (p : Fin 48) (range : Fin 4) (x : Reading) :
    (s.applyReading p range x).probe p = (s.probe p).apply s.settings.jumpLimit range x := by
  simp [State.probe, s.applyReading_probes]

theorem State.applyReading_probe_ne (s : State) {p q : Fin 48} (h : q ≠ p) (range : Fin 4) (x : Reading) :
    (s.applyReading p range x).probe q = s.probe q := by
  simp [State.probe, s.applyReading_probes, getTable_setTable_ne _ _ _ _ (Ne.symm h)]

/-- R49: a reading queues the notice of the fault it brings, if it brings one. -/
theorem State.applyReading_notices (s : State) (p : Fin 48) (range : Fin 4) (x : Reading) :
    (s.applyReading p range x).notices =
      noticesAfter s (faultNotices p (s.probe p) ((s.probe p).apply s.settings.jumpLimit range x)) := by
  have hnoticed (r : ProbeRecord) : ((s.setProbe p r).noticeFaulted p (s.probe p) r).notices =
      noticesAfter s (faultNotices p (s.probe p) r) := by
    cases hk : r.faultKind with
    | none => simp only [State.noticeFaulted, faultNotices, hk]; rfl
    | some k =>
      by_cases hfault : (s.probe p).state ≠ .faulted ∧ r.state = .faulted
      · simp only [State.noticeFaulted, faultNotices, hk, if_pos hfault]; rfl
      · simp only [State.noticeFaulted, faultNotices, hk, if_neg hfault]; rfl
  exact hnoticed _

/-- R23: what a hand-over of an assigned probe comes to. -/
theorem State.handOver_of_assigned {s : State} {m : Measurement} {a : Assignment}
    (ha : (s.probe m.probe).assignment = some a) (outcome : Outcome) (nPlus : Nat) (nMinus : Option Nat) :
    s.handOver m outcome nPlus nMinus =
      s.applyReading m.probe m.range
        (convert (s.curve a.group) s.settings.polarityTolerance
          (woodTemperature (s.zoneSettings a.zone).woodFitted (s.channels a.zone))
          { probe := m.probe, scanNumber := s.scanner.scanNumber, outcome, range := m.range, nPlus, nMinus,
            minute := s.clock.minute }) := by
  simp only [State.handOver, ha]

theorem State.handOver_qualifies (s : State) (m : Measurement) (outcome : Outcome) (nPlus : Nat) (nMinus : Option Nat)
    (q : Fin 48) : ((s.handOver m outcome nPlus nMinus).probe q).qualifies = (s.probe q).qualifies := by
  cases ha : (s.probe m.probe).assignment with
  | none => simp [State.handOver, ha]
  | some a =>
    rw [State.handOver_of_assigned ha]
    by_cases hq : q = m.probe
    · subst hq; rw [s.applyReading_probe_self, ProbeRecord.apply_qualifies]
    · rw [s.applyReading_probe_ne hq]

theorem State.handOver_probe_ne (s : State) {m : Measurement} {q : Fin 48} (h : q ≠ m.probe) (outcome : Outcome)
    (nPlus : Nat) (nMinus : Option Nat) : (s.handOver m outcome nPlus nMinus).probe q = s.probe q := by
  cases ha : (s.probe m.probe).assignment with
  | none => simp [State.handOver, ha]
  | some a => rw [State.handOver_of_assigned ha, s.applyReading_probe_ne h]

/-- R10: the hand-over does not change which probe comes next. -/
theorem State.handOver_nextProbe (s : State) (m : Measurement) (outcome : Outcome) (nPlus : Nat) (nMinus : Option Nat)
    (above : Nat) : (s.handOver m outcome nPlus nMinus).nextProbe above = s.nextProbe above :=
  State.nextProbe_congr fun q _ => s.handOver_qualifies m outcome nPlus nMinus q

/-- The reading that an outcome without a pair gives (R23, R24, R39). -/
def outcomeReading (outcome : Outcome) (dryMc minute : Nat) : Reading :=
  { kind :=
      match outcome with
      | .short => .short
      | .dryLimit => .dryLimit
      | .unstable => .unstable
      | .pair | .polarized => .polarized
    l := none, lc := none, mc := if outcome = .dryLimit then some dryMc else none, clamp := .none, minute }

theorem convert_of_not_pair {raw : RawResult} {curve : Curve} {point : CurvePoint} (h : raw.outcome ≠ .pair)
    (hp : curve.points.getLast? = some point) (tolerance : Nat) (tw : Option Int) :
    convert (some curve) tolerance tw raw = outcomeReading raw.outcome point.mc raw.minute := by
  cases ho : raw.outcome with
  | pair => exact absurd ho h
  | dryLimit => simp [convert, ho, dryLimitReading, hp, outcomeReading]
  | short | unstable | polarized => simp [convert, ho, outcomeReading, bareReading]

/-- R49, R10: the notices of a reading applied and the scanner gone on: that of the fault, and more only when the scan is
over. -/
theorem State.advanceScan_applyReading_notices (s : State) (p : Fin 48) (range : Fin 4) (x : Reading) :
    ∃ more,
      ((s.applyReading p range x).advanceScan p).notices =
        noticesAfter s (faultNotices p (s.probe p) ((s.probe p).apply s.settings.jumpLimit range x) ++ more) ∧
      ((∃ q, p < q ∧ (s.probe q).qualifies = true) → more = []) := by
  have hreading := s.applyReading_notices p range x
  cases hn : (s.applyReading p range x).nextProbe (probeNumber p) with
  | some q =>
    refine ⟨[], ?_, fun _ => rfl⟩
    rw [State.advanceScan_of_next hn, List.append_nil, ← hreading]
    simp
  | none =>
    obtain ⟨-, more, hmore⟩ := (s.applyReading p range x).advanceScan_queues p
    refine ⟨more, ?_, fun ⟨q, hpq, hq⟩ => ?_⟩
    · rw [hmore, noticesAfter_append (by simp) hreading]
    · have hnone := (State.nextProbe_eq_none_iff _ _).1 hn q ((probeNumber_lt_iff p q).2 hpq)
      rw [s.applyReading_probe_ne (ne_of_gt hpq), hq] at hnone
      cases hnone

/-- R7, R8, R44, R49: an assigned probe's reading applied, and the scanner gone on: the reading has been handed over. -/
theorem State.handedOver_of_applied (s : State) (m : Measurement) (x : Reading) :
    HandedOver s ((s.applyReading m.probe m.range x).advanceScan m.probe).finishEvent m x := by
  have hprobe : ∀ q, ((s.applyReading m.probe m.range x).advanceScan m.probe).finishEvent.probe q =
      (s.applyReading m.probe m.range x).probe q := fun q => by simp [State.probe]
  have hself := s.applyReading_probe_self m.probe m.range x
  have hlast := ProbeRecord.apply_last (s.probe m.probe) s.settings.jumpLimit m.range x
  refine ⟨?_, ?_, ?_, fun q hq => ?_, ?_⟩
  · rw [hprobe, hself]
  · rw [hprobe, hself]; exact hlast.1
  · rw [hprobe, hself]; exact hlast.2
  · rw [hprobe, s.applyReading_probe_ne hq]
  · rw [hprobe, hself]
    simpa using s.advanceScan_applyReading_notices m.probe m.range x

end Sys2Proof.Machine
end

section
/-! ScanTimerExpiryStartsAScan, OutcomeWithoutPairIsHandedOver and ScanGoesOnOrCompletes. -/

namespace Sys2Proof.Machine

/-- Settles O13: in SCANNING the expiry sets start-due; in WAITING it starts a scan, at the first qualifying probe or, with
none, over at once. -/
theorem scanTimerExpiryStartsAScan : Obligations.ScanTimerExpiryStartsAScan := by
  unfold Obligations.ScanTimerExpiryStartsAScan
  refine fun s hp hd he ht => ⟨fun hs => ?_, fun hs => ⟨fun p hq hfirst => ?_, fun hnone => ?_⟩⟩
  · rw [exec_scanTimerExpiry_of_due_none hp hd, State.takeScanExpiry_of_scanning he ht hs]
    exact congrArg _ (State.finishEvent_setScanner hd _)
  · rw [exec_scanTimerExpiry_of_due_none hp hd, State.takeScanExpiry_of_waiting he ht hs,
      State.startScan_of_next (State.nextProbe_zero_of_first ⟨hq, hfirst⟩), State.finishEvent_setScanner hd, he]
    rfl
  · have hnext := State.nextProbe_zero_of_none hnone
    refine ⟨_, exec_scanTimerExpiry_of_due_none hp hd, ?_⟩
    rw [State.takeScanExpiry_of_waiting he ht hs]
    refine ⟨?_, (State.startScan_of_none_stands hnext).finishEvent.scanNumber⟩
    rw [(State.finishEvent_frame _).2.2.2.2.2.1, State.startScan_of_none_scanner hnext, he]
    rfl

/-- Settles O15: the count ends the measurement, the reading of its outcome is applied, and the scanner goes on. -/
theorem outcomeWithoutPairIsHandedOver : Obligations.OutcomeWithoutPairIsHandedOver := by
  unfold Obligations.OutcomeWithoutPairIsHandedOver
  intro s m c n outcome a curve point hc ha hm hends hpair hassigned hcurve hpoint
  refine ⟨_, exec_of_countsTo hc ha, ?_⟩
  rw [State.countEnds_of_ends hm hends, State.endMeasurement, State.handOver_of_assigned hassigned, hcurve,
    convert_of_not_pair hpair hpoint]
  have hover := s.handedOver_of_applied m (outcomeReading outcome point.mc s.clock.minute)
  refine ⟨?_, hover, by simp, by simp, by simp, by simp, by simp, by simp⟩
  rw [hover.1, ProbeRecord.apply_assignment, hassigned]

/-- Settles O17: after the hand-over the next qualifying probe above is selected; with none the scan completes, and with
start-due set the next one starts at its first probe. -/
theorem scanGoesOnOrCompletes : Obligations.ScanGoesOnOrCompletes := by
  unfold Obligations.ScanGoesOnOrCompletes
  intro s m c n outcome hc ha hscanning hm hends
  have hexec := exec_of_countsTo hc ha
  rw [State.countEnds_of_ends hm hends, State.endMeasurement] at hexec
  obtain ⟨u, hu⟩ : ∃ u, u = s.handOver m outcome (m.nPlus.getD n) (m.nPlus.map fun _ => n) := ⟨_, rfl⟩
  rw [← hu] at hexec
  have hnext : ∀ above, u.nextProbe above = s.nextProbe above := fun above => by rw [hu, s.handOver_nextProbe]
  have hscanner : u.scanner = s.scanner := by simp [hu]
  have hsettings : u.settings = s.settings := by simp [hu]
  have hpublished : PublicationStands s u.publishScan s.scanner.scanNumber :=
    hscanner ▸ u.publishScan_stands.of_before (by simp [hu]) (by simp [hu]) (by simp [hu]) (by simp [hu])
  refine ⟨fun p hp hq hbetween => ?_, fun hnone hdue => ?_, fun hnone hdue p hq hfirst => ?_⟩
  · have hp' : u.nextProbe (probeNumber m.probe) = some p := by
      rw [hnext, s.nextProbe_eq_some_iff]
      exact ⟨(probeNumber_lt_iff _ _).2 hp, hq, fun q hmq hqp => hbetween q ((probeNumber_lt_iff _ _).1 hmq) hqp⟩
    rw [State.advanceScan_of_next hp'] at hexec
    have hprobe : u.probe p = s.probe p := by rw [hu, s.handOver_probe_ne (ne_of_gt hp)]
    refine ⟨_, hexec, ?_, by simp [hu], by simp [hu], by simp [hu]⟩
    simp [Scanner.select, hscanner, hprobe]
  all_goals
    have hover : u.nextProbe (probeNumber m.probe) = none := by
      rw [hnext, s.nextProbe_eq_none_iff]
      exact fun q hmq => hnone q ((probeNumber_lt_iff _ _).1 hmq)
    rw [State.advanceScan_of_none hover] at hexec
  · rw [State.completeScan_of_not_due (by rw [hscanner, hdue])] at hexec
    refine ⟨_, hexec, ?_, hpublished.restScan.finishEvent⟩
    rw [(State.finishEvent_frame _).2.2.2.2.2.1, State.restScan_publishScan_scanner, hscanner, hsettings]
  · have hp' : u.publishScan.nextProbe 0 = some p := by
      rw [State.nextProbe_congr (s := u) fun q _ => by simp [State.probe], hnext]
      exact State.nextProbe_zero_of_first ⟨hq, hfirst⟩
    rw [State.completeScan_of_due (by rw [hscanner, hdue]), State.startScan_of_next hp'] at hexec
    refine ⟨_, hexec, ?_, ?_, ?_, (hpublished.setScanner _).finishEvent, fun he => ?_⟩
    · simp [Scanner.select, Scanner.begin]
    · simp [Scanner.select, Scanner.begin, hscanner]
    · simp [Scanner.select]
    · simp [Scanner.select, Scanner.begin, hsettings, he]

end Sys2Proof.Machine
end

section
/-! SUPPORT. A request taken by a receptive part (R163 to R166): its handler's state and reply, and what the reply frame is
made from. -/

namespace Sys2Proof.Machine

/-- A request of the catalogue is one event that takes its frame. -/
theorem exec_eq_requestEvent {c : Instr} {kind tag : Byte} {payload : List Byte}
    (hc : requestOf c = some (kind, tag, payload)) (hk : ∀ k t p, c ≠ .unknownRequest k t p) (s : State) :
    exec c s = .next (s.event fun t => t.request kind tag payload) := by
  cases c <;> cases hc
  case unknownRequest => exact absurd rfl (hk _ _ _)
  all_goals rfl

/-- R166: the header of a reply shows the link address, the run state and the pending count. -/
theorem State.replyFrame_congr {s t : State} (hs : t.straps = s.straps) (hr : t.run = s.run)
    (hn : t.notices = s.notices) (kind tag : Byte) (r : Reply) : t.replyFrame kind tag r = s.replyFrame kind tag r := by
  simp [State.replyFrame, State.linkAddress, hs, hr, hn]

/-- A request whose handler leaves the link to the reply is served with what the handler answers. -/
theorem served_of_handled {c : Instr} {s u : State} {kind tag : Byte} {payload : List Byte} {r : Reply}
    {f : List Byte → State → State × Reply} (h : s.Receptive) (hc : requestOf c = some (kind, tag, payload))
    (hk : ∀ k t p, c ≠ .unknownRequest k t p) (hf : handlerOf kind.toNat = some f) (hu : f payload s = (u, r))
    (hl : u.link = s.link) : Served c s (u.answer kind tag r).finishEvent r := by
  refine ⟨kind, tag, payload, hc, ?_, ?_⟩
  · rw [exec_eq_requestEvent hc hk, s.request_event h kind tag payload f hf, hu]
  · have hframe : (u.answer kind tag r).finishEvent.replyFrame kind tag r = u.replyFrame kind tag r :=
      State.replyFrame_congr (by simp) (by simp) (by simp) kind tag r
    rw [Answered, hframe, ← hl]
    simp [State.answer]

/-- An answered state that asks for no checkpoint is over with its answer. -/
theorem State.finishEvent_answer {u : State} (hd : u.due = .none) (kind tag : Byte) (r : Reply) :
    (u.answer kind tag r).finishEvent = u.answer kind tag r :=
  State.finishEvent_of_due_none _ hd

/-- A request whose handler changes nothing. -/
theorem servedUnchanged_of_handled {c : Instr} {s : State} {kind tag : Byte} {payload : List Byte} {r : Reply}
    {f : List Byte → State → State × Reply} (h : s.Receptive) (hc : requestOf c = some (kind, tag, payload))
    (hk : ∀ k t p, c ≠ .unknownRequest k t p) (hf : handlerOf kind.toNat = some f) (hu : f payload s = (s, r)) :
    ServedUnchanged c s r := by
  have hserved := served_of_handled h hc hk hf hu rfl
  rw [State.finishEvent_answer h.1.due_none] at hserved
  exact ⟨_, hserved, rfl⟩

end Sys2Proof.Machine
end

section
/-! SUPPORT. SCAN_CONFIG and SCAN_NOW (R13, R15 to R18): the handlers' answers, and what the write of a scan setting comes
to in each row. -/

namespace Sys2Proof.Machine

/-! ### The handlers -/

theorem inRange_eq_true {lo hi n : Nat} (h : lo ≤ n ∧ n ≤ hi) : inRange lo hi n = true := by simpa [inRange] using h

theorem inRange_eq_false {lo hi n : Nat} (h : ¬ (lo ≤ n ∧ n ≤ hi)) : inRange lo hi n = false := by
  simpa [inRange] using h

theorem handleScanConfig_badLength (s : State) {p : List Byte} (h0 : p.length ≠ 0) (h3 : p.length ≠ 3) :
    handleScanConfig p s = (s, .of .badLength s.scanConfigPart) := by
  match p with
  | [] => exact absurd rfl h0
  | [_] | [_, _] | _ :: _ :: _ :: _ :: _ => rfl
  | [_, _, _] => exact absurd rfl h3

theorem handleScanConfig_badField (s : State) (interval enable tolerance : Byte) {field : Nat}
    (h : firstBad [(1, inRange 2 60 interval.toNat), (2, inRange 0 1 enable.toNat), (3, inRange 5 50 tolerance.toNat)] =
      some field) :
    handleScanConfig [interval, enable, tolerance] s = (s, .badField field s.scanConfigPart) := by
  simp only [handleScanConfig, h]

theorem handleScanConfig_write (s : State) {interval enable tolerance : Byte}
    (hi : 2 ≤ interval.toNat ∧ interval.toNat ≤ 60) (he : enable.toNat ≤ 1)
    (ht : 5 ≤ tolerance.toNat ∧ tolerance.toNat ≤ 50) {u : State}
    (hu : s.writeScanConfig interval.toNat (decide (enable.toNat = 1)) tolerance.toNat = u) :
    handleScanConfig [interval, enable, tolerance] s = (u, .of .ok u.scanConfigPart) := by
  have hok : firstBad [(1, inRange 2 60 interval.toNat), (2, inRange 0 1 enable.toNat),
      (3, inRange 5 50 tolerance.toNat)] = none := by
    simp [firstBad_eq_none_iff, inRange, hi, he, ht]
  simp only [handleScanConfig, hok, hu]

theorem State.scanConfigPart_congr {s t : State} (hg : t.settings = s.settings) (hx : t.scanner = s.scanner) :
    t.scanConfigPart = s.scanConfigPart := by
  simp only [State.scanConfigPart, hg, hx]

theorem handleScanNow_busy {s : State} (h : s.scanner.state = .scanning) :
    handleScanNow [] s = (s, .of .busy (byte2 s.scanner.scanNumber)) := by
  simp only [handleScanNow, h]

theorem handleScanNow_start {s : State} (h : s.scanner.state ≠ .scanning) :
    handleScanNow [] s = (s.startScan, .of .ok (byte2 s.startScan.scanner.scanNumber)) := by
  cases hx : s.scanner.state with
  | scanning => exact absurd hx h
  | off | waiting => simp only [handleScanNow, hx]

theorem handleScanNow_badLength (s : State) {p : List Byte} (h : p ≠ []) :
    handleScanNow p s = (s, .of .badLength []) := by
  cases p with
  | nil => exact absurd rfl h
  | cons => rfl

/-! ### Scan starts -/

/-- R9: every scan start takes the next number. -/
theorem State.startScan_scanNumber (s : State) : s.startScan.scanner.scanNumber = (s.scanner.scanNumber + 1) % 65536 := by
  cases h : s.nextProbe 0 with
  | some p => rw [s.startScan_of_next h]; rfl
  | none => rw [State.startScan_of_none_scanner h]; rfl

/-- R9: with scan enable ON a scan start sets the timer to 0. -/
theorem State.startScan_timer {s : State} (he : s.settings.scanEnable = true) : s.startScan.scanner.timer = 0 := by
  cases h : s.nextProbe 0 with
  | some p => rw [s.startScan_of_next h, he]; rfl
  | none => rw [State.startScan_of_none_scanner h, he]; rfl

/-- R9, R10: a scan that starts at its first probe, seen from a state with the same scanner and probes. -/
theorem ScanStarts.of_startScan {s u t : State} {p : Fin 48} (hp : u.nextProbe 0 = some p) (hx : u.scanner = s.scanner)
    (hprobe : u.probe p = s.probe p) (ht : t.scanner = u.startScan.scanner) (hg : t.settings = u.settings) :
    ScanStarts s t p := by
  rw [ScanStarts, ht, State.startScan_of_next hp, hg, hx, hprobe]
  rfl

/-- R9, R11: a scan that starts with no probe to measure, with scan enable ON. -/
theorem ScanStartsEmpty.of_startScan {s u t : State} (hnone : u.nextProbe 0 = none) (he : u.settings.scanEnable = true)
    (hx : u.scanner = s.scanner) (hstands : PublicationStands s t ((s.scanner.scanNumber + 1) % 65536))
    (ht : t.scanner = u.startScan.scanner) : ScanStartsEmpty s t := by
  refine ⟨?_, hstands⟩
  rw [ht, State.startScan_of_none_scanner hnone, he, hx]
  rfl

/-- R154: the newest frame after a scan that was over at its start. -/
theorem State.startScan_of_none_latest {s : State} (h : s.nextProbe 0 = none) :
    s.startScan.history.latest.map (·.scanNumber) = some ((s.scanner.scanNumber + 1) % 65536) := by
  rw [s.startScan_of_none h]
  exact State.publish_latest _ _

/-! ### The rows of a SCAN_CONFIG write (R17, R18) -/

/-- The settings with the three that SCAN_CONFIG writes. -/
def Settings.withScan (x : Settings) (interval : Nat) (enable : Bool) (tolerance : Nat) : Settings :=
  { x with scanInterval := interval, scanEnable := enable, polarityTolerance := tolerance }

/-- R15: the state once the settings have been replaced, before the scanner takes the change. -/
def State.withScan (s : State) (interval : Nat) (enable : Bool) (tolerance : Nat) : State :=
  { s with settings := s.settings.withScan interval enable tolerance }

/-- R18: a changed interval that the timer has not reached changes nothing of the scanner. -/
theorem State.intervalChanged_of_timer_lt {s : State} (h : s.scanner.timer < s.settings.scanInterval) :
    s.intervalChanged = s := by
  have hnot : ¬ s.settings.scanInterval ≤ s.scanner.timer := Nat.not_le.2 h
  cases hx : s.scanner.state <;> simp [State.intervalChanged, hx, hnot]

section
variable {s : State} {interval tolerance : Nat} {enable : Bool}

/-- R17: a write that turns the enable ON and leaves the timer below the interval. -/
theorem State.writeScanConfig_turnOn (hs : s.settings.scanEnable = false)
    (ht : (s.withScan interval true tolerance).scanEnabled.scanner.timer < interval) :
    s.writeScanConfig interval true tolerance = (s.withScan interval true tolerance).scanEnabled := by
  have hkept := State.intervalChanged_of_timer_lt (s := (s.withScan interval true tolerance).scanEnabled)
    (by rw [(State.scanEnabled_frame _).2.2.2.2.1]; exact ht)
  simp only [State.writeScanConfig, hs]
  split
  · rfl
  · exact hkept

/-- R17: a write that turns the enable OFF and leaves the timer below the interval. -/
theorem State.writeScanConfig_turnOff (hs : s.settings.scanEnable = true)
    (ht : (s.withScan interval false tolerance).scanDisabled.scanner.timer < interval) :
    s.writeScanConfig interval false tolerance = (s.withScan interval false tolerance).scanDisabled := by
  have hkept := State.intervalChanged_of_timer_lt (s := (s.withScan interval false tolerance).scanDisabled)
    (by rw [(State.scanDisabled_frame _).2.2.2.2.1]; exact ht)
  simp only [State.writeScanConfig, hs]
  split
  · rfl
  · exact hkept

theorem State.writeScanConfig_on_of_off (hs : s.settings.scanEnable = false) (hx : s.scanner.state = .off)
    (hi : 0 < interval) :
    s.writeScanConfig interval true tolerance = (s.withScan interval true tolerance).startScan := by
  have hrow : (s.withScan interval true tolerance).scanEnabled = (s.withScan interval true tolerance).startScan := by
    simp [State.scanEnabled, State.withScan, hx]
  rw [State.writeScanConfig_turnOn hs (by rw [hrow, State.startScan_timer rfl]; exact hi), hrow]

theorem State.writeScanConfig_on_of_scanning (hs : s.settings.scanEnable = false) (hx : s.scanner.state = .scanning)
    (hi : 0 < interval) :
    s.writeScanConfig interval true tolerance =
      (s.withScan interval true tolerance).setScanner { s.scanner with timer := 0 } := by
  have hrow : (s.withScan interval true tolerance).scanEnabled =
      (s.withScan interval true tolerance).setScanner { s.scanner with timer := 0 } := by
    simp [State.scanEnabled, State.withScan, hx]
  rw [State.writeScanConfig_turnOn hs (by rw [hrow]; exact hi), hrow]

theorem State.writeScanConfig_off_of_waiting (hs : s.settings.scanEnable = true) (hx : s.scanner.state = .waiting)
    (hi : 0 < interval) :
    s.writeScanConfig interval false tolerance =
      (s.withScan interval false tolerance).setScanner
        { s.scanner with state := .off, timer := 0, startDue := false } := by
  have hrow : (s.withScan interval false tolerance).scanDisabled =
      (s.withScan interval false tolerance).setScanner
        { s.scanner with state := .off, timer := 0, startDue := false } := by
    simp [State.scanDisabled, State.withScan, hx]
  rw [State.writeScanConfig_turnOff hs (by rw [hrow]; exact hi), hrow]

theorem State.writeScanConfig_off_of_scanning (hs : s.settings.scanEnable = true) (hx : s.scanner.state = .scanning)
    (hi : 0 < interval) :
    s.writeScanConfig interval false tolerance =
      (s.withScan interval false tolerance).setScanner { s.scanner with timer := 0, startDue := false } := by
  have hrow : (s.withScan interval false tolerance).scanDisabled =
      (s.withScan interval false tolerance).setScanner { s.scanner with timer := 0, startDue := false } := by
    simp [State.scanDisabled, State.withScan, hx]
  rw [State.writeScanConfig_turnOff hs (by rw [hrow]; exact hi), hrow]

/-- R15: a write that keeps the enable and the interval. -/
theorem State.writeScanConfig_same (he : enable = s.settings.scanEnable) (hi : interval = s.settings.scanInterval) :
    s.writeScanConfig interval enable tolerance = s.withScan interval enable tolerance := by
  cases enable <;> simp only [State.writeScanConfig, ← he, if_pos hi] <;> rfl

/-- R18: a write that keeps the enable and changes the interval. -/
theorem State.writeScanConfig_interval (he : enable = s.settings.scanEnable) (hi : interval ≠ s.settings.scanInterval) :
    s.writeScanConfig interval enable tolerance = (s.withScan interval enable tolerance).intervalChanged := by
  cases enable <;> simp only [State.writeScanConfig, ← he, if_neg hi] <;> rfl

/-- R18: in OFF a new interval changes nothing of the scanner. -/
theorem State.intervalChanged_of_off (hx : s.scanner.state = .off) : s.intervalChanged = s := by
  simp [State.intervalChanged, hx]

/-- R18: in WAITING a new interval that the timer has reached starts a scan. -/
theorem State.intervalChanged_of_waiting (hx : s.scanner.state = .waiting)
    (ht : s.settings.scanInterval ≤ s.scanner.timer) : s.intervalChanged = s.startScan := by
  simp [State.intervalChanged, hx, ht]

/-- R18: in SCANNING a new interval that the timer has reached sets start-due with scan enable ON. -/
theorem State.intervalChanged_of_scanning (hx : s.scanner.state = .scanning)
    (ht : s.settings.scanInterval ≤ s.scanner.timer) :
    s.intervalChanged = s.setScanner { s.scanner with startDue := s.settings.scanEnable || s.scanner.startDue } := by
  cases he : s.settings.scanEnable with
  | true => simp [State.intervalChanged, hx, ht, he]
  | false =>
    have hsame : s.setScanner { s.scanner with startDue := false || s.scanner.startDue } = s := by
      rw [Bool.false_or]; rfl
    rw [hsame]
    simp [State.intervalChanged, hx, he]

end

/-! ### The served requests -/

section
variable {s : State} {tag interval enable tolerance : Byte} (h : s.Receptive)
  (hi : 2 ≤ interval.toNat ∧ interval.toNat ≤ 60) (he : enable.toNat ≤ 1)
  (ht : 5 ≤ tolerance.toNat ∧ tolerance.toNat ≤ 50)
include h hi he ht

/-- R15, R16: an accepted write is served with the settings and the scanner as the write leaves them. -/
theorem scanConfig_served {u : State}
    (hu : s.writeScanConfig interval.toNat (decide (enable.toNat = 1)) tolerance.toNat = u) :
    ∃ t, Served (.scanConfig tag [interval, enable, tolerance]) s t (.of .ok t.scanConfigPart) ∧
      t = (u.answer 0x17 tag (.of .ok u.scanConfigPart)).finishEvent := by
  have hserved := served_of_handled (c := .scanConfig tag [interval, enable, tolerance]) h rfl (by simp) rfl
    (handleScanConfig_write s hi he ht hu) (by simp [← hu])
  have hpart : (u.answer 0x17 tag (.of .ok u.scanConfigPart)).finishEvent.scanConfigPart = u.scanConfigPart :=
    State.scanConfigPart_congr (by simp) (by simp)
  exact ⟨_, by rw [hpart]; exact hserved, rfl⟩

/-- A write that changes the settings and, in the scanner, what R17 and R18 name. -/
theorem scanConfig_writes {x : Scanner}
    (hu : s.writeScanConfig interval.toNat (decide (enable.toNat = 1)) tolerance.toNat =
      (s.withScan interval.toNat (decide (enable.toNat = 1)) tolerance.toNat).setScanner x) :
    ∃ t, Served (.scanConfig tag [interval, enable, tolerance]) s t (.of .ok t.scanConfigPart) ∧
      t =
        { s with
          settings := s.settings.withScan interval.toNat (decide (enable.toNat = 1)) tolerance.toNat
          scanner := x, link := t.link } := by
  obtain ⟨t, hserved, hteq⟩ := scanConfig_served (tag := tag) h hi he ht hu
  rw [State.finishEvent_answer (by exact h.1.due_none)] at hteq
  exact ⟨t, hserved, by rw [hteq]; rfl⟩

/-- A write that starts a scan, at its first probe. -/
theorem scanConfig_starts
    (hu : s.writeScanConfig interval.toNat (decide (enable.toNat = 1)) tolerance.toNat =
      (s.withScan interval.toNat (decide (enable.toNat = 1)) tolerance.toNat).startScan)
    {p : Fin 48} (hp : s.FirstProbe p) :
    ∃ t, Served (.scanConfig tag [interval, enable, tolerance]) s t (.of .ok t.scanConfigPart) ∧ ScanStarts s t p ∧
      t =
        { s with
          settings := s.settings.withScan interval.toNat (decide (enable.toNat = 1)) tolerance.toNat
          scanner := t.scanner, link := t.link } := by
  have hnext : (s.withScan interval.toNat (decide (enable.toNat = 1)) tolerance.toNat).nextProbe 0 = some p :=
    State.nextProbe_zero_of_first hp
  rw [State.startScan_of_next hnext] at hu
  obtain ⟨t, hserved, hteq⟩ := scanConfig_writes (tag := tag) h hi he ht hu
  refine ⟨t, hserved, ScanStarts.of_startScan hnext rfl rfl ?_ ?_, ?_⟩
  · rw [hteq, State.startScan_of_next hnext]; rfl
  · rw [hteq]; rfl
  · rw [hteq]

/-- A write that starts a scan, with no probe to measure and scan enable ON. -/
theorem scanConfig_startsEmpty
    (hu : s.writeScanConfig interval.toNat (decide (enable.toNat = 1)) tolerance.toNat =
      (s.withScan interval.toNat (decide (enable.toNat = 1)) tolerance.toNat).startScan)
    (hon : decide (enable.toNat = 1) = true) (hnone : ∀ p, (s.probe p).qualifies = false) :
    ∃ t, Served (.scanConfig tag [interval, enable, tolerance]) s t (.of .ok t.scanConfigPart) ∧
      ScanStartsEmpty s t ∧
      t.settings = s.settings.withScan interval.toNat (decide (enable.toNat = 1)) tolerance.toNat := by
  have hnext : (s.withScan interval.toNat (decide (enable.toNat = 1)) tolerance.toNat).nextProbe 0 = none :=
    State.nextProbe_zero_of_none hnone
  obtain ⟨t, hserved, rfl⟩ := scanConfig_served (tag := tag) h hi he ht hu
  refine ⟨_, hserved, ScanStartsEmpty.of_startScan hnext hon rfl ?_ (by simp), by simp [State.withScan]⟩
  exact PublicationStands.finishEvent <| ((State.startScan_of_none_stands hnext).of_before rfl rfl rfl rfl).then_same
    (by simp) (by simp) (by simp) (by simp) (by simp) (by simp)

omit hi he ht in
/-- A refused write is served with the field and the settings as they stand. -/
theorem scanConfig_refused {field : Nat}
    (hf : firstBad [(1, inRange 2 60 interval.toNat), (2, inRange 0 1 enable.toNat), (3, inRange 5 50 tolerance.toNat)] =
      some field) :
    ServedUnchanged (.scanConfig tag [interval, enable, tolerance]) s (.badField field s.scanConfigPart) :=
  servedUnchanged_of_handled h rfl (by simp) rfl (handleScanConfig_badField s interval enable tolerance hf)

end

section
variable {s : State} {tag : Byte} (h : s.Receptive) (hx : s.scanner.state ≠ .scanning)
include h hx

/-- R13: an accepted SCAN_NOW is served with the number of the scan it starts. -/
theorem scanNow_served :
    Served (.scanNow tag []) s
      (s.startScan.answer 0x18 tag (.of .ok (byte2 ((s.scanner.scanNumber + 1) % 65536)))).finishEvent
      (.of .ok (byte2 ((s.scanner.scanNumber + 1) % 65536))) := by
  have hstart := handleScanNow_start hx
  rw [s.startScan_scanNumber] at hstart
  exact served_of_handled (c := .scanNow tag []) h rfl (by simp) rfl hstart (by simp)

/-- R9, R13: SCAN_NOW at its first probe. -/
theorem scanNow_starts {p : Fin 48} (hp : s.FirstProbe p) :
    ∃ t, Served (.scanNow tag []) s t (.of .ok (byte2 ((s.scanner.scanNumber + 1) % 65536))) ∧ ScanStarts s t p ∧
      t.scanner.scanNumber = (s.scanner.scanNumber + 1) % 65536 ∧
      t = { s with scanner := t.scanner, link := t.link } := by
  have hnext := State.nextProbe_zero_of_first hp
  have hserved := scanNow_served (tag := tag) h hx
  refine ⟨_, hserved, ScanStarts.of_startScan hnext rfl rfl (by simp) (by simp), ?_, ?_⟩
  · simpa using s.startScan_scanNumber
  · rw [State.finishEvent_answer (by rw [State.startScan_of_next hnext]; exact h.1.due_none),
      State.startScan_of_next hnext]
    rfl

/-- R9, R11, R13: SCAN_NOW with no probe to measure. -/
theorem scanNow_startsEmpty (hnone : ∀ p, (s.probe p).qualifies = false) :
    ∃ t, Served (.scanNow tag []) s t (.of .ok (byte2 ((s.scanner.scanNumber + 1) % 65536))) ∧
      t.scanner.state = (if s.settings.scanEnable then .waiting else .off) ∧ t.scanner.timer = 0 ∧
      t.scanner.excitation = .off ∧ t.scanner.measurement = none ∧
      t.scanner.scanNumber = (s.scanner.scanNumber + 1) % 65536 ∧
      t.statistics.latest.map (·.scanNumber) = some ((s.scanner.scanNumber + 1) % 65536) ∧
      t.history.latest.map (·.scanNumber) = some ((s.scanner.scanNumber + 1) % 65536) := by
  have hnext := State.nextProbe_zero_of_none hnone
  have hrest := State.startScan_of_none_scanner hnext
  have hstands := State.startScan_of_none_stands hnext
  refine ⟨_, scanNow_served h hx, ?_, ?_, ?_, ?_, ?_, by simpa using hstands.scanNumber,
    by simpa using State.startScan_of_none_latest hnext⟩ <;>
    cases he : s.settings.scanEnable <;> simp [hrest, Scanner.rested, Scanner.begin, he]

end

end Sys2Proof.Machine
end

section
/-! ScanRequestsActOnTheScanner. -/

namespace Sys2Proof.Machine

/-- Settles O46: each row of SCAN_CONFIG's write, its refusals, and SCAN_NOW in each state of the scanner. -/
theorem scanRequestsActOnTheScanner : Obligations.ScanRequestsActOnTheScanner := by
  unfold Obligations.ScanRequestsActOnTheScanner
  refine ⟨fun s tag interval enable tolerance h => ?_,
    fun s tag h => ⟨fun hx => ?_, fun hx => ⟨fun p => ?_, ?_⟩, fun p hp => ?_⟩⟩
  · refine ⟨?_, fun p h0 h3 => ?_, fun hi => ?_, fun hi he => ?_, fun hi he ht => ?_, fun hi he ht => ?_⟩
    · exact servedUnchanged_of_handled (c := .scanConfig tag []) h rfl (by simp) rfl rfl
    · exact servedUnchanged_of_handled (c := .scanConfig tag p) h rfl (by simp) rfl (handleScanConfig_badLength s h0 h3)
    · exact scanConfig_refused h (field := 1) (by simp [firstBad, inRange_eq_false hi])
    · have hfield : inRange 0 1 enable.toNat = false := inRange_eq_false fun hle => absurd hle.2 (Nat.not_le.2 he)
      exact scanConfig_refused h (field := 2) (by simp [firstBad, inRange_eq_true hi, hfield])
    · have hfield : inRange 0 1 enable.toNat = true := inRange_eq_true ⟨Nat.zero_le _, he⟩
      exact scanConfig_refused h (field := 3) (by simp [firstBad, inRange_eq_true hi, hfield, inRange_eq_false ht])
    · have hpos : 0 < interval.toNat := by omega
      refine ⟨fun hsame hon => ?_, fun ⟨hoff, hen⟩ hx => ?_, fun ⟨hoff, hen⟩ hx => ?_,
        fun ⟨hon, hen⟩ hx => ?_, fun ⟨hon, hen⟩ hx => ?_, fun hdiff hon => ?_⟩
      · exact scanConfig_writes h hi he ht (x := s.scanner) (State.writeScanConfig_same hon hsame)
      · have hstart := State.writeScanConfig_on_of_off (tolerance := tolerance.toNat) hoff hx hpos
        have hon : decide (enable.toNat = 1) = true := decide_eq_true hen
        rw [← hon] at hstart
        exact ⟨fun ⟨p, hp⟩ => ⟨p, hp, scanConfig_starts h hi he ht hstart hp⟩,
          scanConfig_startsEmpty h hi he ht hstart hon⟩
      · have hrow := State.writeScanConfig_on_of_scanning (tolerance := tolerance.toNat) hoff hx hpos
        rw [← decide_eq_true hen] at hrow
        exact scanConfig_writes h hi he ht hrow
      · have hoff : decide (enable.toNat = 1) = false := decide_eq_false (by omega)
        exact scanConfig_writes h hi he ht (x := { s.scanner with state := .off, timer := 0, startDue := false })
          (by rw [hoff]; exact State.writeScanConfig_off_of_waiting hon hx hpos)
      · have hoff : decide (enable.toNat = 1) = false := decide_eq_false (by omega)
        exact scanConfig_writes h hi he ht (x := { s.scanner with timer := 0, startDue := false })
          (by rw [hoff]; exact State.writeScanConfig_off_of_scanning hon hx hpos)
      · have hrow := State.writeScanConfig_interval (tolerance := tolerance.toNat) hon hdiff
        refine ⟨fun hx => ?_, fun hlt => ?_, fun hle hx => ?_, fun hle hx => ?_⟩
        · exact scanConfig_writes h hi he ht (x := s.scanner) (hrow.trans (State.intervalChanged_of_off hx))
        · exact scanConfig_writes h hi he ht (x := s.scanner) (hrow.trans (State.intervalChanged_of_timer_lt hlt))
        · have hstart := hrow.trans (State.intervalChanged_of_waiting hx hle)
          exact ⟨fun ⟨p, hp⟩ => ⟨p, hp, scanConfig_starts h hi he ht hstart hp⟩,
            scanConfig_startsEmpty h hi he ht hstart⟩
        · exact scanConfig_writes h hi he ht (hrow.trans (State.intervalChanged_of_scanning hx hle))
  · exact servedUnchanged_of_handled (c := .scanNow tag []) h rfl (by simp) rfl (handleScanNow_busy hx)
  · exact scanNow_starts h hx
  · exact scanNow_startsEmpty h hx
  · exact servedUnchanged_of_handled (c := .scanNow tag p) h rfl (by simp) rfl (handleScanNow_badLength s hp)

end Sys2Proof.Machine
end

section
/-! SUPPORT. The Moisture Arithmetic (R23, R26 to R30): the log-resistance found bit by bit, the wood temperature, and the
reading of a pair in each of its three cases. -/

namespace Sys2Proof.Machine

/-! ### The log-resistance (R26) -/

/-- The weights of k bits, highest first. -/
def bitWeights : Nat → List Nat
  | 0 => []
  | k + 1 => 2 ^ k :: bitWeights k

theorem logResistance_eq_foldl_bitWeights (ohms : Nat) :
    logResistance ohms = (bitWeights 11).foldl (logStep ohms) 0 := rfl

/-- The search over k bits narrows an interval of length 2^k, which holds the largest L with 10^(2L - 1) ≤ R^200, to that
one L. -/
theorem foldl_logStep_bounds (ohms k : Nat) : ∀ acc, 10 ^ (2 * acc - 1) ≤ ohms ^ 200 →
    ohms ^ 200 < 10 ^ (2 * (acc + 2 ^ k) - 1) →
    10 ^ (2 * (bitWeights k).foldl (logStep ohms) acc - 1) ≤ ohms ^ 200 ∧
      ohms ^ 200 < 10 ^ (2 * ((bitWeights k).foldl (logStep ohms) acc + 1) - 1) := by
  induction k with
  | zero => exact fun acc hlo hhi => ⟨hlo, hhi⟩
  | succ k ih =>
    intro acc hlo hhi
    by_cases hbit : 10 ^ (2 * (acc + 2 ^ k) - 1) ≤ ohms ^ 200
    · have hstep : logStep ohms acc (2 ^ k) = acc + 2 ^ k := if_pos hbit
      simp only [bitWeights, List.foldl_cons, hstep]
      exact ih _ hbit (by rwa [Nat.add_assoc, ← Nat.two_mul, ← Nat.pow_succ'])
    · have hstep : logStep ohms acc (2 ^ k) = acc := if_neg hbit
      simp only [bitWeights, List.foldl_cons, hstep]
      exact ih _ hlo (Nat.lt_of_not_le hbit)

theorem pow_lt_ten_pow {a c m n : Nat} (h : a < 10 ^ c) (hm : m ≠ 0) (hn : c * m ≤ n) : a ^ m < 10 ^ n :=
  calc a ^ m < (10 ^ c) ^ m := Nat.pow_lt_pow_left h hm
    _ = 10 ^ (c * m) := (Nat.pow_mul 10 c m).symm
    _ ≤ 10 ^ n := Nat.pow_le_pow_right (by decide) hn

section
variable {ohms l : Nat} (hpos : 0 < ohms) (htop : ohms < 10 ^ 20)
include hpos htop

/-- R26: the log-resistance L of a resistance within reach of the eleven bits is the one with 10^(2L - 1) ≤ R^200 and
R^200 < 10^(2L + 1). -/
theorem logResistance_bounds :
    10 ^ (2 * logResistance ohms - 1) ≤ ohms ^ 200 ∧ ohms ^ 200 < 10 ^ (2 * logResistance ohms + 1) := by
  have hreach := pow_lt_ten_pow htop (m := 200) (n := 2 * (0 + 2 ^ 11) - 1) (by decide) (by decide)
  rw [logResistance_eq_foldl_bitWeights]
  exact foldl_logStep_bounds ohms 11 0 (Nat.one_le_pow _ _ hpos) hreach

theorem le_logResistance (h : 10 ^ (2 * l - 1) ≤ ohms ^ 200) : l ≤ logResistance ohms := by
  have hlt := (Nat.pow_lt_pow_iff_right (by decide)).1 (h.trans_lt (logResistance_bounds hpos htop).2)
  omega

theorem logResistance_le (h : ohms ^ 200 < 10 ^ (2 * l + 1)) : logResistance ohms ≤ l := by
  have hlt := (Nat.pow_lt_pow_iff_right (by decide)).1 ((logResistance_bounds hpos htop).1.trans_lt h)
  omega

end

/-- An L so bracketed is 100 × log10 of the resistance rounded half up. -/
theorem floor_logb_of_bounds {ohms l : Nat} (hpos : 0 < ohms) (hl : 1 ≤ l) (hlo : 10 ^ (2 * l - 1) ≤ ohms ^ 200)
    (hhi : ohms ^ 200 < 10 ^ (2 * l + 1)) : ⌊100 * Real.logb 10 (ohms : ℝ) + 1 / 2⌋ = (l : Int) := by
  have hpow : (0 : ℝ) < (ohms : ℝ) ^ 200 := by positivity
  have hlog : Real.logb 10 ((ohms : ℝ) ^ 200) = 200 * Real.logb 10 (ohms : ℝ) := by
    rw [Real.logb_pow]; norm_num
  have hbelow : ((2 * l - 1 : Nat) : ℝ) ≤ Real.logb 10 ((ohms : ℝ) ^ 200) := by
    rw [Real.le_logb_iff_rpow_le (by norm_num) hpow, Real.rpow_natCast]
    exact_mod_cast hlo
  have habove : Real.logb 10 ((ohms : ℝ) ^ 200) < ((2 * l + 1 : Nat) : ℝ) := by
    rw [Real.logb_lt_iff_lt_rpow (by norm_num) hpow, Real.rpow_natCast]
    exact_mod_cast hhi
  rw [hlog] at hbelow habove
  rw [Nat.cast_sub (by omega)] at hbelow
  push_cast at hbelow habove
  rw [Int.floor_eq_iff, Int.cast_natCast]
  constructor <;> linarith

/-- The span of a range (R26): the log-resistances of its lowest and highest count in window. -/
def spanLow : Fin 4 → Nat := ![401, 552, 702, 853]

def spanHigh : Fin 4 → Nat := ![578, 728, 879, 1029]

theorem span_brackets (r : Fin 4) :
    1 ≤ spanLow r ∧ 10 ^ (2 * spanLow r - 1) ≤ (1024 * unitResistance r) ^ 200 ∧
      (60000 * unitResistance r) ^ 200 < 10 ^ (2 * spanHigh r + 1) ∧
      60000 * unitResistance r < 10 ^ 20 := by
  revert r; decide +kernel

theorem unitResistance_pos (r : Fin 4) : 0 < unitResistance r := Nat.mul_pos (by decide) (Nat.pow_pos (by decide))

/-- R26: every count in window has a resistance within reach of the search, and its log-resistance lies in its range's
span. -/
theorem logOfCount_inWindow (r : Fin 4) {n : Nat} (hlo : 1024 ≤ n) (hhi : n ≤ 60000) :
    0 < n * unitResistance r ∧ n * unitResistance r < 10 ^ 20 ∧ spanLow r ≤ logOfCount r n ∧
      logOfCount r n ≤ spanHigh r := by
  obtain ⟨-, hlow, hhigh, htop⟩ := span_brackets r
  have hpos : 0 < n * unitResistance r := Nat.mul_pos (by omega) (unitResistance_pos r)
  have hge := Nat.mul_le_mul_right (unitResistance r) hlo
  have hle := Nat.mul_le_mul_right (unitResistance r) hhi
  have htop' := hle.trans_lt htop
  exact ⟨hpos, htop', le_logResistance hpos htop' (hlow.trans (Nat.pow_le_pow_left hge 200)),
    logResistance_le hpos htop' ((Nat.pow_le_pow_left hle 200).trans_lt hhigh)⟩

/-! ### The reading of a pair (R27 to R30) -/

theorem polarityGap_cast (a b : Nat) : (polarityGap a b : Int) = |(a : Int) - b| := by
  unfold polarityGap
  obtain h | h := le_total (a : Int) b
  · rw [abs_of_nonpos (by omega)]; omega
  · rw [abs_of_nonneg (by omega)]; omega

theorem roundHalfUp_two (n : Nat) : roundHalfUp n 2 = (n + 1) / 2 := by
  unfold roundHalfUp
  omega

/-- R28: the WOOD channel where it is fitted and usable, else the DB channel. -/
theorem woodTemperature_eq (woodFitted : Bool) (c : ZoneChannels) :
    woodTemperature woodFitted c =
      if woodFitted = true ∧ c.wood.usable.isSome = true then c.wood.usable else c.db.usable := by
  cases woodFitted with
  | false => simp [woodTemperature]
  | true => cases hw : c.wood.usable <;> simp [woodTemperature, hw]

section
variable {curve : Option Curve} {tolerance : Nat} {r : Fin 4} {p n minute : Nat}

/-- R27: polarities beyond the tolerance. -/
theorem pairReading_polarized (tw : Option Int) (h : (tolerance : Int) < |(logOfCount r p : Int) - logOfCount r n|) :
    pairReading curve tolerance tw r p n minute = bareReading .polarized minute := by
  rw [← polarityGap_cast, Int.ofNat_lt] at h
  simp only [pairReading, if_pos h]

/-- R28, R29: no wood temperature to correct with. -/
theorem pairReading_noTemperature (h : |(logOfCount r p : Int) - logOfCount r n| ≤ tolerance) :
    pairReading curve tolerance none r p n minute =
      noTemperatureReading (some ((logOfCount r p + logOfCount r n + 1) / 2)) minute := by
  rw [← polarityGap_cast, Int.ofNat_le] at h
  simp only [pairReading, if_neg (Nat.not_lt.2 h), roundHalfUp_two]

/-- R30: corrected and converted. -/
theorem pairReading_valid (t : Int) (h : |(logOfCount r p : Int) - logOfCount r n| ≤ tolerance) :
    pairReading curve tolerance (some t) r p n minute =
      validReading curve t ((logOfCount r p + logOfCount r n + 1) / 2) minute := by
  rw [← polarityGap_cast, Int.ofNat_le] at h
  simp only [pairReading, if_neg (Nat.not_lt.2 h), roundHalfUp_two]

end

/-- R30, R37, R38: a VALID reading on the curve of a loaded group. -/
theorem validReading_of_points {c : Curve} {first : CurvePoint} {rest : List CurvePoint} (hc : c.points = first :: rest)
    (t : Int) (l minute : Nat) :
    validReading (some c) t l minute =
      { kind := .valid, l := some l, lc := some (l + correction c.coefficient t)
        mc := some (curveMc first rest (l + correction c.coefficient t)).1
        clamp := (curveMc first rest (l + correction c.coefficient t)).2, minute } := by
  simp only [validReading, hc]

end Sys2Proof.Machine
end

section
/-! PairIsConverted and LogResistanceIsExact. -/

namespace Sys2Proof.Machine

/-- Settles O16: the count ends the measurement, and the reading applied is that of the pair's case. -/
theorem pairIsConverted : Obligations.PairIsConverted := by
  unfold Obligations.PairIsConverted
  intro s m c n p a curve first rest hc ha hm hends hplus hassigned hcurve hpoints
  refine ⟨_, exec_of_countsTo hc ha, ?_⟩
  rw [State.countEnds_of_ends hm hends, State.endMeasurement, State.handOver_of_assigned hassigned, hcurve, hplus,
    woodTemperature_eq]
  dsimp only [convert, Option.getD_some, Option.map_some]
  refine ⟨fun hgap => ?_, fun hgap htw => ?_, fun t hgap htw => ?_⟩
  · rw [pairReading_polarized _ hgap]
    exact s.handedOver_of_applied m _
  · rw [htw, pairReading_noTemperature hgap]
    exact s.handedOver_of_applied m _
  · rw [htw, pairReading_valid t hgap, validReading_of_points hpoints]
    exact s.handedOver_of_applied m _

/-- Settles O18: the log-resistance of a count in window is bracketed by powers of ten as the rounded logarithm is. -/
theorem logResistanceIsExact : Obligations.LogResistanceIsExact := by
  unfold Obligations.LogResistanceIsExact
  intro r n hlo hhi
  obtain ⟨hpos, htop, hlow, hhigh⟩ := logOfCount_inWindow r hlo hhi
  obtain ⟨hbelow, habove⟩ := logResistance_bounds hpos htop
  refine ⟨?_, ?_, ?_, ?_, ?_⟩
  · have hexact := floor_logb_of_bounds hpos ((span_brackets r).1.trans hlow) hbelow habove
    rw [unitResistance] at hexact
    push_cast at hexact
    exact hexact.symm
  all_goals
    rintro rfl
    exact ⟨hlow, hhigh⟩

end Sys2Proof.Machine
end

section
/-! SUPPORT. The conversion curve (R31, R37, R38): roundings that stay between two bounds, the MC on a segment, and the
lowest segment that holds a corrected log-resistance. -/

namespace Sys2Proof.Machine

/-! ### Roundings -/

/-- A non-positive fraction of magnitude at most k stays so when it is rounded. -/
theorem roundHalfAway_bounds {n : Int} {d k : Nat} (hd : 0 < d) (hn : n ≤ 0) (hk : -(k * d : Int) ≤ n) :
    -(k : Int) ≤ roundHalfAway n d ∧ roundHalfAway n d ≤ 0 := by
  by_cases hzero : 0 ≤ n
  · obtain rfl : n = 0 := le_antisymm hn hzero
    have hnil : d / (2 * d) = 0 := Nat.div_eq_of_lt (by omega)
    simp [roundHalfAway, hnil]
  · rw [roundHalfAway, if_neg hzero]
    have hle : (2 * (-n).toNat + d) / (2 * d) ≤ k := by
      refine Nat.le_of_lt_succ ((Nat.div_lt_iff_lt_mul (by omega)).2 ?_)
      have hmag : (-n).toNat ≤ k * d := by
        rw [Int.toNat_le]
        push_cast
        omega
      calc 2 * (-n).toNat + d ≤ 2 * (k * d) + d := by omega
        _ < (k + 1) * (2 * d) := by ring_nf; omega
    generalize (2 * (-n).toNat + d) / (2 * d) = rounded at hle ⊢
    omega

/-! ### The segment -/

section
variable {p q : CurvePoint} {lc : Int}

/-- R37: on a segment the interpolated figure lies between the MC of its ends, so it is a natural number. -/
theorem segmentMc_spec (hpq : p.lc < q.lc) (hmc : q.mc ≤ p.mc) (hlo : (p.lc : Int) ≤ lc) (hhi : lc ≤ q.lc) :
    (segmentMc p q lc : Int) = p.mc + roundHalfAway ((lc - p.lc) * ((q.mc : Int) - p.mc)) (q.lc - p.lc) ∧
      q.mc ≤ segmentMc p q lc ∧ segmentMc p q lc ≤ p.mc := by
  have hfall : (q.mc : Int) - p.mc = -((p.mc - q.mc : Nat) : Int) := by omega
  have hrun : ((q.lc - p.lc : Nat) : Int) = q.lc - p.lc := by omega
  have hround := roundHalfAway_bounds (n := (lc - p.lc) * ((q.mc : Int) - p.mc)) (k := p.mc - q.mc)
    (Nat.sub_pos_of_lt hpq) (mul_nonpos_of_nonneg_of_nonpos (by omega) (by omega))
    (by rw [hfall, hrun]; nlinarith [Int.natCast_nonneg (p.mc - q.mc)])
  unfold segmentMc
  omega

/-- R31: from each point of a curve to the next Lc rises and MC does not. -/
def CurveRises (points : List CurvePoint) : Prop := points.IsChain fun p q => p.lc < q.lc ∧ q.mc ≤ p.mc

/-- R37: p and q are the ends of the lowest segment that holds lc. -/
def LowestSegment (points : List CurvePoint) (lc : Int) (before : List CurvePoint) (p q : CurvePoint)
    (after : List CurvePoint) : Prop :=
  points = before ++ p :: q :: after ∧ (p.lc : Int) ≤ lc ∧ lc ≤ q.lc ∧ (∀ x ∈ before, (x.lc : Int) < lc) ∧
    (before ≠ [] → (p.lc : Int) < lc)

theorem LowestSegment.first (hlo : (p.lc : Int) ≤ lc) (hhi : lc ≤ q.lc) (after : List CurvePoint) :
    LowestSegment (p :: q :: after) lc [] p q after :=
  ⟨rfl, hlo, hhi, by simp, fun h => absurd rfl h⟩

/-- A curve that begins below lc has the lowest segment of its rest when the next point lies below lc too. -/
theorem LowestSegment.cons {x y a b : CurvePoint} {rest before after : List CurvePoint}
    (h : LowestSegment (y :: rest) lc before a b after) (hx : (x.lc : Int) < lc) (hy : (y.lc : Int) < lc) :
    LowestSegment (x :: y :: rest) lc (x :: before) a b after := by
  obtain ⟨hpoints, hlo, hhi, hbefore, hstrict⟩ := h
  refine ⟨by rw [hpoints, List.cons_append], hlo, hhi, by simpa using ⟨hx, hbefore⟩, fun _ => ?_⟩
  cases before with
  | nil =>
    obtain ⟨rfl, -⟩ := List.cons.inj hpoints
    exact hy
  | cons => exact hstrict (List.cons_ne_nil _ _)

/-- R31: the Lc of a curve's last point is not below that of its first, nor its MC above. -/
theorem CurveRises.last_bounds {rest : List CurvePoint} : ∀ {p : CurvePoint}, CurveRises (p :: rest) →
    p.lc ≤ ((p :: rest).getLastD p).lc ∧ ((p :: rest).getLastD p).mc ≤ p.mc := by
  induction rest with
  | nil => exact fun _ => ⟨le_rfl, le_rfl⟩
  | cons q rest ih =>
    intro p h
    obtain ⟨⟨hlc, hmc⟩, hrest⟩ := List.isChain_cons_cons.1 h
    obtain ⟨hlast, hfall⟩ := ih hrest
    exact ⟨hlc.le.trans hlast, hfall.trans hmc⟩

/-- R37: within a curve, `interpolate` takes the lowest segment that holds lc, and its figure lies between the curve's
ends. -/
theorem interpolate_spec {rest : List CurvePoint} : ∀ {p : CurvePoint}, rest ≠ [] → CurveRises (p :: rest) →
    (p.lc : Int) ≤ lc → lc ≤ ((p :: rest).getLastD p).lc →
    (∃ before a b after, LowestSegment (p :: rest) lc before a b after ∧ a.lc < b.lc ∧ b.mc ≤ a.mc ∧
      interpolate lc (p :: rest) = segmentMc a b lc) ∧
    ((p :: rest).getLastD p).mc ≤ interpolate lc (p :: rest) ∧ interpolate lc (p :: rest) ≤ p.mc := by
  induction rest with
  | nil => exact fun h => absurd rfl h
  | cons q rest ih =>
    intro p _ hrises hlo hlast
    obtain ⟨⟨hlc, hmc⟩, hrest⟩ := List.isChain_cons_cons.1 hrises
    by_cases hhi : lc ≤ q.lc
    · have hsegment : interpolate lc (p :: q :: rest) = segmentMc p q lc := if_pos ⟨hlo, hhi⟩
      obtain ⟨-, hbelow, habove⟩ := segmentMc_spec hlc hmc hlo hhi
      rw [hsegment]
      exact ⟨⟨[], p, q, rest, .first hlo hhi rest, hlc, hmc, rfl⟩, (CurveRises.last_bounds hrest).2.trans hbelow, habove⟩
    · have hq : (q.lc : Int) < lc := not_le.1 hhi
      have hlater : interpolate lc (p :: q :: rest) = interpolate lc (q :: rest) := if_neg fun h => hhi h.2
      have hmore : rest ≠ [] := by
        rintro rfl
        exact hhi hlast
      obtain ⟨⟨before, a, b, after, hlowest, hab⟩, hbelow, habove⟩ := ih hmore hrest hq.le hlast
      rw [hlater]
      exact ⟨⟨p :: before, a, b, after, hlowest.cons (by omega) hq, hab⟩, hbelow, habove.trans hmc⟩

end

/-! ### The clamps (R38) -/

section
variable {first : CurvePoint} {rest : List CurvePoint} {lc : Int}

theorem curveMc_below (h : lc < first.lc) : curveMc first rest lc = (first.mc, .wetClamp) := if_pos h

theorem curveMc_above (hlo : (first.lc : Int) ≤ lc) (h : (((first :: rest).getLastD first).lc : Int) < lc) :
    curveMc first rest lc = (((first :: rest).getLastD first).mc, .dryClamp) := by
  simp only [curveMc, List.getLast_eq_getLastD, List.getLastD_cons, if_neg (not_lt.2 hlo)] at h ⊢
  exact if_pos h

theorem curveMc_within (hlo : (first.lc : Int) ≤ lc) (h : lc ≤ ((first :: rest).getLastD first).lc) :
    curveMc first rest lc = (interpolate lc (first :: rest), .none) := by
  simp only [curveMc, List.getLast_eq_getLastD, List.getLastD_cons, if_neg (not_lt.2 hlo)] at h ⊢
  exact if_neg (not_lt.2 h)

end

end Sys2Proof.Machine
end

section
/-! CurveIsInterpolatedAndClamped. -/

namespace Sys2Proof.Machine

/-- Settles O19: below and above the curve by R38's clamps, within it by the lowest segment. -/
theorem curveIsInterpolatedAndClamped : Obligations.CurveIsInterpolatedAndClamped := by
  unfold Obligations.CurveIsInterpolatedAndClamped
  intro first rest lc hrest hrises
  obtain ⟨hends, hfall⟩ := CurveRises.last_bounds hrises
  refine ⟨curveMc_below, fun h => curveMc_above (by omega) h, fun hlo hhi => ?_, ?_⟩
  · obtain ⟨⟨before, a, b, after, ⟨hpoints, ha, hb, hbefore, hstrict⟩, hlc, hmc, hsegment⟩, -⟩ :=
      interpolate_spec hrest hrises hlo hhi
    rw [curveMc_within hlo hhi, hsegment]
    exact ⟨before, a, b, after, hpoints, ha, hb, hbefore, hstrict, rfl, (segmentMc_spec hlc hmc ha hb).1⟩
  · by_cases hlo : lc < first.lc
    · rw [curveMc_below hlo]
      exact ⟨hfall, le_rfl⟩
    · by_cases hhi : (((first :: rest).getLastD first).lc : Int) < lc
      · rw [curveMc_above (not_lt.1 hlo) hhi]
        exact ⟨le_rfl, hfall⟩
      · rw [curveMc_within (not_lt.1 hlo) (not_lt.1 hhi)]
        exact (interpolate_spec hrest hrises (not_lt.1 hlo) (not_lt.1 hhi)).2

end Sys2Proof.Machine
end

section
/-! SUPPORT. CURVE_PUT and CURVE_CLEAR (R33 to R35, R54): the check of the points against R33's conditions, their byte form
read back, the probes that name a group, and the handlers' answers. -/

namespace Sys2Proof.Machine

/-! ### The points' fields (R33, check 4) -/

/-- What a point's Lc must meet after the point before it. -/
def LcMeets (before : Option CurvePoint) (p : CurvePoint) : Prop := p.lc ≤ 2000 ∧ ∀ q, before = some q → q.lc < p.lc

/-- What a point's MC must meet after the point before it. -/
def McMeets (before : Option CurvePoint) (p : CurvePoint) : Prop :=
  (20 ≤ p.mc ∧ p.mc ≤ 600) ∧ ∀ q, before = some q → p.mc ≤ q.mc

section
variable {before : Option CurvePoint} {p : CurvePoint} (field : Nat) (rest : List CurvePoint)

theorem lcCheck_iff :
    (!inRange 0 2000 p.lc || before.any fun q => decide (p.lc ≤ q.lc)) = true ↔ ¬ LcMeets before p := by
  cases before <;> simp [inRange, LcMeets, imp_iff_not_or]

theorem mcCheck_iff :
    (!inRange 20 600 p.mc || before.any fun q => decide (q.mc < p.mc)) = true ↔ ¬ McMeets before p := by
  cases before <;> simp [inRange, McMeets, imp_iff_not_or]

theorem firstBadPoint_badLc (h : ¬ LcMeets before p) : firstBadPoint field before (p :: rest) = some field :=
  if_pos (lcCheck_iff.2 h)

theorem firstBadPoint_badMc (hlc : LcMeets before p) (h : ¬ McMeets before p) :
    firstBadPoint field before (p :: rest) = some (field + 1) := by
  rw [firstBadPoint, if_neg (by rwa [lcCheck_iff, not_not]), if_pos (mcCheck_iff.2 h)]

theorem firstBadPoint_good (hlc : LcMeets before p) (hmc : McMeets before p) :
    firstBadPoint field before (p :: rest) = firstBadPoint (field + 2) (some p) rest := by
  rw [firstBadPoint, if_neg (by rwa [lcCheck_iff, not_not]), if_neg (by rwa [mcCheck_iff, not_not])]

end

/-- R31: a curve in order and in range has no bad field. -/
theorem firstBadPoint_eq_none {points : List CurvePoint} : ∀ {before : Option CurvePoint} {field : Nat},
    (∀ p ∈ points, p.lc ≤ 2000 ∧ 20 ≤ p.mc ∧ p.mc ≤ 600) → CurveRises (before.toList ++ points) →
    firstBadPoint field before points = none := by
  induction points with
  | nil => exact fun _ _ => rfl
  | cons p rest ih =>
    intro before field hrange hrises
    obtain ⟨hlc, hmc⟩ := hrange p List.mem_cons_self
    have hrest : CurveRises (p :: rest) := hrises.right_of_append
    have hafter : ∀ q, before = some q → q.lc < p.lc ∧ p.mc ≤ q.mc := by
      rintro q rfl
      exact (List.isChain_cons_cons.1 hrises).1
    rw [firstBadPoint_good field rest ⟨hlc, fun q hq => (hafter q hq).1⟩ ⟨hmc, fun q hq => (hafter q hq).2⟩]
    exact ih (fun x hx => hrange x (List.mem_cons_of_mem _ hx)) hrest

/-- R33's conditions on the point at a position of a curve. -/
def conditionsAt (points : List CurvePoint) (at_ : CurvePoint × Nat) : List Prop :=
  [at_.1.lc ≤ 2000 ∧ ∀ q, 1 ≤ at_.2 → points[at_.2 - 1]? = some q → q.lc < at_.1.lc,
    (20 ≤ at_.1.mc ∧ at_.1.mc ≤ 600) ∧ ∀ q, 1 ≤ at_.2 → points[at_.2 - 1]? = some q → at_.1.mc ≤ q.mc]

theorem pointConditions_eq (points : List CurvePoint) :
    pointConditions points = points.zipIdx.flatMap (conditionsAt points) := rfl

/-- At the end of a curve's beginning the point before is the last of that beginning. -/
theorem conditionsAt_length (before rest : List CurvePoint) (p : CurvePoint) :
    conditionsAt (before ++ rest) (p, before.length) = [LcMeets before.getLast? p, McMeets before.getLast? p] := by
  have hpred : ∀ q, 1 ≤ before.length ∧ (before ++ rest)[before.length - 1]? = some q ↔ before.getLast? = some q := by
    intro q
    cases before using List.reverseRecOn with
    | nil => simp
    | append_singleton xs x => simp
  simp only [conditionsAt, LcMeets, McMeets, ← hpred, and_imp]

/-! ### The first condition that fails -/

theorem not_firstFailing_nil (k : Nat) : ¬ FirstFailing [] k := fun ⟨⟨_, h, _⟩, _⟩ => by cases h

theorem firstFailing_cons_zero {c : Prop} {cs : List Prop} (h : FirstFailing (c :: cs) 0) : ¬ c := by
  obtain ⟨⟨x, hx, hfails⟩, -⟩ := h
  cases hx
  exact hfails

theorem firstFailing_cons_succ {c : Prop} {cs : List Prop} {k : Nat} (h : FirstFailing (c :: cs) (k + 1)) :
    c ∧ FirstFailing cs k := by
  obtain ⟨hfails, hbefore⟩ := h
  exact ⟨hbefore 0 c (Nat.succ_pos k) rfl, hfails, fun j x hj hx => hbefore (j + 1) x (Nat.succ_lt_succ hj) hx⟩

/-- The first condition that fails has the number of the first bad field. -/
theorem firstBadPoint_of_firstFailing {points : List CurvePoint} : ∀ {before : List CurvePoint} {field k : Nat},
    FirstFailing ((points.zipIdx before.length).flatMap (conditionsAt (before ++ points))) k →
    firstBadPoint field before.getLast? points = some (field + k) := by
  induction points with
  | nil => exact fun h => absurd h (not_firstFailing_nil _)
  | cons p rest ih =>
    intro before field k h
    rw [List.zipIdx_cons, List.flatMap_cons, conditionsAt_length] at h
    match k with
    | 0 => exact firstBadPoint_badLc field rest (firstFailing_cons_zero h)
    | 1 =>
      obtain ⟨hlc, h⟩ := firstFailing_cons_succ h
      exact firstBadPoint_badMc field rest hlc (firstFailing_cons_zero h)
    | k + 2 =>
      obtain ⟨hlc, h⟩ := firstFailing_cons_succ h
      obtain ⟨hmc, h⟩ := firstFailing_cons_succ h
      have hrest := ih (before := before ++ [p]) (field := field + 2) (k := k) (by simpa using h)
      rw [firstBadPoint_good field rest hlc hmc, ← List.getLast?_concat, hrest]
      congr 1
      omega

/-! ### The byte form -/

theorem read2_byte2 {n : Nat} (h : n < 65536) : read2 (BitVec.ofNat 8 n) (BitVec.ofNat 8 (n / 256)) = n := by
  simp only [read2, BitVec.toNat_ofNat]
  omega

theorem pointBytes_cons (p : CurvePoint) (points : List CurvePoint) :
    pointBytes (p :: points) = byte2 p.lc ++ byte2 p.mc ++ pointBytes points := List.flatMap_cons

theorem pointBytes_length (points : List CurvePoint) : (pointBytes points).length = 4 * points.length := by
  induction points with
  | nil => rfl
  | cons p points ih =>
    rw [pointBytes_cons, List.length_append, ih, List.length_cons, Nat.mul_succ, Nat.add_comm]
    rfl

/-- R33: the points of the byte form are the points. -/
theorem readPoints_pointBytes {points : List CurvePoint} (h : ∀ p ∈ points, p.lc < 65536 ∧ p.mc < 65536) :
    readPoints (pointBytes points) = points := by
  induction points with
  | nil => rfl
  | cons p points ih =>
    obtain ⟨hlc, hmc⟩ := h p List.mem_cons_self
    have hrest := ih fun q hq => h q (List.mem_cons_of_mem _ hq)
    simp only [pointBytes_cons, byte2, List.cons_append, List.nil_append, readPoints, read2_byte2 hlc, read2_byte2 hmc,
      hrest]

/-! ### The probes that name a group (R34, R35, R54) -/

theorem ProbeRecord.names_iff (r : ProbeRecord) (g : Fin 8) :
    r.names g = true ↔ ∃ a, r.assignment = some a ∧ a.group = g := by
  simp [ProbeRecord.names, Option.any_eq_true]

theorem State.naming_eq_zero_iff (s : State) (g : Fin 8) :
    s.naming g = 0 ↔ ∀ p a, (s.probe p).assignment = some a → a.group ≠ g := by
  have hmem : ∀ r, r ∈ s.probes.toList ↔ ∃ p, s.probe p = r := fun r => by
    simp [State.probe, getTable, Vector.mem_iff_getElem, Fin.exists_iff]
  simp only [State.naming, List.length_eq_zero_iff, List.filter_eq_nil_iff, hmem, ProbeRecord.names_iff]
  constructor
  · exact fun h p a ha hg => h _ ⟨p, rfl⟩ ⟨a, ha, hg⟩
  · rintro h _ ⟨p, rfl⟩ ⟨a, ha, hg⟩
    exact h p a ha hg

section
variable {g : Fin 8} {r : ProbeRecord}

theorem ProbeRecord.replaceGroup_of_other (h : ∀ a, r.assignment = some a → a.group ≠ g) : r.replaceGroup g = r :=
  if_neg fun hn => by
    obtain ⟨a, ha, hg⟩ := (r.names_iff g).1 hn
    exact h a ha hg

theorem ProbeRecord.replaceGroup_of_measured {a : Assignment} (ha : r.assignment = some a) (hg : a.group = g)
    (h : r.state = .new ∨ r.state = .good ∨ r.state = .suspect) : r.replaceGroup g = r.renew := by
  rw [ProbeRecord.replaceGroup, if_pos ((r.names_iff g).2 ⟨a, ha, hg⟩)]
  obtain h | h | h := h <;> rw [h]

theorem ProbeRecord.replaceGroup_of_excluded {a : Assignment} (ha : r.assignment = some a) (hg : a.group = g)
    (h : r.state = .faulted ∨ r.state = .blocked) : r.replaceGroup g = { r with values := [] } := by
  rw [ProbeRecord.replaceGroup, if_pos ((r.names_iff g).2 ⟨a, ha, hg⟩)]
  obtain h | h := h <;> rw [h]

end

theorem State.putCurve_probe (s : State) (g : Fin 8) (c : Curve) (p : Fin 48) :
    (s.putCurve g c).probe p = (s.probe p).replaceGroup g := getTable_mapTable ..

theorem State.putCurve_curve_self (s : State) (g : Fin 8) (c : Curve) : (s.putCurve g c).curve g = some c :=
  getTable_setTable_self ..

theorem State.putCurve_curve_ne (s : State) {g h : Fin 8} (hne : h ≠ g) (c : Curve) :
    (s.putCurve g c).curve h = s.curve h := getTable_setTable_ne _ _ _ _ hne.symm

/-! ### The handlers -/

theorem groupOfNumber_toNat (g : Fin 8) : groupOfNumber (BitVec.ofNat 8 g.val).toNat = some g := by
  revert g; decide

theorem groupOfNumber_of_le {n : Nat} (h : n ≤ 7) : groupOfNumber n = some ⟨n, Nat.lt_succ_of_le h⟩ := dif_pos _

theorem groupOfNumber_of_gt {n : Nat} (h : 7 < n) : groupOfNumber n = none := dif_neg (Nat.not_lt.2 h)

section
variable {s : State} {group coefficient count : Byte} {points : List Byte} {g : Fin 8} {field : Nat}

theorem handleCurvePut_short {p : List Byte} (h : p.length < 3) : handleCurvePut p s = (s, .of .badLength []) := by
  match p with
  | [] | [_] | [_, _] => rfl
  | _ :: _ :: _ :: _ => exact absurd h (by simp)

theorem handleCurvePut_badGroup (hg : groupOfNumber group.toNat = none) :
    handleCurvePut (group :: coefficient :: count :: points) s = (s, .badField 1 []) := by
  simp only [handleCurvePut, hg]

theorem handleCurvePut_badCoefficient (hg : groupOfNumber group.toNat = some g) (h : 60 < coefficient.toNat) :
    handleCurvePut (group :: coefficient :: count :: points) s = (s, .badField 2 []) := by
  have hcoefficient : inRange 0 60 coefficient.toNat = false := inRange_eq_false (by omega)
  simp [handleCurvePut, hg, firstBad, hcoefficient]

theorem handleCurvePut_badCount (hg : groupOfNumber group.toNat = some g) (hc : coefficient.toNat ≤ 60)
    (h : count.toNat < 2 ∨ 12 < count.toNat) :
    handleCurvePut (group :: coefficient :: count :: points) s = (s, .badField 3 []) := by
  have hcount : inRange 2 12 count.toNat = false := inRange_eq_false (by omega)
  simp [handleCurvePut, hg, firstBad, inRange_eq_true ⟨Nat.zero_le _, hc⟩, hcount]

section
variable (hg : groupOfNumber group.toNat = some g) (hc : coefficient.toNat ≤ 60)
  (hn : 2 ≤ count.toNat ∧ count.toNat ≤ 12)
include hg hc hn

omit hg in
theorem curveFields_ok : firstBad [(2, inRange 0 60 coefficient.toNat), (3, inRange 2 12 count.toNat)] = none := by
  simp [firstBad_eq_none_iff, inRange, hc, hn]

theorem handleCurvePut_badLength (h : points.length ≠ 4 * count.toNat) :
    handleCurvePut (group :: coefficient :: count :: points) s = (s, .of .badLength []) := by
  simp only [handleCurvePut, hg, curveFields_ok hc hn, if_pos h]
  rfl

theorem handleCurvePut_badPoint (h : points.length = 4 * count.toNat)
    (hbad : firstBadPoint 4 none (readPoints points) = some field) :
    handleCurvePut (group :: coefficient :: count :: points) s = (s, .badField field []) := by
  simp only [handleCurvePut, hg, curveFields_ok hc hn, if_neg (not_not.2 h), hbad]

theorem handleCurvePut_write (h : points.length = 4 * count.toNat)
    (hgood : firstBadPoint 4 none (readPoints points) = none) :
    handleCurvePut (group :: coefficient :: count :: points) s =
      (s.putCurve g { coefficient := coefficient.toNat, points := readPoints points },
        .of .ok (byte1 g.val ++ byte1 (s.naming g))) := by
  simp only [handleCurvePut, hg, curveFields_ok hc hn, if_neg (not_not.2 h), hgood]

end

theorem handleCurveClear_badLength {p : List Byte} (h : p.length ≠ 1) :
    handleCurveClear p s = (s, .of .badLength []) := by
  match p with
  | [] | _ :: _ :: _ => rfl
  | [_] => exact absurd rfl h

theorem handleCurveClear_badGroup (hg : groupOfNumber group.toNat = none) :
    handleCurveClear [group] s = (s, .badField 1 []) := by
  simp only [handleCurveClear, withGroup, hg]

theorem handleCurveClear_unused (hg : groupOfNumber group.toNat = some g) (h : s.naming g = 0) :
    handleCurveClear [group] s = (s.clearCurve g, .of .ok []) := by
  simp only [handleCurveClear, withGroup, hg, if_pos h]
  rfl

theorem handleCurveClear_inUse (hg : groupOfNumber group.toNat = some g) (h : s.naming g ≠ 0) :
    handleCurveClear [group] s = (s, .of .inUse [BitVec.ofNat 8 (s.naming g)]) := by
  simp only [handleCurveClear, withGroup, hg, if_neg h]
  rfl

end

/-! ### The served requests -/

section
variable {s : State} {tag : Byte} (h : s.Receptive)
include h

theorem curvePut_refused {payload : List Byte} {r : Reply} (hr : handleCurvePut payload s = (s, r)) :
    ServedUnchanged (.curvePut tag payload) s r :=
  servedUnchanged_of_handled (c := .curvePut tag payload) h rfl (by simp) rfl hr

theorem curveClear_refused {payload : List Byte} {r : Reply} (hr : handleCurveClear payload s = (s, r)) :
    ServedUnchanged (.curveClear tag payload) s r :=
  servedUnchanged_of_handled (c := .curveClear tag payload) h rfl (by simp) rfl hr

/-- R34: an accepted CURVE_PUT leaves the group's curve, and in the probe table what the replacement makes of it. -/
theorem curvePut_served {payload : List Byte} {g : Fin 8} {c : Curve} {r : Reply}
    (hw : handleCurvePut payload s = (s.putCurve g c, r)) :
    ∃ t, Served (.curvePut tag payload) s t r ∧
      t =
        { s with
          settings := { s.settings with curves := setTable s.settings.curves g (some c) }
          probes := mapTable (ProbeRecord.replaceGroup g) s.probes, link := t.link } := by
  have hserved := served_of_handled (c := .curvePut tag payload) h rfl (by simp) rfl hw rfl
  rw [State.finishEvent_answer (by exact h.1.due_none)] at hserved
  exact ⟨_, hserved, rfl⟩

/-- R35: an accepted CURVE_CLEAR leaves the group empty. -/
theorem curveClear_served {payload : List Byte} {g : Fin 8} {r : Reply}
    (hw : handleCurveClear payload s = (s.clearCurve g, r)) :
    ∃ t, Served (.curveClear tag payload) s t r ∧
      t = { s with settings := { s.settings with curves := setTable s.settings.curves g none }, link := t.link } := by
  have hserved := served_of_handled (c := .curveClear tag payload) h rfl (by simp) rfl hw rfl
  rw [State.finishEvent_answer (by exact h.1.due_none)] at hserved
  exact ⟨_, hserved, rfl⟩

end

/-- The byte form of a CURVE_PUT of a group's coefficient and points (R33). -/
def curvePutBytes (g : Fin 8) (coefficient : Nat) (points : List CurvePoint) : List Byte :=
  BitVec.ofNat 8 g.val :: BitVec.ofNat 8 coefficient :: BitVec.ofNat 8 points.length :: pointBytes points

section
variable {s : State} {g : Fin 8} {coefficient : Nat} {points : List CurvePoint} (hc : coefficient ≤ 60)
  (hn : 2 ≤ points.length ∧ points.length ≤ 12) (hbytes : ∀ p ∈ points, p.lc < 65536 ∧ p.mc < 65536)
include hc hn

theorem curvePut_fields_toNat :
    (BitVec.ofNat 8 coefficient).toNat = coefficient ∧ (BitVec.ofNat 8 points.length).toNat = points.length :=
  ⟨Nat.mod_eq_of_lt (by omega), Nat.mod_eq_of_lt (by omega)⟩

include hbytes

/-- R33, check 4: a byte form whose points fail. -/
theorem handleCurvePut_bytes_badPoint {k : Nat} (hk : FirstFailing (pointConditions points) k) :
    handleCurvePut (curvePutBytes g coefficient points) s = (s, .badField (k + 4) []) := by
  have hbad : firstBadPoint 4 none (readPoints (pointBytes points)) = some (4 + k) := by
    rw [readPoints_pointBytes hbytes]
    rw [pointConditions_eq] at hk
    exact firstBadPoint_of_firstFailing (before := []) hk
  obtain ⟨hcoefficient, hcount⟩ := curvePut_fields_toNat hc hn
  rw [Nat.add_comm] at hbad
  exact handleCurvePut_badPoint (groupOfNumber_toNat g) (by rwa [hcoefficient]) (by rwa [hcount])
    (by rw [hcount, pointBytes_length]) hbad

/-- R34: a byte form whose points meet R31. -/
theorem handleCurvePut_bytes_write (hgood : firstBadPoint 4 none points = none) :
    handleCurvePut (curvePutBytes g coefficient points) s =
      (s.putCurve g { coefficient, points }, .of .ok [BitVec.ofNat 8 g.val, BitVec.ofNat 8 (s.naming g)]) := by
  have hread := readPoints_pointBytes hbytes
  obtain ⟨hcoefficient, hcount⟩ := curvePut_fields_toNat hc hn
  have hwrite := handleCurvePut_write (s := s) (groupOfNumber_toNat g) (by rwa [hcoefficient]) (by rwa [hcount])
    (by rw [hcount, pointBytes_length]) (by rwa [hread])
  rwa [hcoefficient, hread] at hwrite

end

end Sys2Proof.Machine
end

section
/-! CurveRequestsReplaceOrClearAGroup. -/

namespace Sys2Proof.Machine

/-- Settles O47: the handlers' answers in each case, an accepted CURVE_PUT by what a group replacement does to a record. -/
theorem curveRequestsReplaceOrClearAGroup : Obligations.CurveRequestsReplaceOrClearAGroup := by
  unfold Obligations.CurveRequestsReplaceOrClearAGroup
  intro s tag g h
  refine ⟨fun coefficient points hc hlegal => ?_, fun hnone => ?_, fun hused => ?_, s.naming_eq_zero_iff g,
    fun group coefficient count rest =>
      ⟨fun hg => ?_, fun hg hc => ?_, fun hg hc hn => ?_, fun hg hc hlo hhi hlen => ?_⟩,
    fun coefficient points k hc hlo hhi hbytes hk => ?_, fun p => ⟨fun hp => ?_, fun hp => ?_⟩⟩
  · obtain ⟨hn, hrange, hrises⟩ := hlegal
    have hbytes : ∀ p ∈ points, p.lc < 65536 ∧ p.mc < 65536 := fun p hp => by
      obtain ⟨hlc, -, hmc⟩ := hrange p hp
      omega
    have hgood : firstBadPoint 4 none points = none := firstBadPoint_eq_none hrange hrises
    obtain ⟨t, hserved, hteq⟩ := curvePut_served (tag := tag) h (handleCurvePut_bytes_write hc hn hbytes hgood)
    have hcurve : ∀ x, t.curve x = (s.putCurve g { coefficient, points }).curve x := fun x => by rw [hteq]; rfl
    have hprobe : ∀ p, t.probe p = (s.probe p).replaceGroup g := fun p => by
      rw [← s.putCurve_probe g { coefficient, points }, hteq]; rfl
    refine ⟨t, hserved, by rw [hteq], ?_, fun x hx => ?_,
      fun p => ⟨fun hother => ?_, fun a ha hg => ⟨fun hstate => ?_, fun hstate => ?_⟩⟩⟩
    · rw [hcurve, s.putCurve_curve_self]
    · rw [hcurve, s.putCurve_curve_ne hx]
    · rw [hprobe, ProbeRecord.replaceGroup_of_other hother]
    · rw [hprobe, ProbeRecord.replaceGroup_of_measured ha hg hstate]
      rfl
    · rw [hprobe, ProbeRecord.replaceGroup_of_excluded ha hg hstate]
  · exact curveClear_served h (handleCurveClear_unused (groupOfNumber_toNat g) hnone)
  · exact curveClear_refused h (handleCurveClear_inUse (groupOfNumber_toNat g) hused)
  · have hg := groupOfNumber_of_gt hg
    exact ⟨curvePut_refused h (handleCurvePut_badGroup hg), curveClear_refused h (handleCurveClear_badGroup hg)⟩
  · exact curvePut_refused h (handleCurvePut_badCoefficient (groupOfNumber_of_le hg) hc)
  · exact curvePut_refused h (handleCurvePut_badCount (groupOfNumber_of_le hg) hc hn)
  · exact curvePut_refused h (handleCurvePut_badLength (groupOfNumber_of_le hg) hc ⟨hlo, hhi⟩ hlen)
  · exact curvePut_refused h (handleCurvePut_bytes_badPoint hc ⟨hlo, hhi⟩ hbytes hk)
  · exact curveClear_refused h (handleCurveClear_badLength hp)
  · exact curvePut_refused h (handleCurvePut_short hp)

end Sys2Proof.Machine
end

section
/-! SUPPORT. The agreements of the run record (R82, R83, R91) and of its clocks (R87) under each of the run's own moves. -/

namespace Sys2Proof.Machine

/-! ### The agreements of a run record (R82, R91, R65) -/

/-- What `State.RunSound` asks of a run record, `adopting` saying whether an adoption is pending. -/
def Run.Sound (r : Run) (adopting : Bool) : Prop :=
  r.HoldAgrees ∧ (r.inBand = true → r.state = .running) ∧ (r.stepIndex = none ↔ r.state = .idle) ∧
    (r.completion.isSome = true ↔ r.state = .complete) ∧ (adopting = true → r.state.inProgress = true)

theorem State.runSound_iff (s : State) : s.RunSound ↔ s.run.Sound s.schedule.adoption.isSome := Iff.rfl

theorem HoldSet.put_isEmpty_of_true (x : HoldSet) (q : HoldReason) : (x.put q true).isEmpty = false := by
  cases q <;> simp [HoldSet.put, HoldSet.isEmpty]

theorem HoldSet.put_isEmpty_of_false {x : HoldSet} (h : x.isEmpty = true) (q : HoldReason) :
    (x.put q false).isEmpty = true := by
  rw [HoldSet.isEmpty_iff] at h ⊢
  intro p
  by_cases hp : p = q
  · rw [hp, HoldSet.has_put_self]
  · rw [HoldSet.has_put_ne _ _ _ _ hp, h p]

theorem RunState.inProgress_of_going {x : RunState} (h : x.going = true) : x.inProgress = true := by
  cases x <;> first | rfl | cases h

theorem RunState.ne_idle_of_inProgress {x : RunState} (h : x.inProgress = true) : x ≠ .idle := by
  rintro rfl; cases h

section
variable {r : Run} {adopting : Bool} (h : r.Sound adopting)
include h

/-- R97: a RUNNING run that takes a reason is HELD by it. -/
theorem Run.Sound.held (hr : r.state = .running) {x : HoldSet} (hx : x.isEmpty = false) :
    ({ r with reasons := x, state := .held, inBand := false } : Run).Sound adopting := by
  obtain ⟨-, -, hi, hc, -⟩ := h
  simp_all [Run.Sound, Run.HoldAgrees, RunState.inProgress]

/-- R97: the set of a run that stays in its state. -/
theorem Run.Sound.withReasons {x : HoldSet} (hheld : r.state = .held → x.isEmpty = false)
    (hother : r.state ≠ .held → r.state ≠ .safe → x.isEmpty = true) :
    ({ r with reasons := x } : Run).Sound adopting := by
  obtain ⟨-, hb, hi, hc, ha⟩ := h
  exact ⟨⟨hheld, hother⟩, hb, hi, hc, ha⟩

/-- R97: a HELD run whose set is empty runs on. -/
theorem Run.Sound.resumed (hr : r.state = .held) {x : HoldSet} (hx : x.isEmpty = true) :
    ({ r with reasons := x, state := .running } : Run).Sound adopting := by
  obtain ⟨-, -, hi, hc, -⟩ := h
  simp_all [Run.Sound, Run.HoldAgrees, RunState.inProgress]

/-- R101: the entry into SAFE. -/
theorem Run.Sound.safe (hr : r.state.going = true) :
    ({ r with state := .safe, inBand := false } : Run).Sound adopting := by
  obtain ⟨-, -, hi, hc, -⟩ := h
  cases hs : r.state <;> simp_all [Run.Sound, Run.HoldAgrees, RunState.inProgress, RunState.going]

/-- R86: a step entry. -/
theorem Run.Sound.entering (hr : r.state ≠ .idle) (i : Nat) : (r.entering i).Sound adopting := by
  obtain ⟨hh, -, -, hc, ha⟩ := h
  exact ⟨hh, by simp [Run.entering], by simp [Run.entering, hr], hc, ha⟩

/-- R76: an adoption NOW, restarting the step or not. -/
theorem Run.Sound.restartStep : r.restartStep.Sound adopting := by
  obtain ⟨hh, -, hi, hc, ha⟩ := h
  exact ⟨hh, by simp [Run.restartStep], hi, hc, ha⟩

theorem Run.Sound.withIndex (hr : r.state ≠ .idle) (i : Nat) :
    ({ r with stepIndex := some i } : Run).Sound adopting := by
  obtain ⟨hh, hb, -, hc, ha⟩ := h
  exact ⟨hh, hb, by simp [hr], hc, ha⟩

/-- R91: the settle judgement of a RUNNING run. -/
theorem Run.Sound.settled (hr : r.state = .running) (inBand : Bool) (timer : Nat) :
    ({ r with inBand, settleTimer := timer } : Run).Sound adopting := by
  obtain ⟨hh, -, hi, hc, ha⟩ := h
  exact ⟨hh, fun _ => hr, hi, hc, ha⟩

omit h in
/-- R83: a run end that leaves no adoption pending. -/
theorem Run.Sound.ended (h : r.Sound false) (hr : r.state.inProgress = true) {final : RunState}
    {completion : Option Completion}
    (hf : final = .complete ∧ completion.isSome = true ∨ final = .aborted ∧ completion = r.completion) :
    ({ r with state := final, reasons := .empty, inBand := false, completion } : Run).Sound false := by
  obtain ⟨-, -, hi, hc, -⟩ := h
  obtain ⟨rfl, hc'⟩ | ⟨rfl, rfl⟩ := hf
  · cases hs : r.state <;> simp_all [Run.Sound, Run.HoldAgrees, RunState.inProgress, HoldSet.isEmpty_empty]
  · cases hs : r.state <;> simp_all [Run.Sound, Run.HoldAgrees, RunState.inProgress, HoldSet.isEmpty_empty]

/-- R102: a restart out of SAFE, HELD by HOST. -/
theorem Run.Sound.restarted (hr : r.state = .safe) :
    ({ r with state := .held, reasons := r.reasons.put .host true } : Run).Sound adopting := by
  obtain ⟨-, hb, hi, hc, -⟩ := h
  simp_all [Run.Sound, Run.HoldAgrees, RunState.inProgress, HoldSet.put_isEmpty_of_true]

/-- R87: a minute event counts the clocks of the run alone. -/
theorem Run.Sound.countMinute (minute : Nat) : (r.countMinute minute).Sound adopting := h

end

/-- R85: a run that starts at a step. -/
theorem Run.Sound.started (r : Run) (adopting : Bool) (i : Nat) :
    (({ r with
        state := .running, reasons := .empty, completion := none, spread := none, equalizeEntered := false,
        restored := false, totalMinutes := 0 } : Run).entering i).Sound adopting := by
  simp [Run.Sound, Run.HoldAgrees, Run.entering, HoldSet.isEmpty_empty, RunState.inProgress]

/-- R82: the cleared run record, with no adoption pending. -/
theorem Run.cleared_sound : Run.cleared.Sound false := by
  simp [Run.Sound, Run.HoldAgrees, Run.cleared, HoldSet.isEmpty_empty]

/-- R174: a restored run is HELD by RESTORED. -/
theorem CheckpointBody.run_sound (b : CheckpointBody) (adopting : Bool) : b.run.Sound adopting := by
  simp [Run.Sound, Run.HoldAgrees, CheckpointBody.run, Run.cleared, HoldSet.put_isEmpty_of_true, RunState.inProgress]

/-! ### The clocks of a run record (R87) -/

/-- R87: with the step minutes at 0, or both clocks kept, the agreement of the clocks stands. -/
theorem Run.ClocksAgree.of_total {r x : Run} (h : r.ClocksAgree) (ht : x.totalMinutes = r.totalMinutes)
    (hs : x.stepMinutes = r.stepMinutes ∨ x.stepMinutes = 0) : x.ClocksAgree := by
  unfold Run.ClocksAgree at *
  omega

theorem Run.nextStepMinutes_le {r : Run} (h : r.stepMinutes ≤ 4294967295) (minute : Nat) :
    r.nextStepMinutes minute ≤ 4294967295 := by
  have htop := (Config.stepMinutesPastTop minute).isLt
  unfold Run.nextStepMinutes bumpMinutes
  (repeat' split) <;> omega

/-- R87: a minute event keeps the agreement of the clocks, and the top of the total's range. -/
theorem Run.ClocksAgree.countMinute {r : Run} (h : r.ClocksAgree) (minute : Nat) : (r.countMinute minute).ClocksAgree := by
  refine ⟨r.countMinute_clocks minute h.1, ?_⟩
  have hstep := Run.nextStepMinutes_le (h.1.trans h.2) minute
  have htop := (Config.totalMinutesPastTop minute).isLt
  obtain ⟨-, htotal⟩ := h
  simp only [Run.countMinute, bumpMinutes]
  (repeat' split) <;> omega

/-! ### The clocks in the checkpoints (R87, R106, R174) -/

/-- R106: what a checkpoint requested now holds has the clocks of the run. -/
theorem State.checkpointNow_clocks {s : State} (h : s.run.ClocksAgree) (b : CheckpointBody)
    (hb : s.checkpointNow = .run b) : b.ClocksAgree := by
  unfold State.checkpointNow at hb
  split at hb <;> cases hb
  exact h

section
variable {m : Memory} (h : m.ClocksAgree)
include h

theorem Memory.ClocksAgree.startCheckpoint {c : Checkpoint} (hc : ∀ b, c = .run b → b.ClocksAgree) :
    (m.startCheckpoint c).ClocksAgree := by
  obtain ⟨hregion, hpending, -⟩ := h
  refine ⟨(fun _ hb => by cases hb), hpending, fun contents before hop => ?_⟩
  cases hop
  exact ⟨hc, hregion⟩

theorem Memory.ClocksAgree.withPending {c : Option Checkpoint} (hc : ∀ b, c = some (.run b) → b.ClocksAgree) :
    ({ m with pendingCheckpoint := c } : Memory).ClocksAgree := by
  obtain ⟨hregion, -, hop⟩ := h
  exact ⟨hregion, hc, hop⟩

theorem Memory.ClocksAgree.requestCheckpoint {c : Checkpoint} (hc : ∀ b, c = .run b → b.ClocksAgree) :
    (m.requestCheckpoint c).ClocksAgree := by
  obtain ⟨-, heq⟩ | ⟨-, heq⟩ := m.requestCheckpoint_cases c <;> rw [heq]
  · exact h.startCheckpoint hc
  · exact h.withPending fun b hb => hc b (Option.some.inj hb)

/-- What neither writes nor awaits a checkpoint keeps what the region and the pending slot hold. -/
theorem Memory.ClocksAgree.of_otherOp {x : Memory} (hr : x.checkpointRegion = m.checkpointRegion)
    (hp : x.pendingCheckpoint = m.pendingCheckpoint) (ho : ∀ c b, x.op ≠ .checkpointWrite c b) : x.ClocksAgree := by
  obtain ⟨hregion, hpending, -⟩ := h
  exact ⟨hr ▸ hregion, hp ▸ hpending, fun c b hop => absurd hop (ho c b)⟩

theorem Memory.ClocksAgree.requestSave (i : Image) : (m.requestSave i).ClocksAgree := by
  unfold Memory.requestSave
  split
  · exact h.of_otherOp rfl rfl (by simp)
  all_goals exact h

theorem Memory.ClocksAgree.startNext : m.startNext.ClocksAgree := by
  unfold Memory.startNext
  split
  · rename_i c hc
    exact (h.withPending (c := none) (by simp)).startCheckpoint fun b hb => h.2.1 b (hb ▸ hc)
  · (repeat' split) <;> exact h.of_otherOp rfl rfl (by simp)

theorem Memory.ClocksAgree.restart : m.restart.ClocksAgree := by
  have hdropped : ({ m with pendingSave := none, loadWaits := true } : Memory).ClocksAgree := h
  simp only [Memory.restart]
  split
  · exact hdropped.startNext
  all_goals exact hdropped

/-- R175: nothing in flight or waiting after a tear, and whatever then starts no checkpoint. -/
theorem Memory.ClocksAgree.torn (t : Tear) {op : MemoryOp} (ho : ∀ c b, op ≠ .checkpointWrite c b) :
    ({ (m.tear t).emptied with op } : Memory).ClocksAgree := by
  refine ⟨fun b hb => ?_, (fun _ hb => by cases hb), fun c b hop => absurd hop (ho c b)⟩
  change (m.tear t).checkpointRegion = .run b at hb
  unfold Memory.tear at hb
  split at hb
  · cases t <;> cases hb
  all_goals exact h.1 b hb

/-- R175: what a checkpoint write leaves in the region, ended well or not. -/
theorem Memory.ClocksAgree.withCheckpointEnd {contents : Checkpoint} {before : CheckpointRegion}
    (hop : m.op = .checkpointWrite contents before) (result : CheckpointEnd) :
    ({ m with checkpointRegion := checkpointEndRegion contents before result } : Memory).ClocksAgree := by
  obtain ⟨-, hpending, hwrite⟩ := h
  obtain ⟨hcontents, hbefore⟩ := hwrite contents before hop
  refine ⟨fun b hb => ?_, hpending, hwrite⟩
  cases result with
  | agrees | failsAsWritten =>
    cases contents with
    | noRun => cases hb
    | run c => cases hb; exact hcontents _ rfl
  | failsAsBefore => exact hbefore b hb
  | failsNoHeader | failsWriting | failsCrc => cases hb

end

/-- R174: a run restored comes from the region. -/
theorem runLoad_restored {settings : SettingsLoad} {reads : Bool} {region : CheckpointRegion} {b : CheckpointBody}
    (h : runLoad settings reads region = .restored b) : region = .run b := by
  unfold runLoad at h
  split at h
  all_goals (repeat' split at h) <;> cases h
  all_goals rfl

end Sys2Proof.Machine
end

section
/-! SUPPORT. The records of the Probe Table within their bounds, UNASSIGNED exactly without an assignment (R41, R45), under
what a reading, a request, a curve, a block reset and the load do to a record. -/

namespace Sys2Proof.Machine

/-- R41, R45: one record within its bounds and agreeing with its assignment. -/
def ProbeRecord.Sound (r : ProbeRecord) : Prop := r.Bounded ∧ (r.state = .unassigned ↔ r.assignment = none)

/-- R41, R45: every record is sound. -/
def State.ProbesSound (s : State) : Prop := ∀ p, (s.probe p).Sound

theorem State.collectionsSound_iff (s : State) :
    s.CollectionsSound ↔ (s.notices.length ≤ 32 ∧ s.history.frames.length ≤ 96) ∧ s.ProbesSound := by
  simp only [State.CollectionsSound, State.Bounded, State.ProbesBounded, State.AssignmentsAgree, State.ProbesSound,
    ProbeRecord.Sound, forall_and]

theorem ProbeRecord.cleared_sound : ProbeRecord.cleared.Sound := by
  simp [ProbeRecord.Sound, ProbeRecord.Bounded, ProbeRecord.cleared]

theorem ProbeRecord.assigned_sound (a : Assignment) : (ProbeRecord.assigned a).Sound := by
  simp [ProbeRecord.Sound, ProbeRecord.Bounded, ProbeRecord.assigned, ProbeRecord.cleared]

/-- R173: a record as the image loads it. -/
theorem SavedProbe.record_sound (x : SavedProbe) : x.record.Sound := by
  unfold SavedProbe.record
  split
  · exact ProbeRecord.cleared_sound
  · rename_i a _
    refine ⟨(ProbeRecord.assigned_sound a).1, ?_⟩
    cases x.blocked <;> simp [ProbeRecord.assigned]

section
variable {r : ProbeRecord} (h : r.Sound)
include h

/-- R45: a record that stays assigned, with counts within their bound. -/
theorem ProbeRecord.Sound.moved (hr : r.state ≠ .unassigned) {state : Health} (hs : state ≠ .unassigned)
    {values : List Nat} (hv : values.length ≤ 3) {faultCount jumpCount : Nat} (hf : faultCount ≤ 3) (hj : jumpCount ≤ 3)
    (faultKind : Option FaultKind) :
    ({ r with state, values, faultCount, jumpCount, faultKind } : ProbeRecord).Sound := by
  obtain ⟨-, ha⟩ := h
  exact ⟨⟨hv, hf, hj⟩, by simp [hs, ← ha, hr]⟩

theorem ProbeRecord.Sound.renew (hr : r.state ≠ .unassigned) : r.renew.Sound :=
  h.moved hr (by simp) (Nat.zero_le _) (Nat.zero_le _) (Nat.zero_le _) none

theorem ProbeRecord.Sound.block (hr : r.state ≠ .unassigned) : r.block.Sound := by
  obtain ⟨hv, hf, hj⟩ := h.1
  exact h.moved hr (by simp) hv hf hj none

/-- R62: the PROBES block reset. -/
theorem ProbeRecord.Sound.tableReset : r.tableReset.Sound := by
  unfold ProbeRecord.tableReset
  split
  case h_5 | h_6 => exact h
  all_goals exact h.renew (by simp [*])

/-- R54: a group replacement. -/
theorem ProbeRecord.Sound.replaceGroup (g : Fin 8) : (r.replaceGroup g).Sound := by
  obtain ⟨hv, hf, hj⟩ := h.1
  unfold ProbeRecord.replaceGroup
  split
  · split
    case h_6 => exact h
    case h_4 | h_5 => exact ⟨⟨Nat.zero_le _, hf, hj⟩, h.2⟩
    all_goals exact h.renew (by simp [*])
  · exact h

/-- R46 to R48, R50: a valid reading. -/
theorem ProbeRecord.Sound.takeValid (limit mc : Nat) : (r.takeValid limit mc).Sound := by
  obtain ⟨hv, hf, hj⟩ := h.1
  have happend := appendValue_length r.values mc hv
  unfold ProbeRecord.takeValid
  split
  case h_1 hnew =>
    exact h.moved (by simp [hnew]) (by split <;> simp) happend (Nat.zero_le _) hj r.faultKind
  case h_2 | h_3 =>
    rename_i hstate
    generalize (if isJump limit r.filtered mc then r.jumpCount + 1 else 0) = jumps
    dsimp only
    split
    · exact h.moved (by simp [hstate]) (by simp) happend (Nat.zero_le _) (by omega) r.faultKind
    · exact h.moved (by simp [hstate]) (by simp) hv hf le_rfl (some .erratic)
  all_goals exact h

/-- R46 to R48, R50: a fault reading. -/
theorem ProbeRecord.Sound.takeFault (k : FaultKind) : (r.takeFault k).Sound := by
  obtain ⟨hv, hf, hj⟩ := h.1
  have hcount (hr : r.state ≠ .unassigned) :
      (if r.faultCount + 1 < 3 then { r with faultCount := r.faultCount + 1 }
        else ({ r with faultCount := 3 } : ProbeRecord).enterFaulted k).Sound := by
    split
    · exact h.moved hr hr hv (by omega) hj r.faultKind
    · exact h.moved hr (by simp) hv le_rfl hj (some k)
  unfold ProbeRecord.takeFault
  split
  case h_1 hs | h_3 hs => exact hcount (by simp [hs])
  case h_2 hs => exact h.moved (by simp [hs]) (by simp) hv (by simp) hj r.faultKind
  all_goals exact h

/-- R44: a reading of any kind. -/
theorem ProbeRecord.Sound.apply (limit : Nat) (range : Fin 4) (x : Reading) : (r.apply limit range x).Sound := by
  have hkept : ({ r with last := some x, rangeMemory := range } : ProbeRecord).Sound := h
  unfold ProbeRecord.apply
  dsimp only
  split
  · exact hkept.takeValid _ _
  · exact hkept.takeFault _
  · exact hkept

/-- R42, R51, R53: the record that a request puts in place of its own. -/
theorem ProbeRecord.Sound.replaced {x : ProbeRecord} (hx : RecordReplaced r x) : x.Sound := by
  cases hx with
  | cleared => exact ProbeRecord.cleared_sound
  | assigned a => exact ProbeRecord.assigned_sound a
  | blocked hr => exact h.block hr
  | readmitted hr => exact h.renew (by simp [hr])

end

theorem State.ProbesSound.setProbe {s : State} (h : s.ProbesSound) (p : Fin 48) {r : ProbeRecord} (hr : r.Sound) :
    (s.setProbe p r).ProbesSound := by
  intro q
  by_cases hq : q = p
  · subst hq; simpa using hr
  · rw [s.setProbe_probe_ne _ _ _ hq]; exact h q

/-- What is done to every record of a table alike. -/
theorem State.ProbesSound.of_mapTable {s t : State} (h : s.ProbesSound) (f : ProbeRecord → ProbeRecord)
    (hf : ∀ r : ProbeRecord, r.Sound → (f r).Sound) (ht : t.probes = mapTable f s.probes) : t.ProbesSound := by
  intro p
  rw [State.probe, ht, getTable_mapTable]
  exact hf _ (h p)

theorem State.probesSound_of_cleared {s : State} (h : s.probes = Vector.replicate 48 .cleared) : s.ProbesSound := by
  intro p
  have hp : s.probe p = .cleared := by simp [State.probe, h, getTable]
  rw [hp]
  exact ProbeRecord.cleared_sound

theorem State.probesSound_congr {s t : State} (h : s.ProbesSound) (hp : t.probes = s.probes) : t.ProbesSound := by
  simpa [State.ProbesSound, State.probe, hp] using h

end Sys2Proof.Machine
end

section
/-! SUPPORT. What one state carries over to a later one (EveryStepKeepsCollectionsAndRun): the relation, and the run's own
operations in it. -/

namespace Sys2Proof.Machine

/-! ### Carrying the conditions over -/

/-- The bounds of the collections, the agreements of the run record and those of the clocks hold of `t` when they hold of
`s`, each on its own. -/
structure State.Carries (s t : State) : Prop where
  collections : s.CollectionsSound → t.CollectionsSound
  run : s.RunSound → t.RunSound
  clocks : s.ClocksSound → t.ClocksSound

theorem State.Carries.refl (s : State) : s.Carries s := ⟨id, id, id⟩

theorem State.Carries.trans {s t u : State} (h : s.Carries t) (h' : t.Carries u) : s.Carries u :=
  ⟨h'.collections ∘ h.collections, h'.run ∘ h.run, h'.clocks ∘ h.clocks⟩

/-- An operation on the notices and the ring that keeps their bounds, and on what the conditions do not speak of. -/
theorem State.Carries.of_bounded {s t : State} (hb : s.Bounded → t.Bounded) (hp : t.probes = s.probes)
    (hr : t.run = s.run) (ha : t.schedule.adoption = s.schedule.adoption) (hm : t.memory = s.memory) : s.Carries t := by
  refine ⟨fun h => ?_, fun h => ?_, fun h => ?_⟩
  · rw [State.collectionsSound_iff] at h ⊢
    exact ⟨hb h.1, State.probesSound_congr h.2 hp⟩
  · rw [State.runSound_iff, hr, ha]; exact h
  · rw [State.ClocksSound, hr, hm]; exact h

/-- An operation on what the conditions do not speak of. -/
theorem State.Carries.of_same {s t : State} (hn : t.notices = s.notices) (hh : t.history = s.history)
    (hp : t.probes = s.probes) (hr : t.run = s.run) (ha : t.schedule.adoption = s.schedule.adoption)
    (hm : t.memory = s.memory) : s.Carries t :=
  .of_bounded (fun h => by rw [State.Bounded, hn, hh]; exact h) hp hr ha hm

/-- R159: the notices of one event keep the bound of the queue. -/
theorem noticesAfter_length {s : State} (h : s.notices.length ≤ 32) (xs : List (NoticeKind × Nat × Nat)) :
    (noticesAfter s xs).length ≤ 32 :=
  List.foldlRecOn (motive := fun q : List Notice => q.length ≤ 32) _ _ h fun _ hq _ _ => pushNotice_length _ _ hq

/-- An operation that queues notices, and on what the conditions do not speak of. -/
theorem State.Queues.carries {s t : State} (h : s.Queues t) (hh : t.history = s.history) (hp : t.probes = s.probes)
    (hr : t.run = s.run) (ha : t.schedule.adoption = s.schedule.adoption) (hm : t.memory = s.memory) : s.Carries t := by
  obtain ⟨-, xs, hx⟩ := h
  exact .of_bounded (fun hb => ⟨hx ▸ noticesAfter_length hb.1 xs, hh ▸ hb.2⟩) hp hr ha hm

theorem State.queueNotice_carries (s : State) (k : NoticeKind) (a b : Nat) : s.Carries (s.queueNotice k a b) :=
  ((State.Queues.refl s).then_notice k a b).carries rfl rfl rfl rfl rfl

theorem State.wantCheckpoint_carries (s : State) : s.Carries s.wantCheckpoint := .of_same rfl rfl rfl rfl rfl rfl

/-- A move of the run record that keeps its agreements and those of its clocks. -/
theorem State.Carries.of_run {s : State} {r : Run} (hr : s.RunSound → r.Sound s.schedule.adoption.isSome)
    (hc : s.run.ClocksAgree → r.ClocksAgree) : s.Carries { s with run := r } :=
  ⟨fun h => h, hr, fun h => ⟨hc h.1, h.2⟩⟩

/-- R65: an adoption made or dropped, of a run that may have one. -/
theorem State.Carries.of_schedule {s : State} {x : ScheduleStore}
    (hx : s.RunSound → x.adoption.isSome = true → s.run.state.inProgress = true) : s.Carries { s with schedule := x } := by
  refine ⟨fun h => h, fun h => ?_, fun h => h⟩
  have hadopt := hx h
  obtain ⟨hh, hb, hi, hc, -⟩ := h
  exact ⟨hh, hb, hi, hc, hadopt⟩

/-- R65: the buffers or their roles, with the pending adoption kept or dropped. -/
theorem State.Carries.of_buffers {s : State} {x : ScheduleStore} (hx : x.adoption = s.schedule.adoption ∨ x.adoption = none) :
    s.Carries { s with schedule := x } := by
  refine .of_schedule fun h hsome => ?_
  obtain heq | heq := hx
  · exact h.2.2.2.2 (heq ▸ hsome)
  · simp [heq] at hsome

/-- An operation of the memory that keeps the clocks in the checkpoints. -/
theorem State.Carries.of_memory {s : State} {m : Memory} (hm : s.ClocksSound → m.ClocksAgree) :
    s.Carries { s with memory := m } :=
  ⟨fun h => h, fun h => h, fun h => ⟨h.1, hm h⟩⟩

/-- An operation on the records that keeps each sound. -/
theorem State.Carries.of_probes {s : State} {x : Vector ProbeRecord 48}
    (hx : s.ProbesSound → ({ s with probes := x } : State).ProbesSound) : s.Carries { s with probes := x } := by
  refine ⟨fun h => ?_, fun h => h, fun h => h⟩
  rw [State.collectionsSound_iff] at h ⊢
  exact ⟨h.1, hx h.2⟩

/-! ### Hold reasons (R97, R98) -/

/-- A move of the run record that leaves both clocks. -/
theorem State.Carries.of_run_sameClocks {s : State} {r : Run} (hr : s.RunSound → r.Sound s.schedule.adoption.isSome)
    (ht : r.totalMinutes = s.run.totalMinutes) (hs : r.stepMinutes = s.run.stepMinutes) : s.Carries { s with run := r } :=
  .of_run hr fun h => h.of_total ht (.inl hs)

theorem State.addReason_carries (s : State) (r : HoldReason) (hp : s.run.state.inProgress = true) :
    s.Carries (s.addReason r) := by
  have hput := s.run.reasons.put_isEmpty_of_true r
  simp only [State.addReason]
  split
  · exact .refl s
  · split
    case h_1 hs =>
      exact (State.Carries.of_run_sameClocks (fun h => Run.Sound.held h hs hput) rfl rfl).trans
        ((State.queueNotice_carries _ _ _ _).trans (State.wantCheckpoint_carries _))
    case h_2 hs =>
      exact (State.Carries.of_run_sameClocks
        (fun h => Run.Sound.withReasons h (fun _ => hput) fun hne => absurd hs hne) rfl rfl).trans
          (State.queueNotice_carries _ _ _ _)
    case h_4 hs =>
      exact .of_run_sameClocks (fun h => Run.Sound.withReasons h (fun _ => hput) fun _ hne => absurd hs hne) rfl rfl
    all_goals simp_all [RunState.inProgress]

/-- R97: reasons have left the set of a run in progress, and a HELD run whose set is empty runs on. -/
theorem State.resumeIfEmpty_carries (s : State) (x : HoldSet) (hp : s.run.state.inProgress = true)
    (hx : s.run.state = .running → s.run.reasons.isEmpty = true → x.isEmpty = true) :
    s.Carries ({ s with run := { s.run with reasons := x } } : State).resumeIfEmpty := by
  simp only [State.resumeIfEmpty]
  split
  · rename_i hc
    simp only [Bool.and_eq_true, decide_eq_true_eq] at hc
    exact (State.Carries.of_run_sameClocks (fun h => Run.Sound.resumed h hc.2 hc.1) rfl rfl).trans
      ((State.queueNotice_carries _ _ _ _).trans (State.wantCheckpoint_carries _))
  · rename_i hc
    refine .of_run_sameClocks (fun h => Run.Sound.withReasons h (fun hs => by simpa [hs] using hc) fun hne hns => ?_) rfl rfl
    have hrunning : s.run.state = .running := by cases hs : s.run.state <;> simp_all [RunState.inProgress]
    exact hx hrunning (h.1.2 hne hns)

theorem State.removeReason_carries (s : State) (r : HoldReason) (hp : s.run.state.inProgress = true) :
    s.Carries (s.removeReason r) := by
  unfold State.removeReason
  split
  · exact s.resumeIfEmpty_carries _ hp fun _ he => HoldSet.put_isEmpty_of_false he r
  · exact .refl s

theorem State.judgeReason_carries (s : State) (r : HoldReason) (present : Bool) : s.Carries (s.judgeReason r present) := by
  unfold State.judgeReason
  split
  · split
    · exact s.addReason_carries r ‹_›
    · exact s.removeReason_carries r ‹_›
  · exact .refl s

/-! ### The fans follow (R135, R140) -/

theorem State.fansFollowRun_carries (s : State) : s.Carries s.fansFollowRun :=
  s.fansFollowRun_queues.carries (by simp) (by simp) (by simp) (by simp) (by simp)

theorem State.fansOnLatchSet_queues (s : State) : s.Queues s.fansOnLatchSet := by
  unfold State.fansOnLatchSet
  split
  case h_1 | h_2 | h_3 => exact s.fansEnterFailed_queues
  all_goals exact .refl s

theorem State.fansOnLatchSet_carries (s : State) : s.Carries s.fansOnLatchSet :=
  s.fansOnLatchSet_queues.carries (by simp) (by simp) (by simp) (by simp) (by simp)

theorem State.fansOnLatchClear_carries (s : State) : s.Carries s.fansOnLatchClear := by
  have hqueues : s.Queues s.fansOnLatchClear := by
    unfold State.fansOnLatchClear
    split
    · split <;> exact .of_same (by simp) (by simp)
    all_goals exact .refl s
  exact hqueues.carries (by simp) (by simp) (by simp) (by simp) (by simp)

/-! ### SAFE, latches and trips (R98, R101, R146 to R151) -/

theorem State.runEntersSafe_carries (s : State) (i : Input) (hg : s.run.state.going = true) :
    s.Carries (s.runEntersSafe i) :=
  (State.Carries.of_run_sameClocks (fun h => Run.Sound.safe h hg) rfl rfl).trans
    ((State.queueNotice_carries _ _ _ _).trans (State.wantCheckpoint_carries _))

theorem State.judgeInterlock_carries (s : State) : s.Carries s.judgeInterlock := s.judgeReason_carries _ _

theorem State.latchBringsSafe_going {s : State} {i : Input} (h : s.latchBringsSafe i = true) : s.run.state.going = true := by
  simp only [State.latchBringsSafe, Bool.and_eq_true] at h
  exact h.2

theorem State.runOnLatchSignal_carries (s : State) (i : Input) : s.Carries (s.runOnLatchSignal i) := by
  unfold State.runOnLatchSignal
  split
  · rename_i hsafe
    exact ((s.runEntersSafe_carries i (State.latchBringsSafe_going hsafe)).trans (State.fansFollowRun_carries _)).trans
      (State.judgeInterlock_carries _)
  · exact s.judgeInterlock_carries

theorem State.drawn_carries (s : State) : s.Carries s.drawn := .of_same rfl rfl rfl rfl rfl rfl

theorem State.signalLatchSet_carries (s : State) (i : Input) : s.Carries (s.signalLatchSet i) := by
  unfold State.signalLatchSet
  split
  · split
    · exact (s.drawn_carries.trans (State.fansOnLatchSet_carries _)).trans (State.runOnLatchSignal_carries _ i)
    · split
      · rename_i hsafe
        exact (((s.drawn_carries.trans
          (State.runEntersSafe_carries _ .fanRun (State.latchBringsSafe_going hsafe))).trans
            (State.fansOnLatchSet_carries _)).trans (State.fansFollowRun_carries _)).trans
              (State.judgeInterlock_carries _)
      · exact (s.drawn_carries.trans (State.runOnLatchSignal_carries _ i)).trans (State.fansOnLatchSet_carries _)
    · exact (s.drawn_carries.trans (State.runOnLatchSignal_carries _ i)).trans (State.fansOnLatchSet_carries _)
  · exact s.runOnLatchSignal_carries i

theorem State.setInput_carries (s : State) (i : Input) (r : InputRecord) : s.Carries (s.setInput i r) :=
  .of_same rfl rfl rfl rfl rfl rfl

theorem State.trip_carries (s : State) (i : Input) : s.Carries (s.trip i) := by
  have hnotice := s.queueNotice_carries .interlockTripped i.number (s.inputLevel i)
  simp only [State.trip]
  split
  · exact hnotice
  · exact (hnotice.trans (State.setInput_carries _ _ _)).trans (State.signalLatchSet_carries _ i)

theorem State.judgeTrip_carries (s : State) (i : Input) (a b : Bool) : s.Carries (s.judgeTrip i a b) := by
  unfold State.judgeTrip
  split
  · exact s.trip_carries i
  · exact .refl s

theorem State.changeLive_carries (s : State) (i : Input) (closed : Bool) : s.Carries (s.changeLive i closed) := by
  have hfans (t : State) : t.Carries t.fansOnInput := by
    refine State.Queues.carries ?_ (by simp) (by simp) (by simp) (by simp) (by simp)
    exact .of_same (by simp) (by simp)
  simp only [State.changeLive]
  split
  · exact .refl s
  · split
    · exact ((s.setInput_carries _ _).trans (State.judgeTrip_carries _ _ _ _)).trans (hfans _)
    · exact (s.setInput_carries _ _).trans (State.judgeTrip_carries _ _ _ _)

theorem State.clearLatch_carries (s : State) (i : Input) : s.Carries (s.clearLatch i) := by
  have hcleared := s.setInput_carries i { s.input i with latch := false, trippedAt := none }
  simp only [State.clearLatch, State.signalLatchClear]
  split
  · exact (hcleared.trans (State.runOnLatchSignal_carries _ i)).trans (State.fansOnLatchClear_carries _)
  · exact hcleared.trans (State.runOnLatchSignal_carries _ i)

theorem State.configureInput_carries (s : State) (i : Input) (x : InputSettings) : s.Carries (s.configureInput i x) := by
  have hset : s.Carries { s with settings := { s.settings with interlocks := s.settings.interlocks.set i x } } :=
    .of_same rfl rfl rfl rfl rfl rfl
  simp only [State.configureInput]
  split
  · exact (hset.trans (State.judgeTrip_carries _ _ _ _)).trans (State.runOnLatchSignal_carries _ i)
  · exact hset.trans (State.judgeTrip_carries _ _ _ _)

theorem State.takeConfirmExpiry_carries (s : State) : s.Carries s.takeConfirmExpiry := by
  have hexpected : s.Carries { s with fans := { s.fans with expectRunning := true, compareActive := true } } :=
    .of_same rfl rfl rfl rfl rfl rfl
  simp only [State.takeConfirmExpiry, State.expireConfirm]
  split
  · split
    · exact hexpected.trans (.of_same (by simp) (by simp) (by simp) (by simp) (by simp) (by simp))
    · exact hexpected.trans (State.judgeTrip_carries _ _ _ _)
  · exact .refl s

/-! ### Steps (R86, R95, R96, R104) -/

theorem State.latchSpread_carries (s : State) (x : StepRecord) : s.Carries (s.latchSpread x) := by
  unfold State.latchSpread
  split
  · exact .of_run_sameClocks (fun h => h) rfl rfl
  · exact .refl s

/-- R86: what follows the run's own part of a step entry. -/
theorem State.enteredStep_carries (s : State) (i : Nat) (x : StepRecord) (origin : ZoneId → Int) :
    s.Carries
      ((((s.zonesTakeStep x origin).handFans x).latchSpread x).queueNotice .stepEntered i x.kind.code).wantCheckpoint := by
  have hzones : s.Carries ((s.zonesTakeStep x origin).handFans x) :=
    .of_same (by simp) (by simp) (by simp) (by simp) (by simp) (by simp)
  exact ((hzones.trans (State.latchSpread_carries _ x)).trans (State.queueNotice_carries _ _ _ _)).trans
    (State.wantCheckpoint_carries _)

theorem State.enterStepFrom_carries (s : State) (i : Nat) (origin : StepRecord → ZoneId → Int) (h : s.run.state ≠ .idle) :
    s.Carries (s.enterStepFrom i origin) := by
  unfold State.enterStepFrom
  split
  · exact .refl s
  · exact (State.Carries.of_run (fun hr => Run.Sound.entering hr h i) fun hc => hc.of_total rfl (.inr rfl)).trans
      (State.enteredStep_carries _ i _ _)

/-- R83: what follows the run's own part of its end. -/
theorem State.endedRun_carries (s : State) : s.Carries s.zonesEndRun.fansFollowRun :=
  (State.Carries.of_same (by simp) (by simp) (by simp) (by simp) (by simp) (by simp)).trans
    (State.fansFollowRun_carries _)

theorem State.completeRun_carries (s : State) (ha : s.schedule.adoption = none) (hp : s.run.state.inProgress = true) :
    s.Carries s.completeRun := by
  have hended : s.Carries
      { s with
        run :=
          { s.run with state := .complete, reasons := .empty, inBand := false, completion := some s.completionNow } } := by
    refine .of_run_sameClocks (fun h => ?_) rfl rfl
    rw [State.runSound_iff] at h
    simp only [ha, Option.isSome_none] at h ⊢
    exact h.ended hp (.inl ⟨rfl, rfl⟩)
  exact ((hended.trans (State.endedRun_carries _)).trans (State.queueNotice_carries _ _ _ _)).trans
    (State.wantCheckpoint_carries _)

theorem State.stepEnd_carries (s : State) (h : s.run.state = .running) : s.Carries s.stepEnd := by
  have hidle : s.run.state ≠ .idle := by simp [h]
  simp only [State.stepEnd]
  split
  · have hexchange : s.Carries { s with schedule := { s.schedule.exchange with adoption := none } } :=
      .of_buffers (.inr rfl)
    exact (hexchange.trans (State.queueNotice_carries _ _ _ _)).trans (State.enterStepFrom_carries _ _ _ hidle)
  · split
    · exact s.completeRun_carries ‹_› (by simp [h, RunState.inProgress])
    · exact s.enterStepFrom_carries _ _ hidle

/-! ### Advance tests (R88 to R93) -/

/-- R88: a step that may be evaluated belongs to a RUNNING run. -/
theorem State.evaluatedStep_running {s : State} {x : StepRecord} (h : s.evaluatedStep = some x) : s.run.state = .running := by
  unfold State.evaluatedStep at h
  split at h
  · assumption
  · cases h

theorem State.testAtPublication_carries (s : State) (f : Option McFigures) : s.Carries (s.testAtPublication f) := by
  have hmet : s.Carries { s with run := { s.run with mcMet := true } } := .of_run_sameClocks (fun h => h) rfl rfl
  simp only [State.testAtPublication]
  split
  · exact .refl s
  · rename_i hx
    have hrun := State.evaluatedStep_running hx
    split
    case h_1 | h_2 =>
      split
      · exact s.stepEnd_carries hrun
      · exact .refl s
    case h_3 =>
      split <;> split
      · exact hmet.trans (State.stepEnd_carries _ hrun)
      · exact hmet
      · exact s.stepEnd_carries hrun
      · exact .refl s
    all_goals exact .refl s

theorem State.judgeSettle_carries (s : State) (h : s.run.state = .running) : s.Carries s.judgeSettle := by
  have hmove (b : Bool) (n : Nat) : s.Carries { s with run := { s.run with inBand := b, settleTimer := n } } :=
    .of_run_sameClocks (fun hr => Run.Sound.settled hr h b n) rfl rfl
  unfold State.judgeSettle
  split
  · exact hmove false s.run.settleTimer
  · split
    · exact hmove true s.run.settleTimer
    · exact hmove false 0

theorem State.testAtSet_carries (s : State) : s.Carries s.testAtSet := by
  unfold State.testAtSet
  split
  · exact .refl s
  · rename_i hx
    have hrun := State.evaluatedStep_running hx
    split
    · exact s.judgeSettle_carries hrun
    · split
      · exact s.stepEnd_carries hrun
      · exact .refl s
    all_goals exact .refl s

/-- A state in which the marks of due work alone have changed. -/
theorem State.withDue_carries (s : State) (d : Due) : s.Carries { s with due := d } := .of_same rfl rfl rfl rfl rfl rfl

theorem State.takeHours_carries (s : State) : s.Carries s.takeHours := by
  unfold State.takeHours
  split
  · split
    · rename_i hpass
      obtain ⟨x, hx, -⟩ := (Option.any_eq_true ..).1 hpass
      exact (s.withDue_carries _).trans (State.stepEnd_carries s.judgementsOver (State.evaluatedStep_running hx))
    · exact s.withDue_carries _
  · exact .refl s

theorem State.takeSettle_carries (s : State) : s.Carries s.takeSettle := by
  unfold State.takeSettle
  split
  · split
    · rename_i hpass
      simp only [State.settleTestPasses, Bool.and_eq_true] at hpass
      obtain ⟨x, hx, -⟩ := (Option.any_eq_true ..).1 hpass.2
      exact (s.withDue_carries _).trans (State.stepEnd_carries s.judgementsOver (State.evaluatedStep_running hx))
    · exact s.withDue_carries _
  · exact .refl s

theorem State.timeOut_carries (s : State) (x : StepRecord) (h : s.run.state = .running) : s.Carries (s.timeOut x) := by
  unfold State.timeOut
  split
  · exact (s.queueNotice_carries _ _ _).trans (State.stepEnd_carries _ h)
  · exact (s.addReason_carries .timeout (by simp [h, RunState.inProgress])).trans
      (.of_run_sameClocks (fun hr => hr) rfl rfl)
  · exact .refl s

theorem State.takeTimeout_carries (s : State) : s.Carries s.takeTimeout := by
  have hbefore := s.takeHours_carries.trans s.takeHours.takeSettle_carries
  simp only [State.takeTimeout]
  split
  · split
    · rename_i x hx
      have hrun : s.takeHours.takeSettle.run.state = .running := by
        unfold State.timedOutStep at hx
        split at hx
        · rename_i hc; exact hc.1
        · cases hx
      exact (hbefore.trans (State.withDue_carries _ _)).trans (State.timeOut_carries _ x hrun)
    · exact hbefore.trans (State.withDue_carries _ _)
  · exact hbefore

end Sys2Proof.Machine
end

section
/-! SUPPORT. What the scanner's operations, the requests, the settings memory and the load carry over
(EveryStepKeepsCollectionsAndRun). -/

namespace Sys2Proof.Machine

/-! ### Publications and scans (R9 to R11, R56, R155) -/

theorem State.setScanner_carries (s : State) (x : Scanner) : s.Carries (s.setScanner x) := .of_same rfl rfl rfl rfl rfl rfl

theorem State.appendFrame_carries (s : State) (p : Publication) : s.Carries (s.appendFrame p) :=
  .of_bounded (fun h => ⟨h.1, History.append_length _ _ h.2⟩) rfl rfl rfl rfl

theorem State.publish_carries (s : State) (n : Nat) : s.Carries (s.publish n) := by
  have hnoticed : s.Carries (s.noticeQuorum (s.publicationNow n)) :=
    (s.noticeQuorum_queues _).carries (by simp) (by simp) (by simp) (by simp) (by simp)
  have hkept := hnoticed.trans
    (.of_same (t := (s.noticeQuorum (s.publicationNow n)).keepPublication (s.publicationNow n)) rfl rfl rfl rfl rfl rfl)
  exact ((hkept.trans (State.judgeReason_carries _ _ _)).trans (State.testAtPublication_carries _ _)).trans
    (State.appendFrame_carries _ _)

theorem State.publishScan_carries (s : State) : s.Carries s.publishScan :=
  (s.setScanner_carries _).trans (State.publish_carries _ _)

theorem State.startScan_carries (s : State) : s.Carries s.startScan := by
  cases h : s.nextProbe 0 with
  | some p => rw [s.startScan_of_next h]; exact s.setScanner_carries _
  | none =>
    rw [s.startScan_of_none h]
    exact ((s.setScanner_carries _).trans (State.publishScan_carries _)).trans (State.setScanner_carries _ _)

theorem State.completeScan_carries (s : State) : s.Carries s.completeScan := by
  cases h : s.scanner.startDue with
  | true => rw [s.completeScan_of_due h]; exact s.publishScan_carries.trans (State.startScan_carries _)
  | false => rw [s.completeScan_of_not_due h]; exact s.publishScan_carries.trans (State.setScanner_carries _ _)

theorem State.advanceScan_carries (s : State) (after : Fin 48) : s.Carries (s.advanceScan after) := by
  cases h : s.nextProbe (probeNumber after) with
  | some p => rw [State.advanceScan_of_next h]; exact s.setScanner_carries _
  | none => rw [State.advanceScan_of_none h]; exact s.completeScan_carries

theorem State.discardFor_carries (s : State) (p : Fin 48) : s.Carries (s.discardFor p) := by
  unfold State.discardFor
  split
  · exact s.advanceScan_carries p
  · exact .refl s

theorem State.discardAny_carries (s : State) : s.Carries s.discardAny := by
  unfold State.discardAny
  split
  · exact s.advanceScan_carries _
  · exact .refl s

theorem State.takeScanExpiry_carries (s : State) : s.Carries s.takeScanExpiry := by
  unfold State.takeScanExpiry
  split
  · split
    · exact s.startScan_carries
    · exact s.setScanner_carries _
    · exact .refl s
  · exact .refl s

theorem State.scanEnabled_carries (s : State) : s.Carries s.scanEnabled := by
  unfold State.scanEnabled
  split
  · exact s.startScan_carries
  · exact s.setScanner_carries _
  · exact .refl s

theorem State.scanDisabled_carries (s : State) : s.Carries s.scanDisabled :=
  .of_same (by simp) (by simp) (by simp) (by simp) (by simp) (by simp)

theorem State.intervalChanged_carries (s : State) : s.Carries s.intervalChanged := by
  unfold State.intervalChanged
  split
  · split
    · exact s.startScan_carries
    · exact .refl s
  · split
    · exact s.setScanner_carries _
    · exact .refl s
  · exact .refl s

theorem State.writeScanConfig_carries (s : State) (interval : Nat) (enable : Bool) (tolerance : Nat) :
    s.Carries (s.writeScanConfig interval enable tolerance) := by
  have hset : s.Carries (s.withScan interval enable tolerance) := .of_same rfl rfl rfl rfl rfl rfl
  simp only [State.writeScanConfig]
  split
  · split
    · exact hset.trans (State.scanEnabled_carries _)
    · exact hset.trans (State.scanDisabled_carries _)
    all_goals exact hset
  · refine State.Carries.trans ?_ (State.intervalChanged_carries _)
    split
    · exact hset.trans (State.scanEnabled_carries _)
    · exact hset.trans (State.scanDisabled_carries _)
    all_goals exact hset

/-! ### Readings and records (R7, R44, R42, R51 to R54, R62) -/

theorem State.setProbe_carries (s : State) (p : Fin 48) (r : ProbeRecord) (hr : (s.probe p).Sound → r.Sound) :
    s.Carries (s.setProbe p r) :=
  .of_probes fun h => h.setProbe p (hr (h p))

theorem State.applyReading_carries (s : State) (p : Fin 48) (range : Fin 4) (x : Reading) :
    s.Carries (s.applyReading p range x) := by
  have hread : s.Carries (s.setProbe p ((s.probe p).apply s.settings.jumpLimit range x)) :=
    s.setProbe_carries p _ fun h => h.apply _ _ _
  refine hread.trans (State.Queues.carries ?_ ?_ ?_ ?_ ?_ ?_)
  · exact ⟨by simp, _, s.applyReading_notices p range x⟩
  all_goals simp [s.applyReading_probes]

theorem State.handOver_carries (s : State) (m : Measurement) (outcome : Outcome) (nPlus : Nat) (nMinus : Option Nat) :
    s.Carries (s.handOver m outcome nPlus nMinus) := by
  cases ha : (s.probe m.probe).assignment with
  | none => simp only [State.handOver, ha]; exact .refl s
  | some a =>
    rw [State.handOver_of_assigned ha]
    exact s.applyReading_carries _ _ _

theorem State.endMeasurement_carries (s : State) (m : Measurement) (outcome : Outcome) (nPlus : Nat)
    (nMinus : Option Nat) : s.Carries (s.endMeasurement m outcome nPlus nMinus) :=
  (s.handOver_carries m outcome nPlus nMinus).trans (State.advanceScan_carries _ _)

theorem State.countEnds_carries (s : State) (n : Nat) : s.Carries (s.countEnds n) := by
  unfold State.countEnds
  split
  · split
    · unfold State.positiveCount
      split
      · exact s.endMeasurement_carries _ _ _ _
      · exact s.setScanner_carries _
      · exact s.setScanner_carries _
    · exact s.endMeasurement_carries _ _ _ _
    · exact .refl s
  · exact .refl s

theorem State.replaceRecord_carries (s : State) (p : Fin 48) (r : ProbeRecord) (hr : RecordReplaced (s.probe p) r) :
    s.Carries (s.replaceRecord p r) :=
  (s.setProbe_carries p r fun h => h.replaced hr).trans (State.discardFor_carries _ p)

/-- What is done to every record alike. -/
theorem State.mapProbes_carries (s : State) (f : ProbeRecord → ProbeRecord) (hf : ∀ r : ProbeRecord, r.Sound → (f r).Sound) :
    s.Carries { s with probes := mapTable f s.probes } :=
  .of_probes fun h => h.of_mapTable f hf rfl

theorem State.resetProbes_carries (s : State) : s.Carries s.resetProbes :=
  (s.mapProbes_carries _ fun _ h => h.tableReset).trans (State.discardAny_carries _)

theorem State.resetScanner_carries (s : State) : s.Carries s.resetScanner :=
  (s.mapProbes_carries (fun r => { r with rangeMemory := 1 }) fun _ h => h).trans (.of_same rfl rfl rfl rfl rfl rfl)

theorem State.putCurve_carries (s : State) (g : Fin 8) (c : Curve) : s.Carries (s.putCurve g c) :=
  (s.mapProbes_carries _ fun _ h => h.replaceGroup g).trans (.of_same rfl rfl rfl rfl rfl rfl)

/-! ### The requests of the run (R75, R76, R85, R99 to R103) -/

/-- R86, R104: a step entry leaves the run in its state. -/
theorem State.enterStepFrom_run_state (s : State) (i : Nat) (origin : StepRecord → ZoneId → Int) :
    (s.enterStepFrom i origin).run.state = s.run.state := by
  simp only [State.enterStepFrom, State.latchSpread]
  (repeat' split) <;> simp [Run.entering]

/-- R97: a reason is added to the set of a run in progress when its source is there; the run stays in progress. -/
theorem State.addReason_if_carries (s : State) (b : Bool) (r : HoldReason) (h : s.run.state.inProgress = true) :
    s.Carries (if b then s.addReason r else s) ∧ (if b then s.addReason r else s).run.state.inProgress = true := by
  split
  · refine ⟨s.addReason_carries r h, ?_⟩
    obtain ⟨-, heq⟩ | ⟨-, -, hstate⟩ := s.addReason_cases r
    · rw [heq]; exact h
    · rw [hstate]
      split
      · rfl
      · exact h
  · exact ⟨.refl s, h⟩

/-- R85: the run record of a start, before its first step is entered. -/
def Run.starting (r : Run) : Run :=
  { r with
    state := .running, reasons := .empty, completion := none, spread := none, equalizeEntered := false, restored := false
    totalMinutes := 0 }

theorem State.startRun_carries (s : State) (i : Nat) (hi : i < s.schedule.activeSteps.length) :
    s.Carries (s.startRun i) := by
  obtain ⟨u, hu⟩ : ∃ u, u = ({ s with run := s.run.starting } : State).queueNotice .runStarted i
      s.schedule.activeSteps.length := ⟨_, rfl⟩
  have hentered : s.Carries (u.enterStepFrom i fun x z => u.startOrigin z x) := by
    have hx : u.schedule.activeSteps[i]? = some s.schedule.activeSteps[i] := by
      rw [hu]; exact List.getElem?_eq_getElem hi
    have hstarted : s.Carries { s with run := s.run.starting.entering i } :=
      .of_run (fun _ => Run.Sound.started _ _ i) fun _ => ⟨le_rfl, Nat.zero_le _⟩
    have hqueued : s.Carries { u with run := u.run.entering i } := by
      rw [hu]; exact hstarted.trans (State.queueNotice_carries _ _ _ _)
    simp only [State.enterStepFrom, hx]
    exact hqueued.trans (State.enteredStep_carries _ i _ _)
  have hstate : (u.enterStepFrom i fun x z => u.startOrigin z x).run.state.inProgress = true := by
    rw [State.enterStepFrom_run_state, hu]; rfl
  obtain ⟨hsensor, hstate⟩ := State.addReason_if_carries _
    (u.enterStepFrom i fun x z => u.startOrigin z x).sensorFault .sensor hstate
  obtain ⟨hquorum, -⟩ := State.addReason_if_carries _ _ .quorum hstate
  subst hu
  exact ((hentered.trans hsensor).trans hquorum).trans (State.fansFollowRun_carries _)

theorem State.refreshOutputs_carries (s : State) : s.Carries s.refreshOutputs := .of_same rfl rfl rfl rfl rfl rfl

theorem State.restartRun_carries (s : State) (h : s.run.state = .safe) : s.Carries s.restartRun := by
  have hrestarted : s.Carries
      { s with run := { s.run with state := .held, reasons := s.run.reasons.put .host true } } :=
    .of_run_sameClocks (fun hr => Run.Sound.restarted hr h) rfl rfl
  exact (((hrestarted.trans (State.queueNotice_carries _ _ _ _)).trans (State.wantCheckpoint_carries _)).trans
    (State.refreshOutputs_carries _)).trans (State.fansFollowRun_carries _)

theorem State.resumeRun_carries (s : State) (h : s.run.state = .held) : s.Carries s.resumeRun :=
  (s.resumeIfEmpty_carries _ (by simp [h, RunState.inProgress]) fun hr => by simp [h] at hr).trans
    (State.wantCheckpoint_carries _)

theorem State.abortRun_carries (s : State) (h : s.run.state.inProgress = true) : s.Carries s.abortRun := by
  have hdropped : s.Carries { s with schedule := { s.schedule with adoption := none } } := .of_buffers (.inr rfl)
  have hended := hdropped.trans <| State.Carries.of_run_sameClocks
    (r := { s.run with state := .aborted, reasons := .empty, inBand := false, completion := s.run.completion })
    (fun hr => Run.Sound.ended hr h (.inr ⟨rfl, rfl⟩)) rfl rfl
  exact ((hended.trans (State.endedRun_carries _)).trans (State.queueNotice_carries _ _ _ _)).trans
    (State.wantCheckpoint_carries _)

theorem ScheduleStore.exchange_adoption (x : ScheduleStore) : x.exchange.adoption = x.adoption := by
  unfold ScheduleStore.exchange
  split <;> rfl

theorem ScheduleStore.setEdit_adoption (x : ScheduleStore) (steps : List StepRecord) :
    (x.setEdit steps).adoption = x.adoption := by
  unfold ScheduleStore.setEdit
  split <;> rfl

theorem State.adoptNow_carries (s : State) (target : Nat) (restart : Bool) (h : s.run.state.going = true) :
    s.Carries (s.adoptNow target restart) := by
  have hidle := RunState.ne_idle_of_inProgress (RunState.inProgress_of_going h)
  have hindex : s.Carries { s with schedule := s.schedule.exchange, run := { s.run with stepIndex := some target } } :=
    (State.Carries.of_buffers (.inl s.schedule.exchange_adoption)).trans
      (.of_run_sameClocks (fun hr => Run.Sound.withIndex hr hidle target) rfl rfl)
  simp only [State.adoptNow]
  refine State.Carries.trans (State.Carries.trans ?_ (State.queueNotice_carries _ _ _ _)) (State.wantCheckpoint_carries _)
  split
  · exact hindex
  · refine hindex.trans ?_
    split
    · exact (State.Carries.of_run (fun hr => Run.Sound.restartStep hr) fun hc => hc.of_total rfl (.inr rfl)).trans
        (.of_same (by simp) (by simp) (by simp) (by simp) (by simp) (by simp))
    · exact .of_same (by simp) (by simp) (by simp) (by simp) (by simp) (by simp)

theorem State.adopt_carries (s : State) (atStepEnd : Bool) (target : Nat) (restart : Bool)
    (h : adoptionRefused atStepEnd s.run.state = false) : s.Carries (s.adopt atStepEnd target restart) := by
  unfold State.adopt
  split
  · rename_i hend
    have hgoing : s.run.state.going = true := by simpa [adoptionRefused, hend] using h
    exact .of_schedule fun _ _ => RunState.inProgress_of_going hgoing
  · split
    · exact s.adoptNow_carries target restart ‹_›
    · exact .of_buffers (.inl s.schedule.exchange_adoption)

/-! ### The write of FAN_CONFIG (R141) -/

theorem State.takeCoastEnd_carries (s : State) : s.Carries s.takeCoastEnd :=
  .of_same (by simp) (by simp) (by simp) (by simp) (by simp) (by simp)

theorem State.writeFanConfig_carries (s : State) (window coast heat spray position : Nat) :
    s.Carries (s.writeFanConfig window coast heat spray position) := by
  have hset : s.Carries
      { s with
        settings :=
          { s.settings with
            startConfirmWindow := window, coastTime := coast, heatPeriod := heat, sprayPeriod := spray
            ventSafePosition := position } } := .of_same rfl rfl rfl rfl rfl rfl
  exact ((hset.trans (State.refreshOutputs_carries _)).trans (State.takeConfirmExpiry_carries _)).trans
    (State.takeCoastEnd_carries _)

/-! ### Clocks and sample sets (R87, R109) -/

theorem State.countSecond_carries (s : State) : s.Carries s.countSecond := by
  have hcounted (t : State) : t.Carries t.countMinute :=
    (State.Carries.of_run (r := t.run.countMinute t.clock.minute) (fun h => Run.Sound.countMinute h _)
      fun h => h.countMinute _).trans (.of_same (by simp) (by simp) (by simp) rfl (by simp) (by simp))
  simp only [State.countSecond]
  split
  · exact .of_same rfl rfl rfl rfl rfl rfl
  · refine State.Carries.trans ?_ (hcounted _)
    exact .of_same rfl rfl rfl rfl rfl rfl

theorem State.sampleZone_queues (s : State) (x : Zones ZoneSamples) (z : ZoneId) : s.Queues (s.sampleZone x z) := by
  have hnews (t : State) (channel : Nat) (news : ChannelNews) : t.Queues (t.noticeChannel channel news) := by
    cases news with
    | quiet => exact .refl t
    | fault cause => exact (State.Queues.refl t).then_notice _ _ _
    | recovered => exact (State.Queues.refl t).then_notice _ _ _
  refine .trans (.trans (.trans ?_ (hnews _ _ _)) (hnews _ _ _)) (hnews _ _ _)
  exact .of_same rfl rfl

theorem State.sampleChannels_queues (s : State) (x : Zones ZoneSamples) : s.Queues (s.sampleChannels x) :=
  List.foldlRecOn (motive := s.Queues) _ _ (.refl s) fun _ ht z _ => ht.trans (State.sampleZone_queues _ x z)

theorem State.takeSet_carries (s : State) (x : Zones ZoneSamples) : s.Carries (s.takeSet x) := by
  have hsampled : s.Carries (({ s with sampler := s.sampler.takeMark } : State).sampleChannels x) := by
    refine State.Carries.trans ?_ ((State.sampleChannels_queues _ x).carries ?_ ?_ ?_ ?_ ?_)
    · exact .of_same rfl rfl rfl rfl rfl rfl
    all_goals simp
  refine State.Carries.trans (State.Carries.trans (hsampled.trans ?_) (State.judgeReason_carries _ _ _))
    (State.testAtSet_carries _)
  exact .of_same (by simp) (by simp) (by simp) (by simp) (by simp) (by simp)

/-! ### The settings memory, the supply and the load (R106, R171 to R177) -/

theorem State.finishEvent_carries (s : State) : s.Carries s.finishEvent := by
  obtain heq | ⟨-, -, heq⟩ := s.finishEvent_cases <;> rw [heq]
  · exact .refl s
  · exact (State.Carries.of_memory fun h => h.2.requestCheckpoint (State.checkpointNow_clocks h.1)).trans
      (State.withDue_carries _ _)

theorem State.endCheckpointWrite_carries (s : State) (result : CheckpointEnd) :
    s.Carries (s.endCheckpointWrite result) := by
  unfold State.endCheckpointWrite
  split
  · rename_i hop
    exact .of_memory fun h => (h.2.withCheckpointEnd hop result).startNext
  all_goals exact .refl s

theorem State.endSaveWrite_carries (s : State) (result : SaveEnd) : s.Carries (s.endSaveWrite result) := by
  simp only [State.endSaveWrite]
  split
  · rename_i contents hop
    have hwritten : s.Carries
        { s with
          memory :=
            ({ s.memory with settingsRegion := saveEndRegion contents s.memory.settingsRegion result }).startNext } :=
      .of_memory fun h => Memory.ClocksAgree.startNext (m := { s.memory with settingsRegion := _ }) h.2
    split
    · exact hwritten
    · exact hwritten.trans (State.queueNotice_carries _ _ _ _)
  all_goals exact .refl s

/-- R171: the blocks at their power-on values, with a ring and a memory that keep their conditions. -/
theorem State.Carries.of_powerOn {s t : State} (hn : t.notices = []) (hh : s.history.frames.length ≤ 96 →
      t.history.frames.length ≤ 96) (hp : t.probes = Vector.replicate 48 .cleared) (hr : t.run = .cleared)
    (ha : t.schedule = .powerOn) (hm : s.memory.ClocksAgree → t.memory.ClocksAgree) : s.Carries t := by
  refine ⟨fun h => ?_, fun _ => ?_, fun h => ?_⟩
  · rw [State.collectionsSound_iff] at h ⊢
    exact ⟨⟨by simp [hn], hh h.1.2⟩, State.probesSound_of_cleared hp⟩
  · rw [State.runSound_iff, hr, ha]; exact Run.cleared_sound
  · rw [State.ClocksSound, hr]; exact ⟨⟨le_rfl, Nat.zero_le _⟩, hm h.2⟩

theorem State.applySettings_carries (s : State) (x : SettingsLoad) : s.Carries (s.applySettings x) := by
  cases x with
  | defaulted cause => exact s.queueNotice_carries _ _ _
  | applied body =>
    refine State.Carries.trans (.of_probes (x := mapTable SavedProbe.record body.probes) fun _ p => ?_)
      (.of_same rfl rfl rfl rfl rfl rfl)
    rw [State.probe, getTable_mapTable]
    exact SavedProbe.record_sound _

theorem State.restoreRun_carries (s : State) (b : CheckpointBody) (hb : s.memory.checkpointRegion = .run b) :
    s.Carries (s.restoreRun b) := by
  have hrun : s.Carries
      { s with run := b.run, schedule := { bufferA := b.schedule, bufferB := [], active := .a, adoption := none } } :=
    ⟨fun h => h, fun _ => b.run_sound _, fun h => ⟨h.2.1 b hb, h.2⟩⟩
  simp only [State.restoreRun]
  refine State.Carries.trans ?_ (State.queueNotice_carries _ _ _ _)
  split
  · exact hrun
  · exact hrun.trans (.of_same (by simp) (by simp) (by simp) (by simp) (by simp) (by simp))

theorem State.applyRun_carries (s : State) (x : RunLoad) (hx : ∀ b, x = .restored b → s.memory.checkpointRegion = .run b) :
    s.Carries (s.applyRun x) := by
  cases x with
  | idle => exact .refl s
  | lost => exact s.queueNotice_carries _ _ _
  | restored b => exact s.restoreRun_carries b (hx b rfl)

theorem State.takeReadyAction_carries (s : State) (a : ReadyAction) : s.Carries (s.takeReadyAction a) := by
  cases a with
  | scanStart => exact s.startScan_carries
  | trip i => exact s.trip_carries i
  | fanStart => exact s.fansFollowRun_carries

theorem State.endLoad_carries (s : State) (settingsReads checkpointReads : Bool) :
    s.Carries (s.endLoad settingsReads checkpointReads) := by
  have hrun := (s.applySettings_carries (settingsLoad s.straps.skipSettings settingsReads s.memory.settingsRegion)).trans
    (State.applyRun_carries _
      (runLoad (settingsLoad s.straps.skipSettings settingsReads s.memory.settingsRegion) checkpointReads
        s.memory.checkpointRegion) fun b hb => by simpa using runLoad_restored hb)
  have hmemory := hrun.trans (.of_memory (m := s.memory.startNext) fun h => by simpa using h.2.startNext)
  refine State.reachReady_keeps (P := s.Carries) _ (fun n => ?_) fun t a ht => ht.trans (t.takeReadyAction_carries a)
  exact hmemory.trans (.of_same (by simp) (by simp) (by simp) (by simp) (by simp) (by simp))

end Sys2Proof.Machine
end

section
/-! EveryStepKeepsCollectionsAndRun: each operation of the commands carries the conditions over. -/

namespace Sys2Proof.Machine

/-- R41, R45, R155, R159, R82, R87, R65: every operation of the commands carries the conditions over from the state in
which the step began. -/
theorem carries_kept (before : State) : CommandsKeep before.Carries := by
  constructor
  case toRequestsKeep =>
    constructor
    case replaceRecord => exact fun s h _ p r hr => h.trans (s.replaceRecord_carries p r hr)
    case unblock => exact fun s h _ p hp => h.trans (s.setProbe_carries p _ fun hs => hs.renew (by simp [hp]))
    case resetProbes => exact fun s h _ => h.trans s.resetProbes_carries
    case scanConfig => exact fun s h _ a b c => h.trans (s.writeScanConfig_carries a b c)
    case scanNow => exact fun s h _ _ => h.trans s.startScan_carries
    case resetScanner => exact fun s h _ => h.trans s.resetScanner_carries
    case putCurve => exact fun s h _ g c => h.trans (s.putCurve_carries g c)
    case setEdit => exact fun s h _ x => h.trans (.of_buffers (.inl (s.schedule.setEdit_adoption x)))
    case cancelAdoption => exact fun s h _ => h.trans (.of_buffers (.inr rfl))
    case adopt => exact fun s h _ b n r _ hrefused _ _ => h.trans (s.adopt_carries b n r hrefused)
    case runStart => exact fun s h _ i _ hi _ _ => h.trans (s.startRun_carries i hi)
    case runHold =>
      exact fun s h _ hg => (h.trans (s.addReason_carries .host (RunState.inProgress_of_going hg))).trans
        (State.wantCheckpoint_carries _)
    case runResume => exact fun s h _ hr => h.trans (s.resumeRun_carries hr)
    case runRestart => exact fun s h _ hr _ => h.trans (s.restartRun_carries hr)
    case runAbort => exact fun s h _ hp => h.trans (s.abortRun_carries hp)
    case switchHeat => exact fun s h _ z b v _ => h.trans (.of_same rfl rfl rfl rfl rfl rfl)
    case switchHumidity => exact fun s h _ z b v _ => h.trans (.of_same rfl rfl rfl rfl rfl rfl)
    case interlockConfig => exact fun s h _ i _ _ _ _ => h.trans (s.configureInput_carries i _)
    case clearLatch => exact fun s h _ i _ _ => h.trans (s.clearLatch_carries i)
    case readFrame =>
      refine fun s h _ f rest hframes => h.trans (.of_bounded (fun hb => ⟨hb.1, ?_⟩) rfl rfl rfl rfl)
      have hlength := hb.2
      rw [hframes, List.length_cons] at hlength
      exact (Nat.le_succ _).trans hlength
    case resetHistory => exact fun s h _ => h.trans (.of_bounded (fun hb => ⟨hb.1, Nat.zero_le _⟩) rfl rfl rfl rfl)
    case dropNotices =>
      refine fun s h _ n => h.trans (.of_bounded (fun hb => ⟨?_, hb.2⟩) rfl rfl rfl rfl)
      rw [List.length_drop]
      exact (Nat.sub_le _ _).trans hb.1
    case requestSave => exact fun s h _ _ => h.trans (.of_memory fun hc => hc.2.requestSave _)
    case fanConfig => exact fun s h _ window coast heat spray position _ _ _ _ _ => h.trans (s.writeFanConfig_carries ..)
    all_goals
      intro s h
      intros
      exact h.trans (.of_same (by simp) (by simp) (by simp) (by simp) (by simp) (by simp))
  case finishEvent => exact fun s h => h.trans s.finishEvent_carries
  case takeHours => exact fun s h => h.trans s.takeHours_carries
  case takeSettle => exact fun s h => h.trans s.takeSettle_carries
  case takeTimeout => exact fun s h => h.trans s.takeTimeout_carries
  case takeConfirmExpiry => exact fun s h => h.trans s.takeConfirmExpiry_carries
  case takeScanExpiry => exact fun s h => h.trans s.takeScanExpiry_carries
  case restartNow => exact fun s h _ => h.trans (.of_powerOn rfl id rfl rfl rfl fun hm => hm.restart)
  case powerOn =>
    exact fun s h _ _ => h.trans (.of_powerOn rfl (fun _ => Nat.zero_le _) rfl rfl rfl fun hm => hm.torn _ (by simp))
  case powerLoss =>
    exact fun s h t => h.trans (.of_powerOn rfl (fun _ => Nat.zero_le _) rfl rfl rfl fun hm => hm.torn t (by simp))
  case loadEnd => exact fun s h _ _ a b => h.trans (s.endLoad_carries a b)
  case checkpointWriteEnd => exact fun s h r => h.trans (s.endCheckpointWrite_carries r)
  case saveWriteEnd => exact fun s h r => h.trans (s.endSaveWrite_carries r)
  case countSecond => exact fun s h => h.trans s.countSecond_carries
  case takeSet => exact fun s h _ _ x => h.trans (s.takeSet_carries x)
  case countEnds => exact fun s h n => h.trans (s.countEnds_carries n)
  case changeLive => exact fun s h i closed => h.trans (s.changeLive_carries i closed)
  all_goals
    intro s h
    intros
    exact h.trans (.of_same (by simp) (by simp) (by simp) (by simp) (by simp) (by simp))

/-- Settles O55: each operation of the commands carries the bounds of the collections, the agreements of the run record and
those of its clocks over, so every step does. -/
theorem everyStepKeepsCollectionsAndRun : Obligations.EveryStepKeepsCollectionsAndRun := by
  unfold Obligations.EveryStepKeepsCollectionsAndRun
  intro s t ht
  obtain ⟨hcollections, hrun, hclocks⟩ := (carries_kept s).step (State.Carries.refl s) ht
  exact ⟨hcollections, hrun, hclocks⟩

end Sys2Proof.Machine
end

section
/-! SUPPORT. The value list and its filter (R45), and a reading applied to a record, class by class (R44 to R50). -/

namespace Sys2Proof.Machine

/-! ### The value list (R45) -/

/-- R45: an append drops what exceeds three, oldest first. -/
theorem appendValue_eq_drop {values : List Nat} (h : values.length ≤ 3) (mc : Nat) :
    appendValue values mc = (values ++ [mc]).drop (values.length + 1 - 3) := by
  unfold appendValue
  split
  · rw [show values.length + 1 - 3 = 0 by omega, List.drop_zero]
  · rw [show values.length + 1 - 3 = 1 by omega]

theorem appendValue_getLast {values : List Nat} (h : values.length ≤ 3) (mc : Nat) :
    (appendValue values mc).getLast? = some mc := by
  rw [appendValue_eq_drop h, List.getLast?_drop]
  simp

theorem median_mem (a b c : Nat) : median a b c ∈ [a, b, c] := by
  simp only [median, List.mem_cons, List.not_mem_nil, or_false]
  omega

/-- Of three values at most one meets a condition that two of them fail. -/
theorem filter_triple_length {p : Nat → Bool} {a b c : Nat}
    (h : p a = false ∧ p b = false ∨ p a = false ∧ p c = false ∨ p b = false ∧ p c = false) :
    ([a, b, c].filter p).length ≤ 1 := by
  obtain ⟨h, h'⟩ | ⟨h, h'⟩ | ⟨h, h'⟩ := h
  · cases hc : p c <;> simp [h, h', hc]
  · cases hb : p b <;> simp [h, h', hb]
  · cases ha : p a <;> simp [h, h', ha]

/-- R45: at most one of the three lies below the median. -/
theorem median_filter_lt (a b c : Nat) : ([a, b, c].filter (· < median a b c)).length ≤ 1 := by
  refine filter_triple_length ?_
  simp only [decide_eq_false_iff_not]
  unfold median
  omega

/-- R45: at most one of the three lies above the median. -/
theorem median_filter_gt (a b c : Nat) : ([a, b, c].filter (median a b c < ·)).length ≤ 1 := by
  refine filter_triple_length ?_
  simp only [decide_eq_false_iff_not]
  unfold median
  omega

/-! ### A reading applied (R44 to R50) -/

/-- R44: what every reading does to a record, whatever its class: it is the last one, and its range is remembered. -/
def ProbeRecord.read (r : ProbeRecord) (range : Fin 4) (x : Reading) : ProbeRecord :=
  { r with last := some x, rangeMemory := range }

section
variable {r : ProbeRecord} {limit : Nat} {range : Fin 4} {x : Reading}

theorem ProbeRecord.apply_of_valid {mc : Nat} (h : x.validMc = some mc) :
    r.apply limit range x = (r.read range x).takeValid limit mc := by
  simp only [ProbeRecord.apply, h]; rfl

theorem Reading.validMc_of_fault {k : FaultKind} (h : x.kind.faultKind = some k) : x.validMc = none := by
  cases hk : x.kind <;> simp [hk, ReadingKind.faultKind] at h <;> simp [Reading.validMc, hk]

theorem ProbeRecord.apply_of_fault {k : FaultKind} (h : x.kind.faultKind = some k) :
    r.apply limit range x = (r.read range x).takeFault k := by
  simp only [ProbeRecord.apply, Reading.validMc_of_fault h, h]; rfl

/-- R50: NO_TEMPERATURE is neither valid nor a fault. -/
theorem ProbeRecord.apply_of_noTemperature (h : x.kind = .noTemperature) : r.apply limit range x = r.read range x := by
  simp only [ProbeRecord.apply, Reading.validMc, ReadingKind.faultKind, h]; rfl

/-- R50: a FAULTED record keeps its state whatever it reads. -/
theorem ProbeRecord.apply_of_faulted (h : r.state = .faulted) : r.apply limit range x = r.read range x := by
  have hvalid (mc : Nat) : (r.read range x).takeValid limit mc = r.read range x := by
    simp only [ProbeRecord.takeValid, ProbeRecord.read, h]
  have hfault (k : FaultKind) : (r.read range x).takeFault k = r.read range x := by
    simp only [ProbeRecord.takeFault, ProbeRecord.read, h]
  unfold ProbeRecord.apply
  split
  · exact hvalid _
  · exact hfault _
  · rfl

end

/-- R47: the jump test in both directions. -/
theorem isJump_some (limit f mc : Nat) :
    isJump limit (some f) mc = true ↔ (mc : Int) - f > limit ∨ (f : Int) - mc > limit := by
  simp only [isJump, Option.any_some, decide_eq_true_eq]
  omega

section
variable {r : ProbeRecord} {k : FaultKind}

theorem ProbeRecord.takeFault_of_good (h : r.state = .good) :
    r.takeFault k = { r with faultCount := 1, state := .suspect } := by
  simp only [ProbeRecord.takeFault, h]

theorem ProbeRecord.takeFault_of_below (h : r.state = .new ∨ r.state = .suspect) (hf : r.faultCount < 2) :
    r.takeFault k = { r with faultCount := r.faultCount + 1 } := by
  have hlt : r.faultCount + 1 < 3 := by omega
  obtain h | h := h <;> simp only [ProbeRecord.takeFault, h, if_pos hlt]

/-- R46, R48, R49: the third fault reading in a row. -/
theorem ProbeRecord.takeFault_of_third (h : r.state = .new ∨ r.state = .suspect) (hf : r.faultCount = 2) :
    r.takeFault k = { r with faultCount := 3, state := .faulted, faultKind := some k } := by
  obtain h | h := h <;> simp [ProbeRecord.takeFault, ProbeRecord.enterFaulted, h, hf]

end

section
variable {r : ProbeRecord} {limit mc : Nat}

theorem ProbeRecord.takeValid_of_new (h : r.state = .new) :
    r.takeValid limit mc =
      { r with
        faultCount := 0, values := appendValue r.values mc
        state := if (appendValue r.values mc).length < 3 then .new else .good } := by
  simp only [ProbeRecord.takeValid, h]

theorem ProbeRecord.takeValid_of_noJump (h : r.state = .good ∨ r.state = .suspect)
    (hj : isJump limit r.filtered mc = false) :
    r.takeValid limit mc =
      { r with jumpCount := 0, values := appendValue r.values mc, faultCount := 0, state := .good } := by
  obtain h | h := h <;> simp [ProbeRecord.takeValid, h, hj]

theorem ProbeRecord.takeValid_of_jump (h : r.state = .good ∨ r.state = .suspect) (hj : isJump limit r.filtered mc = true)
    (hc : r.jumpCount < 2) :
    r.takeValid limit mc =
      { r with
        jumpCount := r.jumpCount + 1, values := appendValue r.values mc, faultCount := 0, state := .good } := by
  have hlt : r.jumpCount + 1 < 3 := by omega
  obtain h | h := h <;> simp [ProbeRecord.takeValid, h, hj, hlt]

/-- R47, R49: the third jump in a row. -/
theorem ProbeRecord.takeValid_of_thirdJump (h : r.state = .good ∨ r.state = .suspect)
    (hj : isJump limit r.filtered mc = true) (hc : r.jumpCount = 2) :
    r.takeValid limit mc = { r with jumpCount := 3, state := .faulted, faultKind := some .erratic } := by
  obtain h | h := h <;> simp [ProbeRecord.takeValid, ProbeRecord.enterFaulted, h, hj, hc]

end

end Sys2Proof.Machine
end

section
/-! ReadingsAreFilteredAndApplied. -/

namespace Sys2Proof.Machine

/-- Settles O20: the value list and its median, and each class of reading in each state of a record. -/
theorem readingsAreFilteredAndApplied : Obligations.ReadingsAreFilteredAndApplied := by
  unfold Obligations.ReadingsAreFilteredAndApplied
  refine ⟨⟨fun values mc h => ?_, rfl, fun _ => rfl, fun _ _ => rfl, fun a b c => ?_⟩, fun r limit range x => ?_⟩
  · exact ⟨appendValue_length values mc h, appendValue_getLast h mc, appendValue_eq_drop h mc⟩
  · exact ⟨median a b c, rfl, median_mem a b c, median_filter_lt a b c, median_filter_gt a b c⟩
  · refine ⟨fun h => ProbeRecord.apply_of_noTemperature h, fun h => ProbeRecord.apply_of_faulted h, fun k hk => ?_,
      fun mc hmc => ?_⟩
    · rw [ProbeRecord.apply_of_fault hk]
      exact ⟨fun h => ProbeRecord.takeFault_of_good h, fun h hf => ProbeRecord.takeFault_of_below h hf,
        fun h hf => ProbeRecord.takeFault_of_third h hf⟩
    · rw [ProbeRecord.apply_of_valid hmc]
      refine ⟨fun h => ProbeRecord.takeValid_of_new h, fun h f hf => ?_⟩
      have hjump : isJump limit (r.read range x).filtered mc = true ↔ (mc : Int) - f > limit ∨ (f : Int) - mc > limit := by
        rw [← isJump_some, ← hf]; rfl
      refine ⟨fun habove hbelow => ?_, fun hj hc => ?_, fun hj hc => ?_⟩
      · refine ProbeRecord.takeValid_of_noJump h (Bool.eq_false_iff.2 fun hj => ?_)
        have := hjump.1 hj
        omega
      · exact ProbeRecord.takeValid_of_jump h (hjump.2 hj) hc
      · exact ProbeRecord.takeValid_of_thirdJump h (hjump.2 hj) hc

end Sys2Proof.Machine
end

section
/-! SUPPORT. PROBE_CONFIG (R60): the handler's answers, and the bytes of the four settings (R169). -/

namespace Sys2Proof.Machine

theorem byte1_toNat (b : Byte) : byte1 b.toNat = [b] := by
  simp [byte1]

/-- R169: the low byte of a pair is the field's own byte. -/
theorem byte1_read2 (lo hi : Byte) : byte1 (read2 lo hi) = [lo] := by
  have hlow : BitVec.ofNat 8 (read2 lo hi) = lo := BitVec.eq_of_toNat_eq (by
    have := lo.isLt
    rw [BitVec.toNat_ofNat, read2]
    omega)
  rw [byte1, hlow]

/-- R60: the checks of the first three fields. -/
def probeConfigChecks (w q j0 j1 : Byte) : List (Nat × Bool) :=
  [(1, inRange 1 16 w.toNat), (2, inRange 1 48 q.toNat), (3, inRange 10 200 (read2 j0 j1))]

/-- R59, R60: the settings with the four that PROBE_CONFIG writes. -/
def State.withControl (s : State) (w q jumpLimit : Nat) (quorumAction : QuorumAction) : State :=
  { s with settings := { s.settings with w, q, jumpLimit, quorumAction } }

/-- R60: the quorum action that a byte of 0 or 1 names. -/
def quorumActionOf (a : Byte) : QuorumAction := if a = 0 then .hold else .continue

theorem quorumActionOfNumber_of_le {a : Byte} (h : a.toNat ≤ 1) :
    quorumActionOfNumber a.toNat = some (quorumActionOf a) := by
  obtain rfl | rfl : a = 0 ∨ a = 1 := by bv_omega
  · rfl
  · rfl

theorem quorumActionOf_code {a : Byte} (h : a.toNat ≤ 1) : byte1 (quorumActionOf a).code = [a] := by
  obtain rfl | rfl : a = 0 ∨ a = 1 := by bv_omega
  · rfl
  · rfl

theorem quorumActionOfNumber_of_lt {n : Nat} (h : 1 < n) : quorumActionOfNumber n = none := by
  obtain ⟨k, rfl⟩ := Nat.exists_eq_add_of_le' h
  rfl

theorem handleProbeConfig_badLength (s : State) {p : List Byte} (h0 : p.length ≠ 0) (h5 : p.length ≠ 5) :
    handleProbeConfig p s = (s, .of .badLength s.probeConfigPart) := by
  match p with
  | [] => exact absurd rfl h0
  | [_] | [_, _] | [_, _, _] | [_, _, _, _] | _ :: _ :: _ :: _ :: _ :: _ :: _ => rfl
  | [_, _, _, _, _] => exact absurd rfl h5

section
variable (s : State) {w q j0 j1 a : Byte}

theorem handleProbeConfig_badField {field : Nat} (h : firstBad (probeConfigChecks w q j0 j1) = some field) :
    handleProbeConfig [w, q, j0, j1, a] s = (s, .badField field s.probeConfigPart) := by
  unfold probeConfigChecks at h
  simp only [handleProbeConfig, h]

theorem handleProbeConfig_badAction (h : firstBad (probeConfigChecks w q j0 j1) = none) (ha : 1 < a.toNat) :
    handleProbeConfig [w, q, j0, j1, a] s = (s, .badField 4 s.probeConfigPart) := by
  unfold probeConfigChecks at h
  simp only [handleProbeConfig, h, quorumActionOfNumber_of_lt ha]

theorem handleProbeConfig_write (h : firstBad (probeConfigChecks w q j0 j1) = none) (ha : a.toNat ≤ 1) :
    handleProbeConfig [w, q, j0, j1, a] s =
      (s.withControl w.toNat q.toNat (read2 j0 j1) (quorumActionOf a), .of .ok [w, q, j0, a]) := by
  have hpart : (s.withControl w.toNat q.toNat (read2 j0 j1) (quorumActionOf a)).probeConfigPart = [w, q, j0, a] := by
    simp only [State.probeConfigPart, State.withControl, byte1_toNat, byte1_read2, quorumActionOf_code ha]
    rfl
  rw [← hpart]
  unfold probeConfigChecks at h
  simp only [handleProbeConfig, h, quorumActionOfNumber_of_le ha]
  rfl

end

end Sys2Proof.Machine
end

section
/-! ProbeConfigIsCheckedWhole. -/

namespace Sys2Proof.Machine

/-- R60: a write with a field out of range is served with the number of the first, and changes nothing. -/
theorem probeConfig_refused {s : State} {tag w q j0 j1 a : Byte} (h : s.Receptive) {field : Nat}
    (hf : firstBad (probeConfigChecks w q j0 j1) = some field) :
    ServedUnchanged (.probeConfig tag [w, q, j0, j1, a]) s (.badField field s.probeConfigPart) :=
  servedUnchanged_of_handled h rfl (by simp) rfl (handleProbeConfig_badField s hf)

/-- Settles O45: both forms of PROBE_CONFIG, each field that may be refused, and the write. -/
theorem probeConfigIsCheckedWhole : Obligations.ProbeConfigIsCheckedWhole := by
  unfold Obligations.ProbeConfigIsCheckedWhole
  intro s tag w q j0 j1 a h
  have hok (hw : 1 ≤ w.toNat ∧ w.toNat ≤ 16) (hq : 1 ≤ q.toNat ∧ q.toNat ≤ 48)
      (hj : 10 ≤ read2 j0 j1 ∧ read2 j0 j1 ≤ 200) : firstBad (probeConfigChecks w q j0 j1) = none := by
    simp [firstBad_eq_none_iff, probeConfigChecks, inRange_eq_true hw, inRange_eq_true hq, inRange_eq_true hj]
  refine ⟨?_, fun hw => ?_, fun hw hq => ?_, fun hw hq hj => ?_, fun hw hq hj ha => ?_, fun hw hq hj ha => ?_,
    fun p h0 h5 => ?_⟩
  · exact servedUnchanged_of_handled (c := .probeConfig tag []) h rfl (by simp) rfl rfl
  · exact probeConfig_refused h (field := 1) (by simp [firstBad, probeConfigChecks, inRange_eq_false hw])
  · exact probeConfig_refused h (field := 2)
      (by simp [firstBad, probeConfigChecks, inRange_eq_true hw, inRange_eq_false hq])
  · have hfield : inRange 10 200 (read2 j0 j1) = false := inRange_eq_false hj
    exact probeConfig_refused h (field := 3)
      (by simp [firstBad, probeConfigChecks, inRange_eq_true hw, inRange_eq_true hq, hfield])
  · exact servedUnchanged_of_handled (c := .probeConfig tag [w, q, j0, j1, a]) h rfl (by simp) rfl
      (handleProbeConfig_badAction s (hok hw hq hj) ha)
  · have hserved := served_of_handled (c := .probeConfig tag [w, q, j0, j1, a]) h rfl (by simp) rfl
      (handleProbeConfig_write s (hok hw hq hj) ha) rfl
    rw [State.finishEvent_answer (by exact h.1.due_none)] at hserved
    exact ⟨_, hserved, rfl⟩
  · exact servedUnchanged_of_handled (c := .probeConfig tag p) h rfl (by simp) rfl (handleProbeConfig_badLength s h0 h5)

end Sys2Proof.Machine
end

section
/-! SUPPORT. The probes of a publication: which are eligible, the entries, and the order of R57 (R56, R57). -/

namespace Sys2Proof.Machine

/-! ### Eligible probes and entries (R56) -/

theorem mem_allProbes (p : Fin 48) : p ∈ allProbes := List.mem_finRange p

/-- The probes in ascending number. -/
theorem allProbes_pairwise : allProbes.Pairwise (· < ·) := by
  rw [allProbes, List.pairwise_iff_getElem]
  intro i j hi hj hij
  simpa using hij

theorem ProbeRecord.eligible_iff (r : ProbeRecord) :
    r.eligible = true ↔
      (∃ a, r.assignment = some a ∧ a.role = .control) ∧ (r.state = .good ∨ r.state = .suspect) := by
  simp [ProbeRecord.eligible, Option.any_eq_true]

/-- R56: the eligible probes, each with its filtered MC. -/
theorem State.mem_eligibleProbes (s : State) (q : Fin 48) (mc : Nat) :
    (q, mc) ∈ s.eligibleProbes ↔ (s.probe q).eligible = true ∧ (s.probe q).filtered = some mc := by
  simp only [State.eligibleProbes, List.mem_filterMap]
  constructor
  · rintro ⟨p, -, hp⟩
    split at hp
    · rename_i he
      obtain ⟨f, hf, heq⟩ := Option.map_eq_some_iff.1 hp
      cases heq
      exact ⟨he, hf⟩
    · cases hp
  · rintro ⟨he, hf⟩
    exact ⟨q, mem_allProbes q, by simp [he, hf]⟩

/-- R56: the eligible probes stand in ascending number. -/
theorem State.eligibleProbes_pairwise (s : State) : s.eligibleProbes.Pairwise fun x y => x.1 < y.1 := by
  refine allProbes_pairwise.filterMap _ fun p q hpq x hx y hy => ?_
  have hkeeps {p : Fin 48} {x : Fin 48 × Nat}
      (h : (if (s.probe p).eligible then (s.probe p).filtered.map fun f => (p, f) else none) = some x) : x.1 = p := by
    split at h
    · obtain ⟨f, -, rfl⟩ := Option.map_eq_some_iff.1 h
      rfl
    · cases h
  rw [hkeeps hx, hkeeps hy]
  exact hpq

/-- R56: an entry for every assigned probe. -/
theorem State.mem_probeEntries (s : State) (e : ProbeEntry) :
    e ∈ s.probeEntries ↔
      (s.probe e.probe).assignment.isSome = true ∧ e.state = (s.probe e.probe).state ∧
        e.filtered = (s.probe e.probe).filtered := by
  simp only [State.probeEntries, List.mem_filterMap]
  constructor
  · rintro ⟨p, -, hp⟩
    split at hp
    · cases hp
      exact ⟨‹_›, rfl, rfl⟩
    · cases hp
  · rintro ⟨ha, hs, hf⟩
    refine ⟨e.probe, mem_allProbes _, ?_⟩
    rw [if_pos ha, ← hs, ← hf]

theorem State.probeEntries_pairwise (s : State) : s.probeEntries.Pairwise fun x y => x.probe < y.probe := by
  refine allProbes_pairwise.filterMap _ fun p q hpq x hx y hy => ?_
  split at hx <;> cases hx
  split at hy <;> cases hy
  exact hpq

/-! ### The order of R57 -/

/-- R57: a probe before another: a higher filtered MC, or the same and a lower number. -/
def Before (x y : Fin 48 × Nat) : Prop := y.2 < x.2 ∨ x.2 = y.2 ∧ x.1 < y.1

theorem placeByMc_perm (x : Fin 48 × Nat) (ys : List (Fin 48 × Nat)) : (placeByMc x ys).Perm (x :: ys) := by
  induction ys with
  | nil => exact .refl _
  | cons y rest ih =>
    unfold placeByMc
    split
    · exact .refl _
    · exact (ih.cons y).trans (.swap x y rest)

theorem orderByMc_perm (xs : List (Fin 48 × Nat)) : (orderByMc xs).Perm xs := by
  induction xs with
  | nil => exact .refl _
  | cons x rest ih => exact (placeByMc_perm x _).trans (ih.cons x)

/-- R57: a probe of a number below all others is placed before the first whose MC is not higher. -/
theorem placeByMc_pairwise {x : Fin 48 × Nat} {ys : List (Fin 48 × Nat)} (h : ys.Pairwise Before)
    (hx : ∀ y ∈ ys, x.1 < y.1) : (placeByMc x ys).Pairwise Before := by
  induction ys with
  | nil => simp [placeByMc]
  | cons y rest ih =>
    obtain ⟨hy, hrest⟩ := List.pairwise_cons.1 h
    have hxy := hx y (by simp)
    unfold placeByMc
    split
    · rename_i hle
      have hbefore : Before x y := hle.lt_or_eq.imp id fun heq => ⟨heq.symm, hxy⟩
      refine List.pairwise_cons.2 ⟨fun z hz => ?_, h⟩
      obtain rfl | hz := List.mem_cons.1 hz
      · exact hbefore
      · have hxz := hx z (by simp [hz])
        have hyz := hy z hz
        unfold Before at hbefore hyz ⊢
        omega
    · rename_i hlt
      refine List.pairwise_cons.2 ⟨fun z hz => ?_, ih hrest fun z hz => hx z (by simp [hz])⟩
      obtain rfl | hz := List.mem_cons.1 ((placeByMc_perm x rest).mem_iff.1 hz)
      · exact .inl (Nat.lt_of_not_le hlt)
      · exact hy z hz

theorem orderByMc_pairwise {xs : List (Fin 48 × Nat)} (h : xs.Pairwise fun x y => x.1 < y.1) :
    (orderByMc xs).Pairwise Before := by
  induction xs with
  | nil => exact .nil
  | cons x rest ih =>
    obtain ⟨hx, hrest⟩ := List.pairwise_cons.1 h
    exact placeByMc_pairwise (ih hrest) fun y hy => hx y ((orderByMc_perm rest).mem_iff.1 hy)

/-! ### The figures (R57) -/

theorem mcSum_perm {xs ys : List (Fin 48 × Nat)} (h : xs.Perm ys) : mcSum xs = mcSum ys := (h.map _).sum_eq

/-- 5.2: the rounded mean of some MC values lies between two bounds of theirs. -/
theorem roundHalfUp_mcSum_mem {xs : List (Fin 48 × Nat)} {lo hi : Nat} (hne : xs ≠ [])
    (h : ∀ x ∈ xs, lo ≤ x.2 ∧ x.2 ≤ hi) :
    lo ≤ roundHalfUp (mcSum xs) xs.length ∧ roundHalfUp (mcSum xs) xs.length ≤ hi := by
  have hlength : 0 < xs.length := List.length_pos_iff.2 hne
  have hlo : xs.length * lo ≤ mcSum xs := by
    have := List.card_nsmul_le_sum (xs.map (·.2)) lo (by simpa using fun b a hb => (h (a, b) hb).1)
    simpa [mcSum] using this
  have hhi : mcSum xs ≤ xs.length * hi := by
    have := List.sum_le_card_nsmul (xs.map (·.2)) hi (by simpa using fun b a hb => (h (a, b) hb).2)
    simpa [mcSum] using this
  unfold roundHalfUp
  constructor
  · rw [Nat.le_div_iff_mul_le (by omega)]
    nlinarith
  · refine Nat.le_of_lt_succ ((Nat.div_lt_iff_lt_mul (by omega)).2 ?_)
    nlinarith

theorem figuresOf_eq {w : Nat} {order : List (Fin 48 × Nat)} {first last : Fin 48 × Nat} (hf : order.head? = some first)
    (hl : order.getLast? = some last) :
    figuresOf w order =
      some
        { controllingSet := (order.take w).map (·.1)
          controlling := roundHalfUp (mcSum (order.take w)) (order.take w).length, wettest := first.2, driest := last.2
          mean := roundHalfUp (mcSum order) order.length } := by
  simp only [figuresOf, hf, hl]

/-- R57: the first of the order is the wettest. -/
theorem Before.pairwise_head {order : List (Fin 48 × Nat)} {first : Fin 48 × Nat} (h : order.Pairwise Before)
    (hf : order.head? = some first) : ∀ x ∈ order, x.2 ≤ first.2 := by
  cases order with
  | nil => cases hf
  | cons y rest =>
    cases hf
    intro x hx
    obtain rfl | hx := List.mem_cons.1 hx
    · exact le_rfl
    · exact ((List.pairwise_cons.1 h).1 x hx).elim le_of_lt fun heq => heq.1.ge

/-- R57: the last of the order is the driest. -/
theorem Before.pairwise_last {order : List (Fin 48 × Nat)} {last : Fin 48 × Nat} (h : order.Pairwise Before)
    (hl : order.getLast? = some last) : ∀ x ∈ order, last.2 ≤ x.2 := by
  obtain ⟨init, rfl⟩ := List.getLast?_eq_some_iff.1 hl
  intro x hx
  obtain hx | hx := List.mem_append.1 hx
  · exact ((List.pairwise_append.1 h).2.2 x hx last (by simp)).elim le_of_lt fun heq => heq.1.ge
  · rw [List.mem_singleton.1 hx]

end Sys2Proof.Machine
end

section
/-! PublishedFiguresFollowTheOrder. -/

namespace Sys2Proof.Machine

/-- R57: a publication with quorum carries the figures of its eligible probes in their order. -/
theorem State.publicationNow_figures {s : State} (h : s.settings.q ≤ s.eligibleProbes.length) (n : Nat) :
    (s.publicationNow n).figures = figuresOf s.settings.w (orderByMc s.eligibleProbes) := by
  simp only [State.publicationNow, decide_eq_true h, if_true]

/-- Settles O21: what a publication carries, and the figures over the order of its eligible probes. -/
theorem publishedFiguresFollowTheOrder : Obligations.PublishedFiguresFollowTheOrder := by
  unfold Obligations.PublishedFiguresFollowTheOrder
  refine ⟨fun s n => ?_, fun s n hw hq hheld => ?_⟩
  · refine ⟨rfl, rfl, rfl, rfl, rfl, ?_, fun hlost => ?_, fun q mc => ?_, s.eligibleProbes_pairwise,
      s.mem_probeEntries, s.probeEntries_pairwise⟩
    · simp [State.publicationNow]
    · simp [State.publicationNow, Nat.not_le.2 hlost]
    · rw [s.mem_eligibleProbes, ProbeRecord.eligible_iff, and_assoc]
  · have hperm := orderByMc_perm s.eligibleProbes
    have hsorted := orderByMc_pairwise s.eligibleProbes_pairwise
    have hfigures := s.publicationNow_figures hheld n
    generalize orderByMc s.eligibleProbes = order at hperm hsorted hfigures
    have hlength := hperm.length_eq
    have hne : order ≠ [] := List.ne_nil_of_length_pos (by omega)
    obtain ⟨first, hfirst⟩ : ∃ first, order.head? = some first := ⟨_, List.head?_eq_some_head hne⟩
    obtain ⟨last, hlast⟩ : ∃ last, order.getLast? = some last := ⟨_, List.getLast?_eq_some_getLast hne⟩
    have hwettest := Before.pairwise_head hsorted hfirst
    have hdriest := Before.pairwise_last hsorted hlast
    rw [figuresOf_eq hfirst hlast] at hfigures
    have htake : order.take (min s.settings.w order.length) = order.take s.settings.w := by
      rw [List.take_eq_take_iff]
      omega
    have hset : order.take s.settings.w ≠ [] := by
      simpa [List.take_eq_nil_iff, hne] using Nat.ne_of_gt hw
    refine ⟨_, order, hfigures, hperm, hsorted, by rw [htake], fun set heq => ?_, by rw [hfirst]; rfl,
      fun x hx => hwettest x (hperm.mem_iff.2 hx),
      ⟨last, hperm.mem_iff.1 (List.mem_of_getLast? hlast), rfl⟩, fun x hx => hdriest x (hperm.mem_iff.2 hx), ?_, ?_, ?_,
      fun hle => ?_⟩
    · rw [heq, htake]; rfl
    · rw [mcSum_perm hperm, hlength]; rfl
    · exact roundHalfUp_mcSum_mem hset fun x hx =>
        ⟨hdriest x (List.mem_of_mem_take hx), hwettest x (List.mem_of_mem_take hx)⟩
    · exact roundHalfUp_mcSum_mem hne fun x hx => ⟨hdriest x hx, hwettest x hx⟩
    · rw [List.take_of_length_le (by omega)]

end Sys2Proof.Machine
end

section
/-! SUPPORT. The requests that write one probe's record (R42, R43, R51 to R53): the handlers' answers, by what their bytes
name, and the scanner when the probe under measurement is written (R19). -/

namespace Sys2Proof.Machine

/-! ### What the bytes name -/

/-- The byte that names a probe (R169). -/
def probeByte (p : Fin 48) : Byte := BitVec.ofNat 8 (p.val + 1)

theorem probeOfNumber_probeByte (p : Fin 48) : probeOfNumber (probeByte p).toNat = some p := by
  have hnumber : (probeByte p).toNat = p.val + 1 := by
    rw [probeByte, BitVec.toNat_ofNat]
    omega
  rw [hnumber, probeOfNumber, dif_pos (by omega)]
  rfl

theorem probeOfNumber_eq_none {b : Byte} (h : b = 0 ∨ 48 < b.toNat) : probeOfNumber b.toNat = none := by
  refine dif_neg fun hb => ?_
  obtain rfl | h := h
  · exact absurd hb.1 (by decide)
  · omega

theorem zoneOfNumber_byte (z : ZoneId) : zoneOfNumber (BitVec.ofNat 8 z.number).toNat = some z := by
  cases z <;> rfl

theorem zoneByte_ne_zero (z : ZoneId) : BitVec.ofNat 8 z.number ≠ 0 := by
  cases z <;> decide

theorem zoneOfNumber_isSome {n : Nat} (h1 : 1 ≤ n) (h4 : n ≤ 4) : ∃ z, zoneOfNumber n = some z := by
  interval_cases n
  · exact ⟨_, rfl⟩
  · exact ⟨_, rfl⟩
  · exact ⟨_, rfl⟩
  · exact ⟨_, rfl⟩

theorem zoneOfNumber_eq_none {n : Nat} (h : 4 < n) : zoneOfNumber n = none := by
  obtain ⟨k, rfl⟩ := Nat.exists_eq_add_of_le' h
  rfl

theorem State.loadedGroup_of_loaded {s : State} {n : Nat} {g : Fin 8} (hg : g.val = n) (hc : (s.curve g).isSome = true) :
    s.loadedGroup n = some g := by
  have hn : n < 8 := hg ▸ g.isLt
  subst hg
  simp [State.loadedGroup, groupOfNumber, hc]

theorem State.loadedGroup_eq_none {s : State} {n : Nat} (h : ∀ g : Fin 8, g.val = n → s.curve g = none) :
    s.loadedGroup n = none := by
  by_cases hn : n < 8
  · have hcurve := h ⟨n, hn⟩ rfl
    simp [State.loadedGroup, groupOfNumber, hn, hcurve]
  · simp [State.loadedGroup, groupOfNumber, hn]

theorem roleOfNumber_byte (role : Role) : roleOfNumber (if role = .control then 0 else 1 : Byte).toNat = some role := by
  cases role <;> rfl

theorem roleOfNumber_eq_none {n : Nat} (h : 1 < n) : roleOfNumber n = none := by
  obtain ⟨k, rfl⟩ := Nat.exists_eq_add_of_le' h
  rfl

/-! ### Refused lengths (log 12) -/

theorem refusedLength_named (s : State) (p : Fin 48) (rest : List Byte) :
    refusedLength probeOfNumber s.probePart (probeByte p :: rest) = .of .badLength (s.probePart p) := by
  simp [refusedLength, probeOfNumber_probeByte]

theorem refusedLength_unnamed (s : State) {q : List Byte} (h : ∀ b, q.head? = some b → b = 0 ∨ 48 < b.toNat) :
    refusedLength probeOfNumber s.probePart q = .of .badLength [] := by
  cases q with
  | nil => rfl
  | cons b rest => simp [refusedLength, probeOfNumber_eq_none (h b rfl)]

/-- R51 to R53, R166: what refuses a payload that names no probe. -/
def unnamedRefusal (length : Nat) (q : List Byte) : Reply :=
  if q.length = length then { status := .badValue, detail := [1], body := [] } else .of .badLength []

theorem onProbe_named (s : State) (p : Fin 48) (f : Fin 48 → State × Reply) : onProbe [probeByte p] s f = f p := by
  simp only [onProbe, withProbe, probeOfNumber_probeByte]

theorem onProbe_badLength (s : State) (p : Fin 48) {rest : List Byte} (h : rest ≠ []) (f : Fin 48 → State × Reply) :
    onProbe (probeByte p :: rest) s f = (s, .of .badLength (s.probePart p)) := by
  cases rest with
  | nil => exact absurd rfl h
  | cons b more => rw [onProbe, refusedLength_named]; rfl

theorem onProbe_unnamed (s : State) {q : List Byte} (h : ∀ b, q.head? = some b → b = 0 ∨ 48 < b.toNat)
    (f : Fin 48 → State × Reply) : onProbe q s f = (s, unnamedRefusal 1 q) := by
  rw [onProbe, refusedLength_unnamed s h]
  match q with
  | [] => rfl
  | [b] => simp only [withProbe, probeOfNumber_eq_none (h b rfl)]; rfl
  | _ :: _ :: _ => simp [withProbe, unnamedRefusal]

/-! ### The handlers -/

theorem handleProbeSet_clear (s : State) (p : Fin 48) (group role : Byte) :
    handleProbeSet [probeByte p, 0, group, role] s = probeReply .ok p (s.replaceRecord p .cleared) := by
  simp [handleProbeSet, probeOfNumber_probeByte]

theorem handleProbeSet_assign (s : State) (p : Fin 48) (z : ZoneId) {g : Fin 8} (role : Role)
    (hg : (s.curve g).isSome = true) :
    handleProbeSet [probeByte p, BitVec.ofNat 8 z.number, BitVec.ofNat 8 g.val, if role = .control then 0 else 1] s =
      probeReply .ok p (s.replaceRecord p (.assigned { zone := z, group := g, role })) := by
  have hgroup : s.loadedGroup (BitVec.ofNat 8 g.val).toNat = some g :=
    State.loadedGroup_of_loaded (by rw [BitVec.toNat_ofNat]; omega) hg
  simp only [handleProbeSet, probeOfNumber_probeByte, if_neg (zoneByte_ne_zero z), zoneOfNumber_byte, hgroup,
    roleOfNumber_byte]

section
variable (s : State) (p : Fin 48) {zone group role : Byte}

theorem handleProbeSet_badZone (h : 4 < zone.toNat) :
    handleProbeSet [probeByte p, zone, group, role] s = (s, .badField 2 (s.probePart p)) := by
  have hne : zone ≠ 0 := by rintro rfl; exact absurd h (by decide)
  simp only [handleProbeSet, probeOfNumber_probeByte, if_neg hne, zoneOfNumber_eq_none h]

theorem handleProbeSet_badGroup (h1 : 1 ≤ zone.toNat) (h4 : zone.toNat ≤ 4)
    (hg : ∀ g : Fin 8, g.val = group.toNat → s.curve g = none) :
    handleProbeSet [probeByte p, zone, group, role] s = (s, .badField 3 (s.probePart p)) := by
  have hne : zone ≠ 0 := by rintro rfl; exact absurd h1 (by decide)
  obtain ⟨z, hz⟩ := zoneOfNumber_isSome h1 h4
  simp only [handleProbeSet, probeOfNumber_probeByte, if_neg hne, hz, State.loadedGroup_eq_none hg]

theorem handleProbeSet_badRole (h1 : 1 ≤ zone.toNat) (h4 : zone.toNat ≤ 4) {g : Fin 8} (hg : g.val = group.toNat)
    (hc : (s.curve g).isSome = true) (hr : 1 < role.toNat) :
    handleProbeSet [probeByte p, zone, group, role] s = (s, .badField 4 (s.probePart p)) := by
  have hne : zone ≠ 0 := by rintro rfl; exact absurd h1 (by decide)
  obtain ⟨z, hz⟩ := zoneOfNumber_isSome h1 h4
  simp only [handleProbeSet, probeOfNumber_probeByte, if_neg hne, hz, State.loadedGroup_of_loaded hg hc,
    roleOfNumber_eq_none hr]

theorem handleProbeSet_badLength {rest : List Byte} (h : rest.length ≠ 3) :
    handleProbeSet (probeByte p :: rest) s = (s, .of .badLength (s.probePart p)) := by
  rw [← refusedLength_named]
  match rest, h with
  | [], _ | [_], _ | [_, _], _ | _ :: _ :: _ :: _ :: _, _ => rfl
  | [_, _, _], h => exact absurd rfl h

end

theorem handleProbeSet_unnamed (s : State) {q : List Byte} (h : ∀ b, q.head? = some b → b = 0 ∨ 48 < b.toNat) :
    handleProbeSet q s = (s, unnamedRefusal 4 q) := by
  have hrefused := refusedLength_unnamed s h
  match q with
  | [b, _, _, _] => simp only [handleProbeSet, probeOfNumber_eq_none (h b rfl)]; rfl
  | [] | [_] | [_, _] | [_, _, _] | _ :: _ :: _ :: _ :: _ :: _ =>
    simp only [handleProbeSet, hrefused]
    simp [unnamedRefusal]

section
variable {s : State} {p : Fin 48}

theorem handleProbeBlock_write (h : (s.probe p).state = .new ∨ (s.probe p).state = .good ∨ (s.probe p).state = .suspect ∨
      (s.probe p).state = .faulted) :
    handleProbeBlock [probeByte p] s = probeReply .ok p (s.replaceRecord p (s.probe p).block) := by
  rw [handleProbeBlock, onProbe_named]
  obtain h | h | h | h := h <;> simp only [h]

theorem handleProbeBlock_blocked (h : (s.probe p).state = .blocked) :
    handleProbeBlock [probeByte p] s = probeReply .ok p s := by
  rw [handleProbeBlock, onProbe_named]
  simp only [h]

theorem handleProbeBlock_unassigned (h : (s.probe p).state = .unassigned) :
    handleProbeBlock [probeByte p] s = probeReply .wrongState p s := by
  rw [handleProbeBlock, onProbe_named]
  simp only [h]

theorem handleProbeUnblock_write (h : (s.probe p).state = .blocked) :
    handleProbeUnblock [probeByte p] s = probeReply .ok p (s.setProbe p (s.probe p).renew) := by
  rw [handleProbeUnblock, onProbe_named]
  simp only [h]

theorem handleProbeUnblock_wrongState (h : (s.probe p).state ≠ .blocked) :
    handleProbeUnblock [probeByte p] s = probeReply .wrongState p s := by
  rw [handleProbeUnblock, onProbe_named]
  cases hs : (s.probe p).state with
  | blocked => exact absurd hs h
  | unassigned | new | good | suspect | faulted => rfl

theorem handleProbeReadmit_write (h : (s.probe p).state = .faulted) :
    handleProbeReadmit [probeByte p] s = probeReply .ok p (s.replaceRecord p (s.probe p).renew) := by
  rw [handleProbeReadmit, onProbe_named]
  simp only [h]

theorem handleProbeReadmit_wrongState (h : (s.probe p).state ≠ .faulted) :
    handleProbeReadmit [probeByte p] s = probeReply .wrongState p s := by
  rw [handleProbeReadmit, onProbe_named]
  cases hs : (s.probe p).state with
  | faulted => exact absurd hs h
  | unassigned | new | good | suspect | blocked => rfl

end

/-! ### The scanner when a record is written (R19) -/

theorem State.replaceRecord_of_other {s : State} {p : Fin 48} (h : s.underMeasurement p = false) (r : ProbeRecord) :
    s.replaceRecord p r = s.setProbe p r := by
  have hnot : (s.setProbe p r).underMeasurement p = false := h
  simp [State.replaceRecord, State.discardFor, hnot]

theorem State.replaceRecord_of_measured {s : State} {p : Fin 48} {m : Measurement} (hm : s.scanner.measurement = some m)
    (hp : m.probe = p) (r : ProbeRecord) : s.replaceRecord p r = (s.setProbe p r).advanceScan p := by
  have hunder : (s.setProbe p r).underMeasurement p = true := (State.underMeasurement_iff _ p).2 ⟨m, hm, hp⟩
  simp [State.replaceRecord, State.discardFor, hunder]

/-- R10: the record of a probe does not change which probe comes next above it. -/
theorem State.setProbe_nextProbe (s : State) (p : Fin 48) (r : ProbeRecord) :
    (s.setProbe p r).nextProbe (probeNumber p) = s.nextProbe (probeNumber p) :=
  State.nextProbe_congr fun q hq => by
    rw [s.setProbe_probe_ne p q r (ne_of_gt ((probeNumber_lt_iff p q).1 hq))]

/-- R19, R11: written under measurement with no probe above it, the scan is over. -/
theorem State.replaceRecord_ends {s : State} {p : Fin 48} {m : Measurement} (hm : s.scanner.measurement = some m)
    (hp : m.probe = p) (hnone : ∀ x, p < x → (s.probe x).qualifies = false) (hd : s.scanner.startDue = false)
    (r : ProbeRecord) : s.replaceRecord p r = (s.setProbe p r).publishScan.restScan := by
  have hnext : (s.setProbe p r).nextProbe (probeNumber p) = none := by
    rw [s.setProbe_nextProbe, State.nextProbe_eq_none_iff]
    exact fun q hq => hnone q ((probeNumber_lt_iff p q).1 hq)
  rw [State.replaceRecord_of_measured hm hp, State.advanceScan_of_none hnext,
    State.completeScan_of_not_due (s := s.setProbe p r) hd]

/-- R19, R10: written under measurement, the next qualifying probe above it is selected. -/
theorem State.replaceRecord_selects {s : State} {p q : Fin 48} {m : Measurement} (hm : s.scanner.measurement = some m)
    (hp : m.probe = p) (hpq : p < q) (hq : (s.probe q).qualifies = true)
    (hbetween : ∀ x, p < x → x < q → (s.probe x).qualifies = false) (r : ProbeRecord) :
    s.replaceRecord p r = (s.setProbe p r).setScanner (s.scanner.select q (s.probe q).rangeMemory) := by
  have hnext : (s.setProbe p r).nextProbe (probeNumber p) = some q := by
    rw [s.setProbe_nextProbe, State.nextProbe_eq_some_iff]
    exact ⟨(probeNumber_lt_iff p q).2 hpq, hq, fun x hx hxq => hbetween x ((probeNumber_lt_iff p x).1 hx) hxq⟩
  rw [State.replaceRecord_of_measured hm hp, State.advanceScan_of_next hnext, State.selectProbe,
    s.setProbe_probe_ne p q r (ne_of_gt hpq)]
  rfl

/-! ### The served requests -/

theorem State.probePart_congr {s t : State} (hp : t.probes = s.probes) (hx : t.scanner = s.scanner) (p : Fin 48) :
    t.probePart p = s.probePart p := by
  simp only [State.probePart, State.probe, State.underMeasurement, hp, hx]

/-- A request whose handler leaves the link is served, and its reply carries the record as it then stands. -/
theorem probeWrite_served {c : Instr} {s u : State} {p : Fin 48} {kind tag : Byte} {payload : List Byte}
    {f : List Byte → State → State × Reply} (h : s.Receptive) (hc : requestOf c = some (kind, tag, payload))
    (hk : ∀ k t p, c ≠ .unknownRequest k t p) (hf : handlerOf kind.toNat = some f)
    (hu : f payload s = probeReply .ok p u) (hl : u.link = s.link) :
    ∃ t, Served c s t (.of .ok (t.probePart p)) ∧
      t = (u.answer kind tag (.of .ok (u.probePart p))).finishEvent := by
  have hpart : (u.answer kind tag (.of .ok (u.probePart p))).finishEvent.probePart p = u.probePart p :=
    State.probePart_congr (by simp) (by simp) p
  exact ⟨_, by rw [hpart]; exact served_of_handled h hc hk hf hu hl, rfl⟩

/-- R42, R51, R53, R19: a request whose handler replaces a record writes it. -/
theorem writesRecord_of_handled {c : Instr} {s : State} {p : Fin 48} {r : ProbeRecord} {kind tag : Byte}
    {payload : List Byte} {f : List Byte → State → State × Reply} (h : s.Receptive)
    (hc : requestOf c = some (kind, tag, payload)) (hk : ∀ k t p, c ≠ .unknownRequest k t p)
    (hf : handlerOf kind.toNat = some f) (hu : f payload s = probeReply .ok p (s.replaceRecord p r)) :
    WritesRecord c s p r := by
  have hdue := h.1.due_none
  obtain ⟨t, hserved, ht⟩ := probeWrite_served h hc hk hf hu (by simp)
  refine ⟨fun hother => ⟨t, hserved, ?_⟩, fun m q hm hp hpq hq hbetween => ⟨t, hserved, ?_⟩,
    fun m hm hp hnone hd => ⟨t, hserved, ?_⟩⟩
  · rw [State.replaceRecord_of_other hother, State.finishEvent_answer (by exact hdue)] at ht
    rw [ht]; rfl
  · rw [State.replaceRecord_selects hm hp hpq hq hbetween, State.finishEvent_answer (by exact hdue)] at ht
    rw [ht]; rfl
  · rw [State.replaceRecord_ends hm hp hnone hd] at ht
    have hstands : PublicationStands s t s.scanner.scanNumber := by
      rw [ht]
      refine PublicationStands.finishEvent (PublicationStands.then_same (PublicationStands.restScan
        ((s.setProbe p r).publishScan_stands.of_before rfl rfl rfl rfl)) ?_ ?_ ?_ ?_ ?_ ?_)
      all_goals rfl
    have hscanner : t.scanner = s.scanner.rested s.settings.scanEnable := by
      rw [ht, (State.finishEvent_frame _).2.2.2.2.2.1]
      exact State.restScan_publishScan_scanner (s.setProbe p r)
    have hprobe (q : Fin 48) : t.probe q = (s.setProbe p r).probe q := by rw [ht]; simp [State.probe]
    refine ⟨by rw [hprobe, s.setProbe_probe], fun q hq => by rw [hprobe, s.setProbe_probe_ne p q r hq],
      ⟨hscanner, hstands⟩, ?_⟩
    rw [ht]
    simp

end Sys2Proof.Machine
end

section
/-! ProbeRequestsWriteOneRecord. -/

namespace Sys2Proof.Machine

/-- Settles O44: PROBE_SET, PROBE_BLOCK, PROBE_UNBLOCK and PROBE_READMIT by the state of the probe they name, and what
refuses them. -/
theorem probeRequestsWriteOneRecord : Obligations.ProbeRequestsWriteOneRecord := by
  unfold Obligations.ProbeRequestsWriteOneRecord
  intro s tag p h
  refine ⟨fun group role => ?_, fun z g role hg => ?_,
    fun zone group role => ⟨fun hz => ?_, fun h1 h4 hg => ?_, fun h1 h4 ⟨g, hg, hc⟩ hr => ?_⟩, fun hr => ?_, fun hr => ?_,
    fun hr => ?_, fun hr => ?_, fun hr => ?_, fun hr => ?_, fun hr => ?_,
    fun rest => ⟨fun hrest => ⟨?_, ?_, ?_⟩, fun hrest => ?_⟩, fun q hq => ⟨?_, ?_, ?_, ?_⟩⟩
  · exact writesRecord_of_handled h rfl (by simp) rfl (handleProbeSet_clear s p group role)
  · exact writesRecord_of_handled h rfl (by simp) rfl (handleProbeSet_assign s p z role hg)
  · exact servedUnchanged_of_handled h rfl (by simp) rfl (handleProbeSet_badZone s p hz)
  · exact servedUnchanged_of_handled h rfl (by simp) rfl (handleProbeSet_badGroup s p h1 h4 hg)
  · exact servedUnchanged_of_handled h rfl (by simp) rfl (handleProbeSet_badRole s p h1 h4 hg hc hr)
  · exact writesRecord_of_handled h rfl (by simp) rfl (handleProbeBlock_write hr)
  · exact servedUnchanged_of_handled h rfl (by simp) rfl (handleProbeBlock_blocked hr)
  · exact servedUnchanged_of_handled h rfl (by simp) rfl (handleProbeBlock_unassigned hr)
  · obtain ⟨t, hserved, ht⟩ := probeWrite_served (c := .probeUnblock tag [probeByte p]) h rfl (by simp) rfl
      (handleProbeUnblock_write hr) rfl
    rw [State.finishEvent_answer (by exact h.1.due_none)] at ht
    exact ⟨t, hserved, by rw [ht]; rfl⟩
  · exact servedUnchanged_of_handled h rfl (by simp) rfl (handleProbeUnblock_wrongState hr)
  · exact writesRecord_of_handled h rfl (by simp) rfl (handleProbeReadmit_write hr)
  · exact servedUnchanged_of_handled h rfl (by simp) rfl (handleProbeReadmit_wrongState hr)
  · exact servedUnchanged_of_handled h rfl (by simp) rfl (onProbe_badLength s p hrest _)
  · exact servedUnchanged_of_handled h rfl (by simp) rfl (onProbe_badLength s p hrest _)
  · exact servedUnchanged_of_handled h rfl (by simp) rfl (onProbe_badLength s p hrest _)
  · exact servedUnchanged_of_handled h rfl (by simp) rfl (handleProbeSet_badLength s p hrest)
  · exact servedUnchanged_of_handled h rfl (by simp) rfl (onProbe_unnamed s hq _)
  · exact servedUnchanged_of_handled h rfl (by simp) rfl (onProbe_unnamed s hq _)
  · exact servedUnchanged_of_handled h rfl (by simp) rfl (onProbe_unnamed s hq _)
  · exact servedUnchanged_of_handled h rfl (by simp) rfl (handleProbeSet_unnamed s hq)

end Sys2Proof.Machine
end

section
/-! SUPPORT. A reason judged (R97), a step entered (R86) and a step ended (R95, R96), as the statements speak of them; and
what of a state they look at. -/

namespace Sys2Proof.Machine

/-! ### The hold-reason set -/

theorem HoldSet.isEmpty_eq_true_iff (x : HoldSet) : x.isEmpty = true ↔ x = .empty := by
  obtain ⟨host, timeout, quorum, sensor, interlock, restored⟩ := x
  simp [HoldSet.isEmpty, HoldSet.empty, and_assoc]

theorem HoldSet.put_has (x : HoldSet) (r : HoldReason) : x.put r (x.has r) = x := by cases r <;> rfl

section
variable {s : State} {r : HoldReason}

theorem State.addReason_of_present (h : s.run.reasons.has r = true) : s.addReason r = s := if_pos h

theorem State.addReason_of_running (h : s.run.reasons.has r = false) (hs : s.run.state = .running) :
    s.addReason r =
      (({ s with
            run := { s.run with reasons := s.run.reasons.put r true, state := .held, inBand := false } }).queueNotice
        .runHeld r.code (s.run.reasons.put r true).count).wantCheckpoint := by
  simp [State.addReason, h, hs]

theorem State.addReason_of_held (h : s.run.reasons.has r = false) (hs : s.run.state = .held) :
    s.addReason r =
      ({ s with run := { s.run with reasons := s.run.reasons.put r true } }).queueNotice .runHeld r.code
        (s.run.reasons.put r true).count := by
  simp [State.addReason, h, hs]

theorem State.addReason_of_safe (h : s.run.reasons.has r = false) (hs : s.run.state = .safe) :
    s.addReason r = { s with run := { s.run with reasons := s.run.reasons.put r true } } := by
  simp [State.addReason, h, hs]

theorem State.removeReason_of_absent (h : s.run.reasons.has r = false) : s.removeReason r = s := by
  simp [State.removeReason, h]

theorem State.removeReason_resumes (h : s.run.reasons.has r = true) (hs : s.run.state = .held)
    (he : s.run.reasons.put r false = .empty) :
    s.removeReason r =
      (({ s with run := { s.run with state := .running, reasons := s.run.reasons.put r false } }).queueNotice
        .runResumed (s.run.stepIndex.getD 0) 0).wantCheckpoint := by
  simp [State.removeReason, h, State.resumeIfEmpty, hs, he, HoldSet.isEmpty_empty]

theorem State.removeReason_stays (h : s.run.reasons.has r = true)
    (hs : s.run.state ≠ .held ∨ s.run.reasons.put r false ≠ .empty) :
    s.removeReason r = { s with run := { s.run with reasons := s.run.reasons.put r false } } := by
  simp only [State.removeReason, h, State.resumeIfEmpty, if_true]
  refine if_neg fun hresume => ?_
  rw [Bool.and_eq_true, HoldSet.isEmpty_eq_true_iff, decide_eq_true_eq] at hresume
  exact hs.elim (· hresume.2) (· hresume.1)

end

/-! ### A reason judged -/

/-- What the judgement of a reason leaves: the run and its notices as R97 has them, and a checkpoint asked for exactly when
the run state has changed (R106). -/
def State.Judges (s t : State) (r : HoldReason) (present : Bool) : Prop :=
  (∃ notices, ReasonJudged s.run r r.code (present = true) t.run notices ∧ t.notices = noticesAfter s notices) ∧
    (t.run.state = s.run.state → t.due = s.due) ∧
    (t.run.state ≠ s.run.state → t.due = { s.due with checkpoint := true })

theorem State.judges_of_kept {s : State} {r : HoldReason} {present : Bool}
    (h : s.run.state.inProgress = false ∨ (present = true ↔ s.run.reasons.has r = true)) : s.Judges s r present := by
  refine ⟨⟨[], ⟨fun _ => ⟨rfl, rfl⟩, fun hp hpresent hr => ?_, fun hp hpresent hr => ?_⟩, rfl⟩, fun _ => rfl,
    fun hne => absurd rfl hne⟩
  all_goals rw [hp, hr] at h; simp [hpresent] at h

theorem State.addReason_judges {s : State} {r : HoldReason} (hp : s.run.state.inProgress = true)
    (h : s.run.reasons.has r = false) : s.Judges (s.addReason r) r true := by
  have hadds {notices : List (NoticeKind × Nat × Nat)} {t : State}
      (hjudged : let reasons := s.run.reasons.put r true
        (s.run.state = .running →
          t.run = { s.run with state := .held, reasons, inBand := false } ∧
            notices = [(.runHeld, r.code, reasons.count)]) ∧
        (s.run.state = .held → t.run = { s.run with reasons } ∧ notices = [(.runHeld, r.code, reasons.count)]) ∧
        (s.run.state = .safe → t.run = { s.run with reasons } ∧ notices = [])) :
      ReasonJudged s.run r r.code (true = true) t.run notices :=
    ⟨fun hkept => by simp [hp, h] at hkept, fun _ _ _ => hjudged, fun _ hnot => absurd rfl hnot⟩
  cases hs : s.run.state with
  | running =>
    rw [State.addReason_of_running h hs]
    refine ⟨⟨_, hadds ⟨fun _ => ⟨rfl, rfl⟩, ?_, ?_⟩, rfl⟩, ?_, fun _ => rfl⟩ <;> simp [hs]
  | held =>
    rw [State.addReason_of_held h hs]
    refine ⟨⟨_, hadds ⟨?_, fun _ => ⟨rfl, rfl⟩, ?_⟩, rfl⟩, fun _ => rfl, ?_⟩ <;> simp [hs]
  | safe =>
    rw [State.addReason_of_safe h hs]
    refine ⟨⟨_, hadds ⟨?_, ?_, fun _ => ⟨rfl, rfl⟩⟩, rfl⟩, fun _ => rfl, ?_⟩ <;> simp [hs]
  | idle | complete | aborted => simp [hs, RunState.inProgress] at hp

theorem State.removeReason_judges {s : State} {r : HoldReason} (hp : s.run.state.inProgress = true)
    (h : s.run.reasons.has r = true) : s.Judges (s.removeReason r) r false := by
  have hremoves {notices : List (NoticeKind × Nat × Nat)} {t : State}
      (hjudged : let reasons := s.run.reasons.put r false
        (s.run.state = .held → reasons = .empty →
          t.run = { s.run with state := .running, reasons } ∧
            ∀ i, s.run.stepIndex = some i → notices = [(.runResumed, i, 0)]) ∧
        (s.run.state ≠ .held ∨ reasons ≠ .empty → t.run = { s.run with reasons } ∧ notices = [])) :
      ReasonJudged s.run r r.code (false = true) t.run notices :=
    ⟨fun hkept => by simp [hp, h] at hkept, fun _ hpresent => (nomatch hpresent), fun _ _ _ => hjudged⟩
  by_cases hresumes : s.run.state = .held ∧ s.run.reasons.put r false = .empty
  · obtain ⟨hs, he⟩ := hresumes
    rw [State.removeReason_resumes h hs he]
    refine ⟨⟨[(.runResumed, s.run.stepIndex.getD 0, 0)], hremoves ⟨fun _ _ => ⟨rfl, fun i hi => ?_⟩, ?_⟩, rfl⟩, ?_,
      fun _ => rfl⟩
    · rw [hi]; rfl
    · simp [hs, he]
    · simp [hs]
  · have hstays : s.run.state ≠ .held ∨ s.run.reasons.put r false ≠ .empty := not_and_or.1 hresumes
    rw [State.removeReason_stays h hstays]
    exact ⟨⟨_, hremoves ⟨fun hs he => absurd ⟨hs, he⟩ hresumes, fun _ => ⟨rfl, rfl⟩⟩, rfl⟩, fun _ => rfl,
      fun hne => absurd rfl hne⟩

/-- R94, R97, R98: a reason that follows a condition, judged. -/
theorem State.judgeReason_judges (s : State) (r : HoldReason) (present : Bool) :
    s.Judges (s.judgeReason r present) r present := by
  cases hp : s.run.state.inProgress with
  | false =>
    rw [State.judgeReason, hp]
    exact State.judges_of_kept (.inl hp)
  | true =>
    cases present with
    | true =>
      have hjudge : s.judgeReason r true = s.addReason r := by simp [State.judgeReason, hp]
      rw [hjudge]
      cases hr : s.run.reasons.has r with
      | true => rw [State.addReason_of_present hr]; exact State.judges_of_kept (.inr (by simp [hr]))
      | false => exact State.addReason_judges hp hr
    | false =>
      have hjudge : s.judgeReason r false = s.removeReason r := by simp [State.judgeReason, hp]
      rw [hjudge]
      cases hr : s.run.reasons.has r with
      | true => exact State.removeReason_judges hp hr
      | false => rw [State.removeReason_of_absent hr]; exact State.judges_of_kept (.inr (by simp [hr]))

/-- R97: a RUNNING run stays as it is, but for the reason, when the condition is absent. -/
theorem State.judgeReason_run_of_running {s : State} (hs : s.run.state = .running) (r : HoldReason) :
    (s.judgeReason r false).run = { s.run with reasons := s.run.reasons.put r false } := by
  have hjudge : s.judgeReason r false = s.removeReason r := by simp [State.judgeReason, hs, RunState.inProgress]
  rw [hjudge]
  cases hr : s.run.reasons.has r with
  | true => rw [State.removeReason_stays hr (.inl (by simp [hs]))]
  | false => rw [State.removeReason_of_absent hr, ← hr, HoldSet.put_has]

end Sys2Proof.Machine
end

section
/-! SUPPORT. A step entered (R86, R104), a run completed (R83, R96) and a step ended (R95). -/

namespace Sys2Proof.Machine

/-! ### The fans take a step's settings (R134, R138) -/

theorem State.handFans_settings (s : State) (x : StepRecord) :
    (s.handFans x).fans.reversalInterval = x.reversalInterval ∧ (s.handFans x).fans.speed = x.speed := by
  unfold State.handFans State.checkReversal
  split
  · simp [State.fansEnterCoasting]
  · exact ⟨rfl, rfl⟩

/-! ### A step entered -/

theorem State.enterStepFrom_of_step {s : State} {i : Nat} {x : StepRecord} (h : s.schedule.activeSteps[i]? = some x)
    (origin : StepRecord → ZoneId → Int) :
    s.enterStepFrom i origin =
      ((((({ s with run := s.run.entering i }).zonesTakeStep x (origin x)).handFans x).latchSpread x).queueNotice
        .stepEntered i x.kind.code).wantCheckpoint := by
  simp only [State.enterStepFrom, h]

/-- R104: the spread is latched at the first entry into an EQUALIZE step. -/
theorem State.latchSpread_first {s : State} {x : StepRecord} (hk : x.kind = .equalize) (hf : s.run.equalizeEntered = false) :
    (s.latchSpread x).run =
      { s.run with equalizeEntered := true, spread := s.latestFigures.map fun f => f.wettest - f.driest } := by
  simp [State.latchSpread, hk, hf]

/-- R104: at every other entry it is kept. -/
theorem State.latchSpread_kept {s : State} {x : StepRecord} (h : x.kind ≠ .equalize ∨ s.run.equalizeEntered = true) :
    (s.latchSpread x).run = s.run := by
  have hnot : ¬ (x.kind = .equalize ∧ s.run.equalizeEntered = false) := by
    rw [not_and_or, Bool.not_eq_false]; exact h
  simp only [State.latchSpread, Bool.and_eq_true, decide_eq_true_eq, Bool.not_eq_true', if_neg hnot]

theorem State.heldOrigin_of_ramp {s : State} {z : ZoneId} {r : Ramp} (h : (s.zone z).ramp = some r) (x : StepRecord) :
    s.heldOrigin z x = r.setpoint := by
  simp only [State.heldOrigin, h]

/-- R86, R116: at a step end the next step is entered from the setpoints held. -/
theorem State.enterStep_enters {s : State} {i : Nat} {x : StepRecord} (h : s.schedule.activeSteps[i]? = some x) :
    EntersStep s (s.enterStep i) i x := by
  obtain ⟨u, hu⟩ : ∃ u, u = (({ s with run := s.run.entering i }).zonesTakeStep x fun z => s.heldOrigin z x).handFans x :=
    ⟨_, rfl⟩
  have hentered : s.enterStep i = ((u.latchSpread x).queueNotice .stepEntered i x.kind.code).wantCheckpoint := by
    rw [hu]; exact State.enterStepFrom_of_step h _
  have hrun : u.run = s.run.entering i := by simp [hu]
  have hfans : u.fans.reversalInterval = x.reversalInterval ∧ u.fans.speed = x.speed := by
    rw [hu]; exact State.handFans_settings _ _
  have hstatistics : u.statistics = s.statistics := by simp [hu]
  have hzone (z : ZoneId) : u.zone z =
      if s.zoneActive z then { s.zone z with ramp := some (rampFrom x (s.heldOrigin z x)) } else s.zone z := by
    have hzones : u.zones = (({ s with run := s.run.entering i }).zonesTakeStep x fun z => s.heldOrigin z x).zones := by
      simp [hu]
    rw [State.zone, hzones]
    exact zones_get_map _ _ _
  have hlatched : (s.enterStep i).run = (u.latchSpread x).run := by rw [hentered]; simp
  have hfanskept : (s.enterStep i).fans = u.fans := by rw [hentered]; simp
  have hzonekept (z : ZoneId) : (s.enterStep i).zone z = u.zone z := by rw [hentered]; simp [State.zone]
  have hstatkept : (s.enterStep i).statistics = s.statistics := by simp
  have hfigures : u.latestFigures = s.statistics.latest.bind (·.figures) := by rw [State.latestFigures, hstatistics]
  have hentries : ∀ z, s.zoneActive z = true → ∀ q, (s.zone z).ramp = some q → (s.enterStep i).zone z =
      { s.zone z with
        ramp :=
          some
            { dbTarget := x.dbTarget, depression := x.depression, rampRate := x.rampRate, kind := x.kind
              origin := q.setpoint, setpoint := q.setpoint } } := fun z hz q hq => by
    rw [hzonekept, hzone, hz, if_pos rfl, State.heldOrigin_of_ramp hq]; rfl
  have hothers : ∀ z, s.zoneActive z = false → (s.enterStep i).zone z = s.zone z := fun z hz => by
    rw [hzonekept, hzone, hz]; rfl
  unfold EntersStep
  rw [hfanskept, hlatched, hstatkept]
  by_cases hlatch : x.kind ≠ .equalize ∨ s.run.equalizeEntered = true
  · rw [State.latchSpread_kept (by rw [hrun]; exact hlatch), hrun]
    exact ⟨rfl, rfl, rfl, rfl, rfl, rfl, rfl, rfl, rfl, rfl, fun hk hf => by simp [hk, hf] at hlatch,
      fun _ => ⟨rfl, rfl⟩, hfans.1, hfans.2, hothers, fun z q hz hq => hentries z hz q hq⟩
  · obtain ⟨hk, hf⟩ : x.kind = .equalize ∧ s.run.equalizeEntered = false := by
      rwa [not_or, not_not, Bool.not_eq_true] at hlatch
    rw [State.latchSpread_first hk (by rw [hrun]; exact hf), hrun, hfigures]
    exact ⟨rfl, rfl, rfl, rfl, rfl, rfl, rfl, rfl, rfl, rfl, fun _ _ => ⟨rfl, rfl⟩, fun hnot => absurd hnot hlatch,
      hfans.1, hfans.2, hothers, fun z q hz hq => hentries z hz q hq⟩

theorem State.enterStep_notices {s : State} {i : Nat} {x : StepRecord} (h : s.schedule.activeSteps[i]? = some x) :
    (s.enterStep i).notices = noticesAfter s [(.stepEntered, i, x.kind.code)] := by
  rw [State.enterStep, State.enterStepFrom_of_step h]
  simp [noticesAfter]

theorem State.enterStep_due {s : State} {i : Nat} {x : StepRecord} (h : s.schedule.activeSteps[i]? = some x) :
    (s.enterStep i).due = { s.due with checkpoint := true } := by
  rw [State.enterStep, State.enterStepFrom_of_step h]
  simp

/-! ### A run completed -/

theorem Valve.refresh_demand (v : Valve) (p : Nat) (f : Forcing) : (v.refresh p f).demand = v.demand := by
  unfold Valve.refresh
  split <;> rfl

/-- R128, R132: no demand changes when the outputs are refreshed. -/
theorem State.refreshOutputs_demands (s : State) (z : ZoneId) :
    (s.refreshOutputs.outputs.get z).heat.demand = (s.outputs.get z).heat.demand ∧
      (s.refreshOutputs.outputs.get z).spray.demand = (s.outputs.get z).spray.demand ∧
      (s.refreshOutputs.outputs.get z).vent.demand = (s.outputs.get z).vent.demand := by
  simp [State.refreshOutputs, State.refreshedZone, Valve.refresh_demand, Vent.refresh]

theorem State.fansFollowRun_of_over {s : State} (h : s.run.state.going = false) :
    s.fansFollowRun = s.fansEnterStopped := by
  simp [State.fansFollowRun, h]

/-- R83, R122, R135: a run end, to a state that is no longer in progress. -/
theorem State.endRun_ended (s : State) {final : RunState} (h : final.going = false) : RunEnded (s.endRun final) := by
  obtain ⟨u, hu⟩ : ∃ u, u =
      ({ s with run := { s.run with state := final, reasons := .empty, inBand := false } }).zonesEndRun := ⟨_, rfl⟩
  have hrun : u.run = { s.run with state := final, reasons := .empty, inBand := false } := by simp [hu]
  have hended : s.endRun final = u.fansEnterStopped := by
    rw [State.endRun, ← hu]; exact State.fansFollowRun_of_over (by rw [hrun]; exact h)
  have hzone (z : ZoneId) : u.zone z = { (s.zone z).zeroDemands with ramp := none } := by
    rw [hu]; simp [State.zone, State.zonesEndRun]
  have houtputs (z : ZoneId) : (u.outputs.get z).heat.demand = 0 ∧ (u.outputs.get z).spray.demand = 0 ∧
      (u.outputs.get z).vent.demand = 0 := by
    rw [hu]; simp [State.zonesEndRun, State.handAllDemands, handedOver, Vent.refresh, State.zone, ZoneLoops.zeroDemands,
      Loop.zero]
  rw [hended]
  refine ⟨by simp [hrun], by simp [hrun], by simp [State.fansEnterStopped], fun z => ?_⟩
  have hz : u.fansEnterStopped.zone z = u.zone z := by simp [State.zone]
  obtain ⟨hheat, hspray, hvent⟩ := State.refreshOutputs_demands
    { u with
      fans :=
        { u.fans with
          state := .stopped, expectRunning := false, compareActive := false, coastTimer := 0, confirmTimer := 0 } } z
  obtain ⟨hheat0, hspray0, hvent0⟩ := houtputs z
  rw [hz, hzone]
  exact ⟨rfl, rfl, rfl, rfl, rfl, rfl, rfl, hheat.trans hheat0, hspray.trans hspray0, hvent.trans hvent0⟩

/-- R83: the run at its end, which queues nothing. -/
theorem State.endRun_kept (s : State) {final : RunState} (h : final.going = false) :
    (s.endRun final).run = { s.run with state := final, reasons := .empty, inBand := false } ∧
      (s.endRun final).notices = s.notices := by
  rw [State.endRun, State.fansFollowRun_of_over (by simpa using h)]
  simp

theorem State.completeRun_ended (s : State) : RunEnded s.completeRun :=
  State.endRun_ended { s with run := { s.run with completion := some s.completionNow } } rfl

/-- R96: what a completion makes of the run, the queue and the work due. -/
theorem State.completeRun_kept (s : State) :
    s.completeRun.run =
        { s.run with state := .complete, reasons := .empty, inBand := false, completion := some s.completionNow } ∧
      s.completeRun.notices = noticesAfter s [(.runComplete, s.run.stepIndex.getD 0, 0)] ∧
      s.completeRun.due = { s.due with checkpoint := true } := by
  obtain ⟨hrun, hnotices⟩ :=
    ({ s with run := { s.run with completion := some s.completionNow } } : State).endRun_kept (final := .complete) rfl
  refine ⟨hrun, ?_, ?_⟩
  · simp [State.completeRun, hnotices, noticesAfter]
  · simp [State.completeRun]

/-! ### A step ended -/

theorem ScheduleStore.exchange_activeSteps (x : ScheduleStore) : x.exchange.activeSteps = x.editSteps := by
  obtain ⟨first, second, active, adoption⟩ := x
  cases active <;> rfl

theorem ScheduleStore.exchange_editSteps (x : ScheduleStore) : x.exchange.editSteps = x.activeSteps := by
  obtain ⟨first, second, active, adoption⟩ := x
  cases active <;> rfl

theorem ScheduleStore.exchange_active_ne (x : ScheduleStore) : x.exchange.active ≠ x.active := by
  obtain ⟨first, second, active, adoption⟩ := x
  cases active <;> simp [ScheduleStore.exchange]

/-- R75, R95: the part with the pending adoption applied, before its step is entered. -/
def State.adoptionTaken (s : State) (a : Adoption) : State :=
  ({ s with schedule := { s.schedule.exchange with adoption := none } }).queueNotice .adoptionApplied a.target 1

theorem State.stepEnd_of_adoption {s : State} {a : Adoption} (h : s.schedule.adoption = some a) :
    s.stepEnd = (s.adoptionTaken a).enterStep a.target := by
  simp only [State.stepEnd, h]
  rfl

theorem State.stepEnd_of_next {s : State} {i : Nat} {x : StepRecord} (h : s.schedule.adoption = none)
    (hi : s.run.stepIndex = some i) (hx : s.schedule.activeSteps[i + 1]? = some x) : s.stepEnd = s.enterStep (i + 1) := by
  have hlt : i + 1 < s.schedule.activeSteps.length := (List.getElem?_eq_some_iff.1 hx).1
  simp only [State.stepEnd, h, hi, Option.getD_some, if_neg (Nat.not_le.2 hlt)]

theorem State.stepEnd_of_last {s : State} {i : Nat} (h : s.schedule.adoption = none) (hi : s.run.stepIndex = some i)
    (hlast : s.schedule.activeSteps.length = i + 1) : s.stepEnd = s.completeRun := by
  simp only [State.stepEnd, h, hi, Option.getD_some, hlast, if_pos (Nat.le_refl _)]

theorem asksCheckpoint_of_due {s t : State} {d : Due} (h : t.due = { d with checkpoint := true }) : AsksCheckpoint s t :=
  .inl (by rw [h])

/-- R95, R96: a step end. -/
theorem State.stepEnd_ends (s : State) : StepEnds s s.stepEnd [] := by
  refine ⟨fun a x ha hx => ?_, fun i x ha hi hx => ?_, fun i ha hi hlast => ?_⟩
  · obtain ⟨u, hu⟩ : ∃ u, u = s.adoptionTaken a := ⟨_, rfl⟩
    have hschedule : u.schedule = { s.schedule.exchange with adoption := none } := by rw [hu]; rfl
    have hactive : u.schedule.activeSteps = s.schedule.editSteps := by
      rw [hschedule]; exact s.schedule.exchange_activeSteps
    have hstep : u.schedule.activeSteps[a.target]? = some x := by rw [hactive, hx]
    have hkept : (u.enterStep a.target).schedule = u.schedule := by simp
    have henters : EntersStep s (u.enterStep a.target) a.target x := by
      have hfrom := State.enterStep_enters hstep
      rw [hu] at hfrom ⊢
      exact hfrom
    rw [State.stepEnd_of_adoption ha, ← hu]
    refine ⟨⟨?_, ?_, ?_⟩, ?_, henters, asksCheckpoint_of_due (State.enterStep_due hstep), ?_⟩
    · rw [hkept, hactive]
    · rw [hkept, hschedule]; exact s.schedule.exchange_editSteps
    · rw [hkept, hschedule]; exact s.schedule.exchange_active_ne
    · rw [hkept, hschedule]
    · rw [State.enterStep_notices hstep, noticesAfter_append (s := s) (by rw [hu]; rfl)
        (show u.notices = noticesAfter s [(.adoptionApplied, a.target, 1)] by rw [hu]; rfl)]
      rfl
  · rw [State.stepEnd_of_next ha hi hx]
    exact ⟨by simp, State.enterStep_enters hx, asksCheckpoint_of_due (State.enterStep_due hx), State.enterStep_notices hx⟩
  · obtain ⟨hrun, hnotices, hdue⟩ := s.completeRun_kept
    rw [State.stepEnd_of_last ha hi hlast]
    refine ⟨by simp, s.completeRun_ended, asksCheckpoint_of_due hdue, ?_, ?_⟩
    · have hstatistics : s.completeRun.statistics = s.statistics := by simp
      rw [hrun, hstatistics]
      rfl
    · rw [hnotices, hi]; rfl

end Sys2Proof.Machine
end

section
/-! SUPPORT. What of a state a step end and an advance test look at, and what may happen around them in the same event. -/

namespace Sys2Proof.Machine

/-! ### What the run looks at -/

/-- Two states agree in everything that a step end and an advance test look at or leave, but for the memory. -/
structure State.RunAgrees (s t : State) : Prop where
  run : t.run = s.run
  schedule : t.schedule = s.schedule
  statistics : t.statistics = s.statistics
  settings : t.settings = s.settings
  clock : t.clock = s.clock
  zones : t.zones = s.zones
  outputs : t.outputs = s.outputs
  fans : t.fans = s.fans
  notices : t.notices = s.notices

theorem State.RunAgrees.finishEvent {s t : State} (h : s.RunAgrees t) : s.RunAgrees t.finishEvent := by
  obtain ⟨hrun, hschedule, hstatistics, hsettings, hclock, hzones, houtputs, hfans, hnotices⟩ := h
  constructor <;> simpa

theorem State.RunAgrees.checkpointNow {s t : State} (h : s.RunAgrees t) : t.checkpointNow = s.checkpointNow := by
  simp only [State.checkpointNow, h.run, h.schedule, h.zones]

/-- R106: a checkpoint asked for stays asked for. -/
theorem AsksCheckpoint.congr {s s' t t' : State} (h : AsksCheckpoint s t) (hs : s'.memory = s.memory)
    (ht : t.RunAgrees t') (hdue : t'.due = t.due) (hmemory : t'.memory = t.memory) : AsksCheckpoint s' t' := by
  unfold AsksCheckpoint at h ⊢
  rwa [hdue, hmemory, hs, ht.checkpointNow]

/-- R106: at the end of the event a checkpoint asked for is requested. -/
theorem AsksCheckpoint.finishEvent {s t : State} (h : AsksCheckpoint s t) (hm : t.memory = s.memory) :
    AsksCheckpoint s t.finishEvent := by
  obtain hsame | ⟨-, -, hrequested⟩ := t.finishEvent_cases
  · rwa [hsame]
  · rw [hrequested]
    exact .inr (by rw [← hm]; rfl)

theorem EntersStep.congr {s s' t t' : State} {i : Nat} {x : StepRecord} (h : EntersStep s t i x) (hs : s.RunAgrees s')
    (ht : t.RunAgrees t') : EntersStep s' t' i x := by
  have hactive : s'.zoneActive = s.zoneActive := State.zoneActive_congr (congrArg Settings.zones hs.settings)
  simpa only [EntersStep, State.zone, hactive, hs.run, hs.zones, ht.run, ht.statistics, ht.fans, ht.zones] using h

theorem RunEnded.congr {t t' : State} (h : RunEnded t) (ht : t.RunAgrees t') : RunEnded t' := by
  simpa only [RunEnded, State.zone, ht.run, ht.fans, ht.zones, ht.outputs] using h

/-- A step end is one whatever else the event does to the scanner, the ring, the link or the memory. -/
theorem StepEnds.congr {s s' t t' : State} {before : List (NoticeKind × Nat × Nat)} (h : StepEnds s t before)
    (hs : s.RunAgrees s') (ht : t.RunAgrees t') (hasks : AsksCheckpoint s t → AsksCheckpoint s' t') :
    StepEnds s' t' before := by
  obtain ⟨hadoption, hnext, hlast⟩ := h
  have hqueue (xs : List (NoticeKind × Nat × Nat)) : noticesAfter s' xs = noticesAfter s xs := by
    simp only [noticesAfter, hs.clock, hs.notices]
  refine ⟨fun a y ha hy => ?_, fun i y ha hi hy => ?_, fun i ha hi hlen => ?_⟩
  · rw [hs.schedule] at ha hy
    obtain ⟨hroles, hnone, henters, hask, hn⟩ := hadoption a y ha hy
    refine ⟨?_, ht.schedule ▸ hnone, henters.congr hs ht, hasks hask, by rw [ht.notices, hn, hqueue]⟩
    simpa only [RolesExchanged, hs.schedule, ht.schedule] using hroles
  · rw [hs.schedule] at ha hy
    rw [hs.run] at hi
    obtain ⟨hkept, henters, hask, hn⟩ := hnext i y ha hi hy
    exact ⟨by rw [ht.schedule, hkept, hs.schedule], henters.congr hs ht, hasks hask, by rw [ht.notices, hn, hqueue]⟩
  · rw [hs.schedule] at ha hlen
    rw [hs.run] at hi
    obtain ⟨hkept, hended, hask, hrun, hn⟩ := hlast i ha hi hlen
    refine ⟨by rw [ht.schedule, hkept, hs.schedule], hended.congr ht, hasks hask, ?_, by rw [ht.notices, hn, hqueue]⟩
    rw [ht.run, ht.statistics, hs.run]
    exact hrun

/-- R89: the MC-met flag of the step that ends is not looked at. -/
theorem StepEnds.of_mcMet {s t : State} {b : Bool} {before : List (NoticeKind × Nat × Nat)}
    (h : StepEnds { s with run := { s.run with mcMet := b } } t before) : StepEnds s t before := h

/-! ### The checkpoint that an event asks for -/

/-- The event has asked for a checkpoint, or has left the work due as it was. -/
def State.AsksAtMost (s t : State) : Prop := t.due = s.due ∨ t.due = { s.due with checkpoint := true }

theorem State.AsksAtMost.trans {s t u : State} (h : s.AsksAtMost t) (h' : t.AsksAtMost u) : s.AsksAtMost u := by
  obtain h | h := h <;> obtain h' | h' := h' <;> simp [State.AsksAtMost, h, h']

theorem State.enterStepFrom_asksAtMost (s : State) (i : Nat) (origin : StepRecord → ZoneId → Int) :
    s.AsksAtMost (s.enterStepFrom i origin) := by
  cases h : s.schedule.activeSteps[i]? with
  | none => simp only [State.enterStepFrom, h]; exact .inl rfl
  | some x => rw [State.enterStepFrom_of_step h]; exact .inr (by simp)

theorem State.stepEnd_asksAtMost (s : State) : s.AsksAtMost s.stepEnd := by
  cases h : s.schedule.adoption with
  | some a => rw [State.stepEnd_of_adoption h]; exact (s.adoptionTaken a).enterStepFrom_asksAtMost _ _
  | none =>
    simp only [State.stepEnd, h]
    split
    · exact .inr s.completeRun_kept.2.2
    · exact s.enterStepFrom_asksAtMost _ _

/-- R106: with nothing else due nothing is due once the event has ended. -/
theorem State.finishEvent_due {s : State} (h : s.due = .none ∨ s.due = { Due.none with checkpoint := true }) :
    s.finishEvent.due = .none := by
  obtain h | h := h
  · rw [s.finishEvent_of_due_none h, h]
  · rw [State.finishEvent, h, if_pos (by rfl)]
    rfl

end Sys2Proof.Machine
end

section
/-! SUPPORT. The publication that ends a scan, as the Run Controller takes it (R56, R58, R94, R88 to R90). -/

namespace Sys2Proof.Machine

/-! ### QUORUM judged -/

/-- R56, R58, R94: a publication queued, kept and its quorum judged; the advance test is still to come. -/
def State.publicationJudged (s : State) (p : Publication) : State :=
  ((s.noticeQuorum p).keepPublication p).judgeReason .quorum
    (decide (p.quorum = .lost) && decide (s.settings.quorumAction = .hold))

theorem State.publish_eq_judged (s : State) (n : Nat) :
    s.publish n =
      ((s.publicationJudged (s.publicationNow n)).testAtPublication (s.publicationNow n).figures).appendFrame
        (s.publicationNow n) := by
  simp [State.publish, State.runTakePublication, State.publicationJudged]

theorem State.publicationNow_quorum (s : State) (n : Nat) :
    (s.publicationNow n).quorum = if s.eligibleProbes.length < s.settings.q then .lost else .held := by
  by_cases h : s.eligibleProbes.length < s.settings.q
  · simp [State.publicationNow, h, Nat.not_le.2 h]
  · simp [State.publicationNow, h, Nat.not_lt.1 h]

/-- R58: the notice of a change of the quorum. -/
theorem State.noticeQuorum_notices (s : State) (n : Nat) :
    (s.noticeQuorum (s.publicationNow n)).notices =
      noticesAfter s (quorumNotices s s.eligibleProbes.length) := by
  cases hg : s.run.state.going with
  | false => simp [State.noticeQuorum, quorumNotices, hg, noticesAfter]
  | true =>
    by_cases h : s.eligibleProbes.length < s.settings.q
    · have hlost : (s.publicationNow n).quorum = .lost := by rw [s.publicationNow_quorum, if_pos h]
      cases hk : s.statistics.keptQuorum with
      | held | lost => simp only [State.noticeQuorum, quorumNotices, hg, hk, hlost, h, if_true, decide_true]; rfl
    · have hheld : (s.publicationNow n).quorum = .held := by rw [s.publicationNow_quorum, if_neg h]
      cases hk : s.statistics.keptQuorum with
      | held | lost => simp only [State.noticeQuorum, quorumNotices, hg, hk, hheld, h, if_true, decide_false]; rfl

@[simp] theorem State.publicationJudged_frame (s : State) (p : Publication) :
    (s.publicationJudged p).powered = s.powered ∧
    (s.publicationJudged p).ready = s.ready ∧
    (s.publicationJudged p).straps = s.straps ∧
    (s.publicationJudged p).clock = s.clock ∧
    (s.publicationJudged p).settings = s.settings ∧
    (s.publicationJudged p).scanner = s.scanner ∧
    (s.publicationJudged p).probes = s.probes ∧
    (s.publicationJudged p).statistics = { latest := some p, keptQuorum := p.quorum } ∧
    (s.publicationJudged p).schedule = s.schedule ∧
    (s.publicationJudged p).sampler = s.sampler ∧
    (s.publicationJudged p).zones = s.zones ∧
    (s.publicationJudged p).outputs = s.outputs ∧
    (s.publicationJudged p).fans = s.fans ∧
    (s.publicationJudged p).interlocks = s.interlocks ∧
    (s.publicationJudged p).history = s.history ∧
    (s.publicationJudged p).link = s.link ∧
    (s.publicationJudged p).memory = s.memory ∧
    (s.publicationJudged p).draws = s.draws ∧
    (s.publicationJudged p).pending = s.pending := by
  simp [State.publicationJudged, State.keepPublication]

/-- R58, R94, R97, R106: what the judgement leaves of the run, the queue and the work due. -/
theorem State.publicationJudged_judges (s : State) (n : Nat) :
    let v := s.publicationJudged (s.publicationNow n)
    (∃ notices,
      ReasonJudged s.run .quorum 3 (s.eligibleProbes.length < s.settings.q ∧ s.settings.quorumAction = .hold) v.run
          notices ∧
        v.notices = noticesAfter s (quorumNotices s s.eligibleProbes.length ++ notices)) ∧
      (v.run.state = s.run.state → v.due = s.due) ∧
      (v.run.state ≠ s.run.state → v.due = { s.due with checkpoint := true }) := by
  obtain ⟨u, hu⟩ : ∃ u, u = (s.noticeQuorum (s.publicationNow n)).keepPublication (s.publicationNow n) := ⟨_, rfl⟩
  obtain ⟨⟨notices, hjudged, hn⟩, hsame, hchanged⟩ := u.judgeReason_judges .quorum
    (decide ((s.publicationNow n).quorum = .lost) && decide (s.settings.quorumAction = .hold))
  have hrun : u.run = s.run := by simp [hu]
  have hdue : u.due = s.due := by simp [hu]
  have hqueue : u.notices = noticesAfter s (quorumNotices s s.eligibleProbes.length) := by
    rw [← s.noticeQuorum_notices n, hu]; simp
  have hpresent : ((decide ((s.publicationNow n).quorum = .lost) && decide (s.settings.quorumAction = .hold)) = true) =
      (s.eligibleProbes.length < s.settings.q ∧ s.settings.quorumAction = .hold) := by
    rw [s.publicationNow_quorum]
    by_cases h : s.eligibleProbes.length < s.settings.q <;> simp [h]
  rw [hrun] at hjudged hsame hchanged
  rw [hdue] at hsame hchanged
  rw [hpresent] at hjudged
  simp only [State.publicationJudged, ← hu]
  exact ⟨⟨notices, hjudged, by rw [hn, noticesAfter_append (by simp [hu]) hqueue]⟩, hsame, hchanged⟩

/-! ### The advance test at a publication -/

section
variable {s : State} {x : StepRecord} (hx : s.currentStep = some x)
include hx

theorem State.evaluatedStep_iff : s.evaluatedStep = some x ↔ s.Evaluates x.test x := by
  simp [State.evaluatedStep, hx, State.minimumMet, State.Evaluates, Option.filter_some]

theorem State.evaluatedStep_eq_none (h : ¬ s.Evaluates x.test x) : s.evaluatedStep = none := by
  by_cases hs : s.run.state = .running
  · have hnot : s.minimumMet x = false := decide_eq_false fun hmin => h ⟨hs, hx, rfl, hmin⟩
    rw [State.evaluatedStep, if_pos hs, hx, Option.filter_some, hnot]
    rfl
  · rw [State.evaluatedStep, if_neg hs]

end

theorem State.mcPasses_iff (s : State) (x : StepRecord) : mcPasses x s.latestFigures = true ↔ s.McPartPasses x := by
  unfold mcPasses State.McPartPasses State.latestFigures
  constructor
  · intro h
    split at h
    · rename_i f st limit hf hst hlimit
      obtain ⟨p, hp, hpf⟩ := Option.bind_eq_some_iff.1 hf
      refine ⟨p, f, st, limit, hp, hpf, hst, hlimit, ?_⟩
      have hle := of_decide_eq_true h
      cases st <;> exact hle
    · cases h
  · rintro ⟨p, f, st, limit, hp, hpf, hst, hlimit, hle⟩
    simp only [hp, Option.bind_some, hpf, hst, hlimit]
    refine decide_eq_true ?_
    cases st <;> exact hle

theorem State.hoursMet_iff (s : State) (x : StepRecord) :
    s.hoursMet x = true ↔ ∃ h, x.testHours = some h ∧ 60 * h ≤ s.run.stepMinutes := by
  simp [State.hoursMet, Option.any_eq_true]

section
variable {s : State} {x : StepRecord} (hx : s.currentStep = some x)
include hx

/-- R88 to R90: a test that passes ends the step; an MC_AND_HOURS test may set MC-met before. -/
theorem State.testAtPublication_passes (h : s.PublicationTestPasses x) :
    ∃ b, s.testAtPublication s.latestFigures = ({ s with run := { s.run with mcMet := b } } : State).stepEnd := by
  obtain ⟨hevaluates, hpasses⟩ := h
  have hstep := (State.evaluatedStep_iff hx).2 hevaluates
  obtain ⟨htest | htest, hmc⟩ | ⟨htest, hmet, hhours⟩ := hpasses
  · exact ⟨s.run.mcMet, by simp only [State.testAtPublication, hstep, htest, (s.mcPasses_iff x).2 hmc, if_true]⟩
  · exact ⟨s.run.mcMet, by simp only [State.testAtPublication, hstep, htest, (s.mcPasses_iff x).2 hmc, if_true]⟩
  · have hover : s.hoursMet x = true := (s.hoursMet_iff x).2 hhours
    by_cases hmc : s.McPartPasses x
    · refine ⟨true, ?_⟩
      have hkept : ({ s with run := { s.run with mcMet := true } } : State).hoursMet x = true := hover
      simp [State.testAtPublication, hstep, htest, (s.mcPasses_iff x).2 hmc, hkept]
    · have hnot : mcPasses x s.latestFigures = false := by rw [← Bool.not_eq_true, s.mcPasses_iff]; exact hmc
      have hbefore : s.run.mcMet = true := hmet.resolve_right hmc
      refine ⟨s.run.mcMet, ?_⟩
      show s.testAtPublication s.latestFigures = s.stepEnd
      simp [State.testAtPublication, hstep, htest, hnot, hbefore, hover]

/-- R89: an MC_AND_HOURS test whose MC part alone passes sets MC-met. -/
theorem State.testAtPublication_setsMet (h : ¬ s.PublicationTestPasses x) (he : s.Evaluates .mcAndHours x)
    (hmc : s.McPartPasses x) : s.testAtPublication s.latestFigures = { s with run := { s.run with mcMet := true } } := by
  obtain ⟨-, -, htest, -⟩ := id he
  have hevaluates : s.Evaluates x.test x := by rw [htest]; exact he
  have hnot : s.hoursMet x = false := by
    rw [← Bool.not_eq_true, s.hoursMet_iff]
    exact fun hhours => h ⟨hevaluates, .inr ⟨htest, .inr hmc, hhours⟩⟩
  have hkept : ({ s with run := { s.run with mcMet := true } } : State).hoursMet x = false := hnot
  simp [State.testAtPublication, (State.evaluatedStep_iff hx).2 hevaluates, htest, (s.mcPasses_iff x).2 hmc, hkept]

/-- R88, R90: any other test that does not pass leaves the run as it is. -/
theorem State.testAtPublication_goesOn (h : ¬ s.PublicationTestPasses x)
    (hmc : ¬ s.Evaluates .mcAndHours x ∨ ¬ s.McPartPasses x) : s.testAtPublication s.latestFigures = s := by
  by_cases hevaluates : s.Evaluates x.test x
  · have hstep := (State.evaluatedStep_iff hx).2 hevaluates
    have hfails (hkind : x.test.isMc = true) (hpass : s.McPartPasses x) : x.test = .mcAndHours := by
      cases htest : x.test with
      | mcAndHours => rfl
      | mc => exact absurd ⟨hevaluates, .inl ⟨.inl htest, hpass⟩⟩ h
      | mcOrHours => exact absurd ⟨hevaluates, .inl ⟨.inr htest, hpass⟩⟩ h
      | settled | cooled | hours => rw [htest] at hkind; cases hkind
    have hmcFails (hkind : x.test.isMc = true) : mcPasses x s.latestFigures = false := by
      rw [← Bool.not_eq_true, s.mcPasses_iff]
      exact fun hpass => hmc.elim (· (hfails hkind hpass ▸ hevaluates)) (· hpass)
    cases htest : x.test with
    | settled | cooled | hours => simp only [State.testAtPublication, hstep, htest]
    | mc | mcOrHours =>
      simp [State.testAtPublication, hstep, htest, hmcFails (by rw [htest]; rfl)]
    | mcAndHours =>
      have hnot : ¬ (s.run.mcMet = true ∧ s.hoursMet x = true) := fun ⟨hmet, hhours⟩ =>
        h ⟨hevaluates, .inr ⟨htest, .inl hmet, (s.hoursMet_iff x).1 hhours⟩⟩
      simp only [State.testAtPublication, hstep, htest, hmcFails (by rw [htest]; rfl), Bool.false_eq_true, if_false,
        Bool.and_eq_true, if_neg hnot]
  · simp only [State.testAtPublication, State.evaluatedStep_eq_none hx hevaluates]

end

theorem State.PublicationTestPasses.congr {s t : State} {x : StepRecord} (h : s.RunAgrees t) :
    t.PublicationTestPasses x ↔ s.PublicationTestPasses x := by
  simp only [State.PublicationTestPasses, State.Evaluates, State.McPartPasses, State.currentStep, h.run, h.schedule,
    h.statistics]

end Sys2Proof.Machine
end

section
/-! SUPPORT. The event that ends a scan's last measurement: its reading, the publication, the advance test, and the scanner
gone on (R8, R11, R56, R94). -/

namespace Sys2Proof.Machine

/-! ### States by their blocks -/

theorem State.eq_of_blocks {s t : State}
    (h : s.powered = t.powered ∧ s.ready = t.ready ∧ s.straps = t.straps ∧ s.clock = t.clock ∧ s.settings = t.settings ∧
      s.scanner = t.scanner ∧ s.probes = t.probes ∧ s.statistics = t.statistics ∧ s.schedule = t.schedule ∧
      s.run = t.run ∧ s.sampler = t.sampler ∧ s.zones = t.zones ∧ s.outputs = t.outputs ∧ s.fans = t.fans ∧
      s.interlocks = t.interlocks ∧ s.history = t.history ∧ s.notices = t.notices ∧ s.link = t.link ∧
      s.memory = t.memory ∧ s.due = t.due ∧ s.draws = t.draws ∧ s.pending = t.pending) : s = t := by
  cases s; cases t; simpa using h

/-! ### The reading of the last measurement -/

theorem faultNotices_of_faulted {p : Fin 48} {before : ProbeRecord} (h : before.state = .faulted) (after : ProbeRecord) :
    faultNotices p before after = [] := by
  unfold faultNotices
  split
  · exact if_neg fun hne => hne.1 h
  · rfl

theorem faultNotices_self (p : Fin 48) (r : ProbeRecord) : faultNotices p r r = [] := by
  unfold faultNotices
  split
  · exact if_neg fun hne => hne.1 hne.2
  · rfl

/-- R49: a hand-over queues the notice of the fault its reading brings. -/
theorem State.handOver_notices (s : State) (m : Measurement) (outcome : Outcome) (nPlus : Nat) (nMinus : Option Nat) :
    (s.handOver m outcome nPlus nMinus).notices =
      noticesAfter s
        (faultNotices m.probe (s.probe m.probe) ((s.handOver m outcome nPlus nMinus).probe m.probe)) := by
  cases ha : (s.probe m.probe).assignment with
  | none =>
    have hsame : s.handOver m outcome nPlus nMinus = s := by simp only [State.handOver, ha]
    rw [hsame, faultNotices_self]
    rfl
  | some a => rw [State.handOver_of_assigned ha, s.applyReading_notices, s.applyReading_probe_self]

/-- What a publication shows of a record. -/
def ProbeRecord.SameShown (r x : ProbeRecord) : Prop :=
  x.assignment = r.assignment ∧ x.state = r.state ∧ x.values = r.values

theorem State.publicationNow_of_sameShown {s t : State} (h : ∀ q, (s.probe q).SameShown (t.probe q))
    (hc : t.clock = s.clock) (hs : t.settings = s.settings) (n : Nat) : t.publicationNow n = s.publicationNow n := by
  have hassignment (q : Fin 48) : (t.probe q).assignment = (s.probe q).assignment := (h q).1
  have hstate (q : Fin 48) : (t.probe q).state = (s.probe q).state := (h q).2.1
  have hfiltered (q : Fin 48) : (t.probe q).filtered = (s.probe q).filtered := congrArg filteredMc (h q).2.2
  have hrecord (q : Fin 48) : (t.probe q).eligible = (s.probe q).eligible := by
    simp only [ProbeRecord.eligible, hassignment, hstate]
  have heligible : t.eligibleProbes = s.eligibleProbes := by
    simp only [State.eligibleProbes, hrecord, hfiltered]
  have hentries : t.probeEntries = s.probeEntries := by
    simp only [State.probeEntries, hassignment, hstate, hfiltered]
  simp only [State.publicationNow, heligible, hentries, hc, hs]

/-- R50: the reading of a FAULTED probe changes nothing that a publication shows. -/
theorem State.handOver_publicationNow_of_faulted {s : State} {m : Measurement} (h : (s.probe m.probe).state = .faulted)
    (outcome : Outcome) (nPlus : Nat) (nMinus : Option Nat) (n : Nat) :
    (s.handOver m outcome nPlus nMinus).publicationNow n = s.publicationNow n := by
  refine State.publicationNow_of_sameShown (fun q => ?_) (by simp) (by simp) n
  by_cases hq : q = m.probe
  · subst hq
    cases ha : (s.probe m.probe).assignment with
    | none => simp only [State.handOver, ha]; exact ⟨rfl, rfl, rfl⟩
    | some a =>
      rw [State.handOver_of_assigned ha, s.applyReading_probe_self, ProbeRecord.apply_of_faulted h]
      exact ⟨rfl, rfl, rfl⟩
  · rw [s.handOver_probe_ne hq]
    exact ⟨rfl, rfl, rfl⟩

/-! ### The publication taken -/

/-- A state with the table, the statistics, the run and the queue of another. -/
def State.taking (s v : State) : State :=
  { s with probes := v.probes, statistics := v.statistics, run := v.run, notices := v.notices }

/-- R8, R11, R49, R56, R58, R94: the reading of the last measurement and the publication have been taken up to the advance
test, which comes next in the event. -/
structure State.TakesPublication (s : State) (p : Fin 48) (v : State) : Prop where
  taken : PublicationTaken s p (s.taking v)
  unchanged : (s.probe p).state = .faulted →
    (s.taking v).publicationNow s.scanner.scanNumber = s.publicationNow s.scanner.scanNumber
  others : v = { s.taking v with scanner := v.scanner, due := v.due }
  stepIndex : v.run.stepIndex = s.run.stepIndex
  due_of_same : v.run.state = s.run.state → v.due = s.due
  due_of_changed : v.run.state ≠ s.run.state → v.due = { s.due with checkpoint := true }

theorem State.judgeReason_stepIndex (s : State) (r : HoldReason) (present : Bool) :
    (s.judgeReason r present).run.stepIndex = s.run.stepIndex := by
  unfold State.judgeReason State.addReason State.removeReason State.resumeIfEmpty
  (repeat' split) <;> simp

theorem State.publicationJudged_stepIndex (s : State) (p : Publication) :
    (s.publicationJudged p).run.stepIndex = s.run.stepIndex := by
  rw [State.publicationJudged, State.judgeReason_stepIndex]
  simp

theorem State.handOver_takesPublication (s : State) (m : Measurement) (outcome : Outcome) (nPlus : Nat)
    (nMinus : Option Nat) {w : State}
    (hw : w = (s.handOver m outcome nPlus nMinus).setScanner { s.scanner with excitation := .off, measurement := none }) :
    s.TakesPublication m.probe (w.publicationJudged (w.publicationNow s.scanner.scanNumber)) := by
  obtain ⟨⟨notices, hjudged, hn⟩, hsame, hchanged⟩ := w.publicationJudged_judges s.scanner.scanNumber
  obtain ⟨v, hv⟩ : ∃ v, v = w.publicationJudged (w.publicationNow s.scanner.scanNumber) := ⟨_, rfl⟩
  have hrun : w.run = s.run := by simp [hw]
  have hdue : w.due = s.due := by simp [hw]
  have hsettings : w.settings = s.settings := by simp [hw]
  have hshown : (s.taking v).publicationNow s.scanner.scanNumber = w.publicationNow s.scanner.scanNumber :=
    State.publicationNow_congr (by simp [hv, State.taking]) (by simp [hw, State.taking]) (by simp [hw, State.taking]) _
  have hcount : (s.taking v).eligibleProbes.length = w.eligibleProbes.length := congrArg Publication.eligible hshown
  have hprobe : (s.taking v).probe m.probe = (s.handOver m outcome nPlus nMinus).probe m.probe := by
    simp [State.probe, State.taking, hv, hw]
  have hqueue : w.notices =
      noticesAfter s (faultNotices m.probe (s.probe m.probe) ((s.taking v).probe m.probe)) := by
    rw [hprobe, ← s.handOver_notices, hw]; simp
  have hquorum : quorumNotices w w.eligibleProbes.length = quorumNotices s w.eligibleProbes.length := by
    have hstatistics : w.statistics = s.statistics := by simp [hw]
    simp only [quorumNotices, hrun, hstatistics, hsettings]
  rw [← hv] at hjudged hn hsame hchanged ⊢
  rw [hrun] at hjudged hsame hchanged
  rw [hdue] at hsame hchanged
  rw [hsettings] at hjudged
  refine ⟨⟨rfl, ?_, notices, ?_, ?_⟩, fun hf => ?_, State.eq_of_blocks ?_, ?_, hsame, hchanged⟩
  · rw [hshown, hcount, ← hsettings, ← w.publicationNow_quorum s.scanner.scanNumber]
    simp [State.taking, hv]
  · rw [hcount]; exact hjudged
  · rw [hcount, List.append_assoc, ← hquorum]
    show v.notices = _
    rw [hn, noticesAfter_append (by simp [hw]) hqueue]
  · rw [hshown, hw]
    exact (State.publicationNow_congr rfl rfl rfl _).trans (State.handOver_publicationNow_of_faulted hf _ _ _ _)
  · simp [State.taking, hv, hw]
  · rw [hv, State.publicationJudged_stepIndex, hrun]

end Sys2Proof.Machine
end

section
/-! LostQuorumHoldsTheRun; and how an event with a publication ends, for it and for SetsAndPublicationsEndSteps. -/

namespace Sys2Proof.Machine

/-! ### The event of the last measurement -/

/-- R11, R155, R106: after the advance test: the frame appended, the scanner gone on, the event ended. -/
def State.publicationOver (v : State) (p : Publication) (x : Scanner) : State :=
  ((v.appendFrame p).setScanner x).finishEvent

theorem State.runAgrees_publicationOver (v : State) (p : Publication) (x : Scanner) :
    v.RunAgrees (v.publicationOver p x) :=
  State.RunAgrees.finishEvent ⟨rfl, rfl, rfl, rfl, rfl, rfl, rfl, rfl, rfl⟩

theorem State.publicationOver_memory {v : State} (h : v.due = .none) (p : Publication) (x : Scanner) :
    (v.publicationOver p x).memory = v.memory := by
  rw [State.publicationOver, State.finishEvent_of_due_none ((v.appendFrame p).setScanner x) h]
  rfl

/-- R106: the checkpoint asked for is requested. -/
theorem AsksCheckpoint.publicationOver {s v : State} (h : AsksCheckpoint s v) (hm : v.memory = s.memory) (p : Publication)
    (x : Scanner) : AsksCheckpoint s (v.publicationOver p x) := by
  have hbefore : AsksCheckpoint s ((v.appendFrame p).setScanner x) :=
    h.congr rfl ⟨rfl, rfl, rfl, rfl, rfl, rfl, rfl, rfl, rfl⟩ rfl rfl
  exact hbefore.finishEvent hm

/-- R11: a scan that is over publishes, and the scanner rests or selects the first probe of the next scan. -/
theorem State.completeScan_eq {s : State} (h : s.scanner.startDue = false ∨ ∃ p, (s.probe p).qualifies = true) :
    ∃ x, s.completeScan = s.publishScan.setScanner x := by
  cases hdue : s.scanner.startDue with
  | false => exact ⟨_, State.completeScan_of_not_due hdue⟩
  | true =>
    obtain ⟨p, hp⟩ := h.resolve_left (by simp [hdue])
    have hprobe (q : Fin 48) : s.publishScan.probe q = s.probe q := by simp [State.probe]
    cases hnext : s.publishScan.nextProbe 0 with
    | some q => exact ⟨_, by rw [State.completeScan_of_due hdue, State.startScan_of_next hnext]⟩
    | none =>
      have hnone := (State.nextProbe_eq_none_iff _ _).1 hnext p (zero_lt_probeNumber p)
      rw [hprobe, hp] at hnone
      cases hnone

/-- R8, R11, R56, R88, R94: the event of any last measurement: publication, advance test, and what follows. -/
theorem exec_lastMeasurement {s : State} {m : Measurement} {c : Instr} {n : Nat} {outcome : Outcome} (hc : CountsTo c n)
    (ha : s.Awake) (hm : s.scanner.measurement = some m) (hends : EndsMeasurement m n outcome)
    (hlast : ∀ p, m.probe < p → (s.probe p).qualifies = false)
    (hdue : s.scanner.startDue = false ∨ ∃ p, (s.probe p).qualifies = true) :
    ∃ v p x, s.TakesPublication m.probe v ∧
      exec c s = .next ((v.testAtPublication v.latestFigures).publicationOver p x) := by
  obtain ⟨u, hu⟩ : ∃ u, u = s.handOver m outcome (m.nPlus.getD n) (m.nPlus.map fun _ => n) := ⟨_, rfl⟩
  have hscanner : u.scanner = s.scanner := by simp [hu]
  have hover : u.nextProbe (probeNumber m.probe) = none := by
    rw [hu, s.handOver_nextProbe, s.nextProbe_eq_none_iff]
    exact fun q hmq => hlast q ((probeNumber_lt_iff _ _).1 hmq)
  have hdue' : u.scanner.startDue = false ∨ ∃ p, (u.probe p).qualifies = true := by
    rw [hscanner, hu]
    exact hdue.imp id fun ⟨p, hp⟩ => ⟨p, by rw [s.handOver_qualifies, hp]⟩
  obtain ⟨x, hx⟩ := State.completeScan_eq hdue'
  obtain ⟨w, hw⟩ : ∃ w, w = u.setScanner { s.scanner with excitation := .off, measurement := none } := ⟨_, rfl⟩
  have hpublished : u.publishScan = w.publish s.scanner.scanNumber := by rw [State.publishScan, hscanner, ← hw]
  have htaken := s.handOver_takesPublication m outcome (m.nPlus.getD n) (m.nPlus.map fun _ => n) (w := w) (by rw [hw, hu])
  refine ⟨_, w.publicationNow s.scanner.scanNumber, x, htaken, ?_⟩
  have hfigures : (w.publicationJudged (w.publicationNow s.scanner.scanNumber)).latestFigures =
      (w.publicationNow s.scanner.scanNumber).figures := by
    simp [State.latestFigures]
  rw [exec_of_countsTo hc ha, State.countEnds_of_ends hm hends, State.endMeasurement, ← hu,
    State.advanceScan_of_none hover, hx, hpublished, State.publish_eq_judged, hfigures]
  rfl

/-! ### What the run looks at after the publication -/

namespace State.TakesPublication
variable {s v : State} {p : Fin 48} (h : s.TakesPublication p v)
include h

theorem runAgrees : v.RunAgrees (s.taking v) := by
  obtain ⟨x, d, hv⟩ : ∃ x d, v = { s.taking v with scanner := x, due := d } := ⟨_, _, h.others⟩
  constructor <;> rw [hv] <;> rfl

theorem memory : v.memory = s.memory := by
  rw [h.others]; rfl

theorem schedule : v.schedule = s.schedule := h.runAgrees.schedule.symm

theorem currentStep : v.currentStep = s.currentStep := by
  simp only [State.currentStep, h.stepIndex, h.schedule]

/-- R106: the run state changed has asked for a checkpoint. -/
theorem asksCheckpoint (hstate : v.run.state ≠ s.run.state) : AsksCheckpoint s v :=
  asksCheckpoint_of_due (h.due_of_changed hstate)

end State.TakesPublication

theorem State.testAtPublication_of_none {s : State} (h : s.evaluatedStep = none) (f : Option McFigures) :
    s.testAtPublication f = s := by
  simp only [State.testAtPublication, h]

/-- R88: with no MC test in force a publication ends no step. -/
theorem State.testAtPublication_of_noMc {s : State} (h : ∀ x, s.currentStep = some x → x.test.isMc = false)
    (f : Option McFigures) : s.testAtPublication f = s := by
  cases he : s.evaluatedStep with
  | none => exact State.testAtPublication_of_none he f
  | some x =>
    have hx : s.currentStep = some x := by
      unfold State.evaluatedStep at he
      split at he
      · exact (Option.filter_eq_some_iff.1 he).1
      · cases he
    have hnot := h x hx
    cases htest : x.test with
    | settled | cooled | hours => simp only [State.testAtPublication, he, htest]
    | mc | mcOrHours | mcAndHours => rw [htest] at hnot; cases hnot

/-- R97: a reason added to a RUNNING run without reasons. -/
theorem ReasonJudged.added {r after : Run} {reason : HoldReason} {code : Nat} {present : Prop}
    {notices : List (NoticeKind × Nat × Nat)} (h : ReasonJudged r reason code present after notices)
    (hs : r.state = .running) (hr : r.reasons = .empty) (hp : present) :
    after = { r with state := .held, reasons := HoldSet.empty.put reason true, inBand := false } ∧
      notices = [(.runHeld, code, (HoldSet.empty.put reason true).count)] := by
  have habsent : r.reasons.has reason = false := by rw [hr]; cases reason <;> rfl
  have hadded := (h.2.1 (by rw [hs]; rfl) hp habsent).1 hs
  rwa [hr] at hadded

theorem State.eligibleProbes_congr {s t : State} (h : t.probes = s.probes) : t.eligibleProbes = s.eligibleProbes := by
  have hprobe : t.probe = s.probe := funext fun p => by rw [State.probe, h]; rfl
  unfold State.eligibleProbes
  rw [hprobe]

/-- Settles O22: the publication is taken as R58, R94 and R97 have it, and no test follows: with no MC test in force, and in
a run that the publication has held, the step goes on. -/
theorem lostQuorumHoldsTheRun : Obligations.LostQuorumHoldsTheRun := by
  unfold Obligations.LostQuorumHoldsTheRun
  refine ⟨fun s m c n outcome hc ha hm hends hlast hdue hnoMc => ?_,
    fun s m c n hc ha hm hphase hplus hn hrange hfaulted hlast hdue hlost hhold hs hr hkept => ?_⟩
  · obtain ⟨v, p, x, hv, hexec⟩ := exec_lastMeasurement hc ha hm hends hlast (.inl hdue)
    rw [State.testAtPublication_of_noMc (by rw [hv.currentStep]; exact hnoMc)] at hexec
    obtain ⟨-, hstatistics, notices, hjudged, hqueue⟩ := hv.taken
    have hview := v.runAgrees_publicationOver p x
    have hprobes : (v.publicationOver p x).probes = v.probes := by simp [State.publicationOver]
    have heligible : (v.publicationOver p x).eligibleProbes = (s.taking v).eligibleProbes :=
      State.eligibleProbes_congr hprobes
    have hprobe : (v.publicationOver p x).probe m.probe = (s.taking v).probe m.probe := by
      simp only [State.probe, hprobes, State.taking]
    refine ⟨_, notices, hexec, ?_⟩
    dsimp only
    rw [heligible, hprobe, hview.run, hview.notices, hview.statistics, hview.zones, hview.fans, hview.outputs,
      hview.schedule, hview.settings]
    refine ⟨hjudged, hqueue, congrArg Statistics.keptQuorum hstatistics, fun hstate => ?_, fun hstate => ?_,
      hv.runAgrees.zones.symm, hv.runAgrees.fans.symm, hv.runAgrees.outputs.symm, hv.schedule, hv.runAgrees.settings.symm⟩
    · rw [State.publicationOver_memory ((hv.due_of_same hstate).trans ha.due_none), hv.memory]
    · exact (hv.asksCheckpoint hstate).publicationOver hv.memory p x
  · have hends : EndsMeasurement m n .dryLimit := ⟨hphase, .inl ⟨hplus, .inr (.inl ⟨hn, hrange, rfl⟩)⟩⟩
    obtain ⟨v, p, x, hv, hexec⟩ := exec_lastMeasurement hc ha hm hends hlast (.inl hdue)
    obtain ⟨-, hstatistics, notices, hjudged, hqueue⟩ := hv.taken
    have hcount : (s.taking v).eligibleProbes.length = s.eligibleProbes.length :=
      congrArg Publication.eligible (hv.unchanged hfaulted)
    rw [hcount, faultNotices_of_faulted hfaulted] at hqueue
    rw [hcount, hv.unchanged hfaulted] at hstatistics
    rw [hcount] at hjudged
    obtain ⟨hrun, hnotices⟩ := hjudged.added hs hr ⟨hlost, hhold⟩
    have hheld : v.evaluatedStep = none := if_neg (by rw [show v.run = _ from hrun]; simp)
    rw [State.testAtPublication_of_none hheld] at hexec
    have hview := v.runAgrees_publicationOver p x
    refine ⟨_, hexec, ?_⟩
    rw [hview.run, hview.notices, hview.statistics, hview.zones, hview.fans, hview.schedule]
    refine ⟨hrun, ?_, ?_, ?_, ?_, ?_, hv.runAgrees.zones.symm, hv.runAgrees.fans.symm, hv.schedule⟩
    · refine hqueue.trans ?_
      rw [hnotices]
      simp [quorumNotices, hs, hkept, hlost, RunState.going]
      rfl
    · rw [show v.statistics = _ from hstatistics, if_pos hlost]
    · rw [show v.statistics = _ from hstatistics]
      simp [State.publicationNow, Nat.not_le.2 hlost]
    · rw [show v.statistics = _ from hstatistics]
      rfl
    · exact (hv.asksCheckpoint (by rw [show v.run = _ from hrun, hs]; simp)).publicationOver hv.memory p x

end Sys2Proof.Machine
end

section
/-! SUPPORT. The advance test at a publication: the step ends, or it goes on (R88 to R90, R95). -/

namespace Sys2Proof.Machine

theorem State.RunAgrees.refl (s : State) : s.RunAgrees s := ⟨rfl, rfl, rfl, rfl, rfl, rfl, rfl, rfl, rfl⟩

namespace State.TakesPublication
variable {s v : State} {p : Fin 48} (h : s.TakesPublication p v)
include h

theorem frame : v.powered = s.powered ∧ v.ready = s.ready ∧ v.straps = s.straps ∧ v.clock = s.clock ∧
    v.settings = s.settings ∧ v.sampler = s.sampler ∧ v.zones = s.zones ∧ v.outputs = s.outputs ∧ v.fans = s.fans ∧
    v.interlocks = s.interlocks ∧ v.history = s.history ∧ v.link = s.link ∧ v.draws = s.draws ∧ v.pending = s.pending := by
  obtain ⟨x, d, hv⟩ : ∃ x d, v = { s.taking v with scanner := x, due := d } := ⟨_, _, h.others⟩
  refine ⟨?_, ?_, ?_, ?_, ?_, ?_, ?_, ?_, ?_, ?_, ?_, ?_, ?_, ?_⟩ <;> rw [hv] <;> rfl

theorem asksAtMost : s.AsksAtMost v := by
  by_cases hstate : v.run.state = s.run.state
  · exact .inl (h.due_of_same hstate)
  · exact .inr (h.due_of_changed hstate)

/-- R88 to R90, R95: the event in which the test ends the step. -/
theorem endsStep (hd : s.due = .none) (b : Bool) (q : Publication) (y : Scanner) :
    let t := (({ v with run := { v.run with mcMet := b } } : State).stepEnd).publicationOver q y
    StepEnds (s.taking v) t [] ∧
      t =
        { s.taking v with
          scanner := t.scanner, run := t.run, zones := t.zones, outputs := t.outputs, fans := t.fans
          schedule := t.schedule, history := t.history, notices := t.notices, memory := t.memory } := by
  obtain ⟨v', hv'⟩ : ∃ v', v' = ({ v with run := { v.run with mcMet := b } } : State).stepEnd := ⟨_, rfl⟩
  obtain ⟨hpowered, hready, hstraps, hclock, hsettings, hsampler, -, -, -, hinterlocks, -, hlink, hdraws,
    hpending⟩ := h.frame
  have hmemory : v'.memory = s.memory := by rw [← h.memory, hv']; simp
  have hends : StepEnds v v' [] := StepEnds.of_mcMet (b := b) (hv' ▸ State.stepEnd_ends _)
  have hdue : (v'.publicationOver q y).due = .none := by
    have hafter : s.AsksAtMost v' :=
      h.asksAtMost.trans (hv' ▸ ({ v with run := { v.run with mcMet := b } } : State).stepEnd_asksAtMost)
    rw [State.AsksAtMost, hd] at hafter
    exact State.finishEvent_due hafter
  rw [← hv']
  refine ⟨hends.congr h.runAgrees (v'.runAgrees_publicationOver q y) fun hasks => ?_, State.eq_of_blocks ?_⟩
  · have hfrom : AsksCheckpoint (s.taking v) v' := hasks.congr h.memory.symm (State.RunAgrees.refl v') rfl rfl
    exact hfrom.publicationOver hmemory q y
  · rw [hdue]
    simp [State.publicationOver, State.taking, hv', hpowered, hready, hstraps, hclock, hsettings, hsampler,
      hinterlocks, hlink, hdraws, hpending, hd]

/-- R88, R90, R106: the event in which the step goes on, its run as the test has left it. -/
theorem goesOn (hd : s.due = .none) (r : Run) (q : Publication) (y : Scanner) :
    let t := ({ v with run := r } : State).publicationOver q y
    t = { s.taking v with scanner := t.scanner, run := t.run, history := t.history, memory := t.memory } ∧ t.run = r ∧
      (v.run.state = s.run.state → t.memory = s.memory) ∧ (v.run.state ≠ s.run.state → AsksCheckpoint s t) := by
  obtain ⟨v', hv'⟩ : ∃ v' : State, v' = { v with run := r } := ⟨_, rfl⟩
  obtain ⟨hpowered, hready, hstraps, hclock, hsettings, hsampler, hzones, houtputs, hfans, hinterlocks, -, hlink, hdraws,
    hpending⟩ := h.frame
  have hmemory : v'.memory = s.memory := by rw [← h.memory, hv']
  have hdue' : v'.due = v.due := by rw [hv']
  have hdue : (v'.publicationOver q y).due = .none := by
    have hafter := h.asksAtMost
    rw [State.AsksAtMost, ← hdue', hd] at hafter
    exact State.finishEvent_due hafter
  rw [← hv']
  refine ⟨State.eq_of_blocks ?_, ?_, fun hstate => ?_, fun hstate => ?_⟩
  · rw [hdue]
    simp [State.publicationOver, State.taking, hv', hpowered, hready, hstraps, hclock, hsettings, hsampler, hzones,
      houtputs, hfans, hinterlocks, hlink, hdraws, hpending, hd, h.schedule]
  · rw [(v'.runAgrees_publicationOver q y).run, hv']
  · rw [State.publicationOver_memory (hdue'.trans ((h.due_of_same hstate).trans hd)), hmemory]
  · exact AsksCheckpoint.publicationOver (asksCheckpoint_of_due (hdue'.trans (h.due_of_changed hstate))) hmemory q y

end State.TakesPublication

/-- R88 to R90, R94, R95: what becomes of the step in force in the event of a publication, from the state `u` that the
publication has left. -/
def TestFollows (s u t : State) (x : StepRecord) : Prop :=
  (u.PublicationTestPasses x →
    StepEnds u t [] ∧
      t =
        { u with
          scanner := t.scanner, run := t.run, zones := t.zones, outputs := t.outputs, fans := t.fans
          schedule := t.schedule, history := t.history, notices := t.notices, memory := t.memory }) ∧
  (¬ u.PublicationTestPasses x →
    t = { u with scanner := t.scanner, run := t.run, history := t.history, memory := t.memory } ∧
      (u.Evaluates .mcAndHours x → u.McPartPasses x → t.run = { u.run with mcMet := true }) ∧
      (¬ u.Evaluates .mcAndHours x ∨ ¬ u.McPartPasses x → t.run = u.run) ∧
      (u.run.state = s.run.state → t.memory = s.memory) ∧ (u.run.state ≠ s.run.state → AsksCheckpoint s t))

theorem State.Evaluates.congr {s t : State} {test : StepTest} {x : StepRecord} (h : s.RunAgrees t) :
    t.Evaluates test x ↔ s.Evaluates test x := by
  simp only [State.Evaluates, State.currentStep, h.run, h.schedule]

theorem State.McPartPasses.congr {s t : State} {x : StepRecord} (h : s.RunAgrees t) :
    t.McPartPasses x ↔ s.McPartPasses x := by
  simp only [State.McPartPasses, h.statistics]

/-- R88 to R90, R95: the test at a publication ends the step or lets it go on. -/
theorem State.TakesPublication.testFollows {s v : State} {p : Fin 48} {x : StepRecord} (h : s.TakesPublication p v)
    (hd : s.due = .none) (hx : s.currentStep = some x) (q : Publication) (y : Scanner) :
    TestFollows s (s.taking v) ((v.testAtPublication v.latestFigures).publicationOver q y) x := by
  have hstep : v.currentStep = some x := h.currentStep.trans hx
  unfold TestFollows
  rw [State.PublicationTestPasses.congr h.runAgrees, State.Evaluates.congr h.runAgrees,
    State.McPartPasses.congr h.runAgrees]
  refine ⟨fun hpasses => ?_, fun hfails => ?_⟩
  · obtain ⟨b, hb⟩ := State.testAtPublication_passes hstep hpasses
    rw [hb]
    exact h.endsStep hd b q y
  · by_cases hmc : v.Evaluates .mcAndHours x ∧ v.McPartPasses x
    · rw [State.testAtPublication_setsMet hstep hfails hmc.1 hmc.2]
      obtain ⟨hsame, hrun, hmemory, hasks⟩ := h.goesOn hd { v.run with mcMet := true } q y
      exact ⟨hsame, fun _ _ => hrun, fun hnot => (hnot.elim (· hmc.1) (· hmc.2)).elim, hmemory, hasks⟩
    · have hnot := not_and_or.1 hmc
      rw [State.testAtPublication_goesOn hstep hfails hnot]
      obtain ⟨hsame, hrun, hmemory, hasks⟩ := h.goesOn hd v.run q y
      exact ⟨hsame, fun he hp => absurd ⟨he, hp⟩ hmc, fun _ => hrun, hmemory, hasks⟩

/-! ### A publication that leaves the run as it is -/

/-- R97: a reason that is neither there nor to be added. -/
theorem ReasonJudged.kept {r after : Run} {reason : HoldReason} {code : Nat} {present : Prop}
    {notices : List (NoticeKind × Nat × Nat)} (h : ReasonJudged r reason code present after notices)
    (hr : r.reasons = .empty) (hp : ¬ present) : after = r ∧ notices = [] := by
  have habsent : r.reasons.has reason ≠ true := by rw [hr]; cases reason <;> simp [HoldSet.has, HoldSet.empty]
  exact h.1 (.inr ⟨fun hpresent => absurd hpresent hp, fun hhas => absurd hhas habsent⟩)

/-- R58, R94: a publication with the quorum as it was, from the reading of a FAULTED probe, leaves the run and the queue. -/
theorem State.TakesPublication.keepsRun {s v : State} {p : Fin 48} (h : s.TakesPublication p v)
    (hf : (s.probe p).state = .faulted) (hq : (s.publicationNow s.scanner.scanNumber).quorum = .held)
    (hk : s.statistics.keptQuorum = .held) (hr : s.run.reasons = .empty) :
    v.run = s.run ∧ v.notices = s.notices ∧
      v.statistics.latest = some (s.publicationNow s.scanner.scanNumber) := by
  obtain ⟨-, hstatistics, notices, hjudged, hqueue⟩ := h.taken
  have hcount : (s.taking v).eligibleProbes.length = s.eligibleProbes.length :=
    congrArg Publication.eligible (h.unchanged hf)
  have hnotLost : ¬ s.eligibleProbes.length < s.settings.q := fun hlost => by
    rw [s.publicationNow_quorum, if_pos hlost] at hq
    cases hq
  rw [hcount] at hjudged hqueue
  obtain ⟨hrun, rfl⟩ := hjudged.kept hr fun hlost => hnotLost hlost.1
  refine ⟨hrun, hqueue.trans ?_, ?_⟩
  · have hquiet : quorumNotices s s.eligibleProbes.length = [] := by
      cases hg : s.run.state.going <;> simp [quorumNotices, hk, hnotLost, hg]
    rw [faultNotices_of_faulted hf, hquiet]
    rfl
  · rw [show v.statistics = _ from hstatistics, h.unchanged hf]

end Sys2Proof.Machine
end

section
/-! SetsAndPublicationsEndSteps, with what a sample set brings to the advance test (R92, R98, R109). -/

namespace Sys2Proof.Machine

/-! ### A sample set up to the advance test -/

/-- R109: the samples of a zone go to its own channels. -/
theorem State.sampleZone_db (s : State) (x : Zones ZoneSamples) (z : ZoneId) :
    ((s.sampleZone x z).channels z).db = ((s.channels z).db.take (x.get z).db).1 := by
  simp [State.sampleZone, State.channels]

theorem State.sampleZone_channels_ne (s : State) (x : Zones ZoneSamples) {y z : ZoneId} (h : y ≠ z) :
    (s.sampleZone x z).channels y = s.channels y := by
  simp [State.sampleZone, State.channels, zones_get_set_ne _ _ _ _ h]

theorem State.sampleChannels_db (s : State) (x : Zones ZoneSamples) (z : ZoneId) :
    ((s.sampleChannels x).channels z).db = ((s.channels z).db.take (x.get z).db).1 := by
  have hall : s.sampleChannels x = (((s.sampleZone x .z1).sampleZone x .z2).sampleZone x .z3).sampleZone x .z4 := rfl
  rw [hall]
  cases z <;> simp [State.sampleZone_db, State.sampleZone_channels_ne]

/-- R109 to R113: a sample set's zones and outputs judged; what the Run Controller makes of it is still to come. -/
def State.setSampled (s : State) (x : Zones ZoneSamples) : State :=
  ((({ s with sampler := s.sampler.takeMark } : State).sampleChannels x).zonesTakeSet).refreshOutputs

@[simp] theorem State.setSampled_frame (s : State) (x : Zones ZoneSamples) :
    (s.setSampled x).settings = s.settings ∧ (s.setSampled x).schedule = s.schedule ∧ (s.setSampled x).run = s.run ∧
      (s.setSampled x).memory = s.memory ∧ (s.setSampled x).due = s.due := by
  simp [State.setSampled]

theorem State.setSampled_db (s : State) (x : Zones ZoneSamples) (z : ZoneId) :
    ((s.setSampled x).channels z).db = ((s.channels z).db.take (x.get z).db).1 := by
  have hsampler : (s.setSampled x).sampler =
      (({ s with sampler := s.sampler.takeMark } : State).sampleChannels x).sampler := by
    simp [State.setSampled]
  rw [State.channels, hsampler]
  exact State.sampleChannels_db _ _ _

theorem exec_sampleSet_of_due {s : State} (ha : s.Awake) (hr : s.ready = true) (hm : s.sampler.mark = .due)
    (x : Zones ZoneSamples) : exec (.sampleSet x) s = .next ((s.setSampled x).runTakeSet).finishEvent := by
  show Host.Outcome.next (s.event fun t => if t.ready && t.sampler.setIsDue then t.takeSet x else t) = _
  rw [s.event_of_awake ha, hr, Sampler.setIsDue, hm]
  rfl

/-! ### The tests of a sample set -/

theorem State.sensorFault_eq_false {s : State} (h : ∀ z, s.zoneActive z = true → (s.channels z).db.state = .ok) :
    s.sensorFault = false := by
  rw [State.sensorFault, List.any_eq_false]
  intro z hz
  rw [h z (List.mem_filter.1 hz).2]
  decide

/-- R92: every active zone has cooled. -/
theorem State.allCooled_of_cooledTo {s : State} {x : StepRecord} (h : s.CooledTo x.dbTarget) : s.allCooled x = true := by
  obtain ⟨⟨z, hz⟩, hall⟩ := h
  have hmem : z ∈ s.activeZones := List.mem_filter.2 ⟨by cases z <;> decide, hz⟩
  rw [State.allCooled, Bool.and_eq_true, List.all_eq_true]
  refine ⟨?_, fun y hy => ?_⟩
  · cases hzones : s.activeZones with
    | nil => rw [hzones] at hmem; cases hmem
    | cons => rfl
  · obtain ⟨v, hv, hle⟩ := hall y (List.mem_filter.1 hy).2
    simp only [State.zoneCooled, hv]
    exact decide_eq_true hle

/-- R92: a COOLED test that is met ends the step. -/
theorem State.testAtSet_cooled {s : State} {x : StepRecord} (he : s.Evaluates .cooled x) (hc : s.CooledTo x.dbTarget) :
    s.testAtSet = s.stepEnd := by
  obtain ⟨-, hx, htest, -⟩ := id he
  have hstep : s.evaluatedStep = some x := (State.evaluatedStep_iff hx).2 (htest ▸ he)
  simp only [State.testAtSet, hstep, htest, State.allCooled_of_cooledTo hc, if_true]

/-- R96: the end of the last step, with no adoption pending, in the event that ends. -/
theorem State.stepEnd_completes {s : State} {i : Nat} (ha : s.schedule.adoption = none) (hi : s.run.stepIndex = some i)
    (hlast : s.schedule.activeSteps.length = i + 1) :
    s.stepEnd.finishEvent.run =
        { s.run with state := .complete, reasons := .empty, inBand := false, completion := some s.completionNow } ∧
      RunEnded s.stepEnd.finishEvent ∧ s.stepEnd.finishEvent.schedule = s.schedule ∧
      AsksCheckpoint s s.stepEnd.finishEvent := by
  have hview := (State.RunAgrees.refl s.stepEnd).finishEvent
  have hmemory : s.stepEnd.memory = s.memory := by simp
  obtain ⟨hschedule, hended, hasks, -, -⟩ := s.stepEnd_ends.2.2 i ha hi hlast
  refine ⟨?_, hended.congr hview, hview.schedule.trans hschedule, hasks.finishEvent hmemory⟩
  rw [hview.run, State.stepEnd_of_last ha hi hlast]
  exact s.completeRun_kept.1

/-- R92, R98, R96: a sample set at which the last step, a COOLED one, is met: SENSOR is judged first, and keeps the run
RUNNING. -/
theorem State.runTakeSet_of_cooled {s : State} {x : StepRecord} (he : s.Evaluates .cooled x) (hc : s.CooledTo x.dbTarget)
    (hok : ∀ z, s.zoneActive z = true → (s.channels z).db.state = .ok) :
    ∃ v : State, s.runTakeSet = v.stepEnd ∧ v.run = { s.run with reasons := s.run.reasons.put .sensor false } ∧
      v.schedule = s.schedule ∧ v.memory = s.memory := by
  obtain ⟨v, hv⟩ : ∃ v, v = s.judgeReason .sensor false := ⟨_, rfl⟩
  have hrun : v.run = { s.run with reasons := s.run.reasons.put .sensor false } := by
    rw [hv]; exact State.judgeReason_run_of_running he.1 _
  have hschedule : v.schedule = s.schedule := by simp [hv]
  have hsettings : v.settings = s.settings := by simp [hv]
  have hsampler : v.sampler = s.sampler := by simp [hv]
  have hevaluates : v.Evaluates .cooled x := by
    simpa only [State.Evaluates, State.currentStep, hrun, hschedule] using he
  have hcooled : v.CooledTo x.dbTarget := by
    simpa only [State.CooledTo, State.channels, hsampler,
      State.zoneActive_congr (congrArg Settings.zones hsettings)] using hc
  refine ⟨v, ?_, hrun, hschedule, by simp [hv]⟩
  rw [State.runTakeSet, State.sensorFault_eq_false hok, ← hv]
  exact State.testAtSet_cooled hevaluates hcooled

/-- R92, R96: the sample set at which the last step, a COOLED one, ends completes the run. -/
theorem exec_sampleSet_completes {s : State} {x : Zones ZoneSamples} {step : StepRecord} {i : Nat} (ha : s.Awake)
    (hready : s.ready = true) (hmark : s.sampler.mark = .due) (he : s.Evaluates .cooled step)
    (hi : s.run.stepIndex = some i) (hadoption : s.schedule.adoption = none)
    (hlast : s.schedule.activeSteps.length = i + 1) (hzone : ∃ z, s.zoneActive z = true)
    (hcooled : ∀ z, s.zoneActive z = true →
      ((s.channels z).db.take (x.get z).db).1.state = .ok ∧
        ∃ v, ((s.channels z).db.take (x.get z).db).1.published = some v ∧ v ≤ step.dbTarget) :
    ∃ t, exec (.sampleSet x) s = .next t ∧ RunEnded t ∧ t.schedule = s.schedule ∧ AsksCheckpoint s t ∧
      t.run = { s.run with state := .complete, reasons := .empty, inBand := false, completion := t.run.completion } ∧
      t.run.completion.map (·.totalMinutes) = some s.run.totalMinutes := by
  obtain ⟨u, hu⟩ : ∃ u, u = s.setSampled x := ⟨_, rfl⟩
  obtain ⟨hsettings, hschedule, hrun, hmemory, -⟩ := s.setSampled_frame x
  rw [← hu] at hsettings hschedule hrun hmemory
  have hactive : u.zoneActive = s.zoneActive := State.zoneActive_congr (congrArg Settings.zones hsettings)
  have hdb (z : ZoneId) : (u.channels z).db = ((s.channels z).db.take (x.get z).db).1 := by
    rw [hu]; exact State.setSampled_db s x z
  have hevaluates : u.Evaluates .cooled step := by
    simpa only [State.Evaluates, State.currentStep, hrun, hschedule] using he
  have hcooledTo : u.CooledTo step.dbTarget := by
    simp only [State.CooledTo, hactive, hdb]
    exact ⟨hzone, fun z hz => (hcooled z hz).2⟩
  have hok : ∀ z, u.zoneActive z = true → (u.channels z).db.state = .ok := by
    simp only [hactive, hdb]
    exact fun z hz => (hcooled z hz).1
  obtain ⟨v, htaken, hvrun, hvschedule, hvmemory⟩ := State.runTakeSet_of_cooled hevaluates hcooledTo hok
  rw [hschedule] at hvschedule
  rw [hrun] at hvrun
  rw [hmemory] at hvmemory
  obtain ⟨hfinal, hended, hkept, hasks⟩ := State.stepEnd_completes (s := v) (i := i) (by rw [hvschedule, hadoption])
    (by rw [hvrun]; exact hi) (by rw [hvschedule, hlast])
  refine ⟨_, exec_sampleSet_of_due ha hready hmark x, ?_⟩
  rw [← hu, htaken, hfinal, hvrun]
  exact ⟨hended, hkept.trans hvschedule, hasks.congr hvmemory.symm (State.RunAgrees.refl _) rfl rfl, rfl,
    by simp [State.completionNow, hvrun]⟩

/-- R95: a step end after a publication that has left the run and the queue. -/
theorem StepEnds.of_taking {s v t : State} (h : StepEnds (s.taking v) t []) (hr : v.run = s.run)
    (hn : v.notices = s.notices) : StepEnds s t [] := by
  rw [State.taking, hr, hn] at h
  exact h

/-- Settles O25: a COOLED step at a sample set by SENSOR's judgement and the test; an MC step at a publication by what the
test makes of the run that QUORUM has left. -/
theorem setsAndPublicationsEndSteps : Obligations.SetsAndPublicationsEndSteps := by
  unfold Obligations.SetsAndPublicationsEndSteps
  refine ⟨fun s x step i ha hready hmark hs hstep hi htest hmin hadoption hlast hzone hcooled => ?_,
    fun s m c n x st limit f hc ha hm hphase hplus hn hrange hfaulted hlast hdue hf hq hk hs hr hx hmin hst hlimit hle => ?_,
    fun s m c n outcome x hc ha hm hends hlast hdue hx => ?_⟩
  · obtain ⟨t, hexec, hended, hschedule, hasks, hrun, htotal⟩ :=
      exec_sampleSet_completes ha hready hmark ⟨hs, hstep, htest, hmin⟩ hi hadoption hlast hzone hcooled
    refine ⟨t, hexec, ?_, hended, ?_, ?_, ?_, hschedule, htotal, hasks⟩
    · rw [hrun]
    · rw [hrun]; exact hi
    · rw [hrun]
    · rw [hrun]
  · have hends : EndsMeasurement m n .dryLimit := ⟨hphase, .inl ⟨hplus, .inr (.inl ⟨hn, hrange, rfl⟩)⟩⟩
    obtain ⟨v, p, y, hv, hexec⟩ := exec_lastMeasurement hc ha hm hends hlast (.inl hdue)
    obtain ⟨hpasses, hfails⟩ := hv.testFollows ha.due_none hx p y
    obtain ⟨hrun, hnotices, hlatest⟩ := hv.keepsRun hfaulted hq hk hr
    have hevaluates : (s.taking v).Evaluates x.test x := by
      rw [State.Evaluates.congr hv.runAgrees]
      simp only [State.Evaluates, hv.currentStep, hrun]
      exact ⟨hs, hx, trivial, hmin⟩
    have hmc : (s.taking v).McPartPasses x := ⟨_, f, st, limit, hlatest, hf, hst, hlimit, hle⟩
    have hminutes : (s.taking v).run.stepMinutes = s.run.stepMinutes := congrArg Run.stepMinutes hrun
    refine ⟨_, hexec, fun htest => ?_, fun htest hhours => ?_, fun htest hhours => ?_⟩
    · exact (hpasses ⟨hevaluates, .inl ⟨htest, hmc⟩⟩).1.of_taking hrun hnotices
    · exact (hpasses ⟨hevaluates, .inr ⟨htest, .inr hmc, by rwa [hminutes]⟩⟩).1.of_taking hrun hnotices
    · have hnot : ¬ (s.taking v).PublicationTestPasses x := by
        rintro ⟨-, ⟨htest' | htest', -⟩ | ⟨-, -, h, hh, hmet⟩⟩
        · rw [htest] at htest'; cases htest'
        · rw [htest] at htest'; cases htest'
        · rw [hminutes] at hmet
          exact absurd hmet (Nat.not_le.2 (hhours h hh))
      obtain ⟨hsame, hmet, -, -, -⟩ := hfails hnot
      refine ⟨(hmet (htest ▸ hevaluates) hmc).trans ?_, (congrArg State.notices hsame).trans hnotices⟩
      show { v.run with mcMet := true } = _
      rw [hrun]
  · obtain ⟨v, p, y, hv, hexec⟩ := exec_lastMeasurement hc ha hm hends hlast hdue
    exact ⟨s.taking v, _, hexec, hv.taken, hv.testFollows ha.due_none hx p y⟩

end Sys2Proof.Machine
end

section
/-! SUPPORT. The Schedule Store's edit requests (R65, R67 to R71): the EDIT buffer replaced, the lock of a pending
adoption, and the handlers' answers. -/

namespace Sys2Proof.Machine

/-! ### The buffers (R65) -/

theorem ScheduleStore.setEdit_editSteps (x : ScheduleStore) (steps : List StepRecord) :
    (x.setEdit steps).editSteps = steps := by
  obtain ⟨first, second, active, adoption⟩ := x
  cases active <;> rfl

theorem ScheduleStore.setEdit_activeSteps (x : ScheduleStore) (steps : List StepRecord) :
    (x.setEdit steps).activeSteps = x.activeSteps := by
  obtain ⟨first, second, active, adoption⟩ := x
  cases active <;> rfl

theorem ScheduleStore.setEdit_active (x : ScheduleStore) (steps : List StepRecord) :
    (x.setEdit steps).active = x.active := by
  obtain ⟨first, second, active, adoption⟩ := x
  cases active <;> rfl

/-! ### The lock (R67) -/

theorem State.edit_of_free {s : State} (h : s.schedule.adoption = none) (taken : State × Reply) :
    s.edit taken = taken := by
  simp [State.edit, h]

theorem State.edit_of_pending {s : State} (h : s.schedule.adoption.isSome = true) (taken : State × Reply) :
    s.edit taken = (s, .of .adoptionPending s.summary) := if_pos h

/-! ### The handlers -/

theorem handleSchedClear_badLength (s : State) {p : List Byte} (h : p.length ≠ 0) :
    handleSchedClear p s = (s, .of .badLength s.summary) := by
  cases p with
  | nil => exact absurd rfl h
  | cons => rfl

theorem handleSchedCopyActive_badLength (s : State) {p : List Byte} (h : p.length ≠ 0) :
    handleSchedCopyActive p s = (s, .of .badLength s.summary) := by
  cases p with
  | nil => exact absurd rfl h
  | cons => rfl

theorem handleSchedTruncate_badLength (s : State) {p : List Byte} (h : p.length ≠ 1) :
    handleSchedTruncate p s = (s, .of .badLength s.summary) := by
  match p with
  | [] | _ :: _ :: _ => rfl
  | [_] => exact absurd rfl h

section
variable {s : State} {n : Byte} (hfree : s.schedule.adoption = none)
include hfree

theorem handleSchedClear_edit : handleSchedClear [] s = scheduleReply .ok (s.setEdit []) := State.edit_of_free hfree _

theorem handleSchedCopyActive_edit :
    handleSchedCopyActive [] s = scheduleReply .ok (s.setEdit s.schedule.activeSteps) := State.edit_of_free hfree _

theorem handleSchedTruncate_edit (h : n.toNat ≤ s.schedule.editSteps.length) :
    handleSchedTruncate [n] s = scheduleReply .ok (s.setEdit (s.schedule.editSteps.take n.toNat)) :=
  (State.edit_of_free hfree _).trans (if_neg (Nat.not_lt.2 h))

theorem handleSchedTruncate_badCount (h : s.schedule.editSteps.length < n.toNat) :
    handleSchedTruncate [n] s = (s, .badField 1 s.summary) := (State.edit_of_free hfree _).trans (if_pos h)

end

/-! ### The served requests -/

/-- R106, R165: the reply changes nothing that the checkpoint of its event looks at. -/
theorem State.finishEvent_of_answer (u : State) (kind tag : Byte) (r : Reply) :
    (u.answer kind tag r).finishEvent = { u.finishEvent with link := (u.answer kind tag r).link } := by
  cases h : u.due.checkpoint && !u.due.minuteWork <;> simp only [State.finishEvent, State.answer, h] <;> rfl

/-- R66: a schedule request served with OK and the summary leaves what its handler makes of the part, and the link. -/
theorem schedule_served {c : Instr} {s u : State} {kind tag : Byte} {payload : List Byte}
    {f : List Byte → State → State × Reply} (h : s.Receptive) (hc : requestOf c = some (kind, tag, payload))
    (hk : ∀ k t p, c ≠ .unknownRequest k t p) (hf : handlerOf kind.toNat = some f)
    (hu : f payload s = scheduleReply .ok u) (hl : u.link = s.link) :
    ∃ link t, t = { u.finishEvent with link } ∧ Served c s t (.of .ok t.summary) := by
  refine ⟨_, _, u.finishEvent_of_answer kind tag (.of .ok u.summary), ?_⟩
  have hsummary : ((u.answer kind tag (.of .ok u.summary)).finishEvent).summary = u.summary := by simp [State.summary]
  rw [hsummary]
  exact served_of_handled h hc hk hf hu hl

/-- R66: and where the handler leaves nothing due, that alone. -/
theorem schedule_served_quiet {c : Instr} {s u : State} {kind tag : Byte} {payload : List Byte}
    {f : List Byte → State → State × Reply} (h : s.Receptive) (hc : requestOf c = some (kind, tag, payload))
    (hk : ∀ k t p, c ≠ .unknownRequest k t p) (hf : handlerOf kind.toNat = some f)
    (hu : f payload s = scheduleReply .ok u) (hl : u.link = s.link) (hd : u.due = s.due) :
    ∃ link, Served c s { u with link } (.of .ok u.summary) := by
  obtain ⟨link, t, rfl, hserved⟩ := schedule_served h hc hk hf hu hl
  rw [State.finishEvent_of_due_none _ (hd.trans h.1.due_none)] at hserved
  exact ⟨link, hserved⟩

/-- R67 to R71: an edit leaves the EDIT buffer with the steps it gives, and nothing else of the part but the link is
changed. -/
theorem edit_served {c : Instr} {s : State} {kind tag : Byte} {payload : List Byte} {steps : List StepRecord}
    {f : List Byte → State → State × Reply} (h : s.Receptive) (hfree : s.schedule.adoption = none)
    (hc : requestOf c = some (kind, tag, payload)) (hk : ∀ k t p, c ≠ .unknownRequest k t p)
    (hf : handlerOf kind.toNat = some f) (hu : f payload s = scheduleReply .ok (s.setEdit steps)) :
    ∃ t, Served c s t (.of .ok t.summary) ∧ t = { s with schedule := t.schedule, link := t.link } ∧
      t.schedule.editSteps = steps ∧ t.schedule.activeSteps = s.schedule.activeSteps ∧
      t.schedule.active = s.schedule.active ∧ t.schedule.adoption = none := by
  obtain ⟨link, hserved⟩ := schedule_served_quiet h hc hk hf hu rfl rfl
  exact ⟨_, hserved, rfl, s.schedule.setEdit_editSteps steps, s.schedule.setEdit_activeSteps steps,
    s.schedule.setEdit_active steps, (s.schedule.setEdit_adoption steps).trans hfree⟩

section
variable {s : State} {tag : Byte} {payload : List Byte} {r : Reply} (h : s.Receptive)
include h

theorem schedClear_refused (hr : handleSchedClear payload s = (s, r)) : ServedUnchanged (.schedClear tag payload) s r :=
  servedUnchanged_of_handled (c := .schedClear tag payload) h rfl (by simp) rfl hr

theorem schedTruncate_refused (hr : handleSchedTruncate payload s = (s, r)) :
    ServedUnchanged (.schedTruncate tag payload) s r :=
  servedUnchanged_of_handled (c := .schedTruncate tag payload) h rfl (by simp) rfl hr

theorem schedCopyActive_refused (hr : handleSchedCopyActive payload s = (s, r)) :
    ServedUnchanged (.schedCopyActive tag payload) s r :=
  servedUnchanged_of_handled (c := .schedCopyActive tag payload) h rfl (by simp) rfl hr

end

/-- Settles O26: the handlers' answers with no adoption pending and with one, and the refused lengths. -/
theorem editRequestsChangeTheEditBufferAlone : Obligations.EditRequestsChangeTheEditBufferAlone := by
  unfold Obligations.EditRequestsChangeTheEditBufferAlone
  intro s tag n h
  refine ⟨fun hfree => ⟨?_, fun hn => ?_, fun hn => ?_, ?_⟩, fun hpending => ⟨?_, ?_, ?_⟩,
    fun p => ⟨fun hp => ⟨?_, ?_⟩, fun hp => ?_⟩⟩
  · exact edit_served (c := .schedClear tag []) h hfree rfl (by simp) rfl (handleSchedClear_edit hfree)
  · obtain ⟨t, hserved, hkept, hedit, hactive⟩ :=
      edit_served (c := .schedTruncate tag [n]) h hfree rfl (by simp) rfl (handleSchedTruncate_edit hfree hn)
    exact ⟨t, hserved, hkept, hedit, by rw [hedit, List.length_take, Nat.min_eq_left hn], hactive⟩
  · exact schedTruncate_refused h (handleSchedTruncate_badCount hfree hn)
  · exact edit_served (c := .schedCopyActive tag []) h hfree rfl (by simp) rfl (handleSchedCopyActive_edit hfree)
  · exact schedClear_refused h (State.edit_of_pending hpending _)
  · exact schedTruncate_refused h (State.edit_of_pending hpending _)
  · exact schedCopyActive_refused h (State.edit_of_pending hpending _)
  · exact schedClear_refused h (handleSchedClear_badLength s hp)
  · exact schedCopyActive_refused h (handleSchedCopyActive_badLength s hp)
  · exact schedTruncate_refused h (handleSchedTruncate_badLength s hp)

end Sys2Proof.Machine
end

section
/-! Adoption validation (R73): what each reason of a failure says, and the first step that fails. -/

namespace Sys2Proof.Machine

/-! ### The reasons a step fails -/

theorem StepRecord.failsOrder_iff (x : StepRecord) (i n : Nat) :
    x.failsOrder i n = true ↔ x.kind = .heatup ∧ i ≠ 0 ∨ x.kind = .cool ∧ i + 1 ≠ n := by
  simp [StepRecord.failsOrder]

theorem StepRecord.failsTest_iff (x : StepRecord) :
    x.failsTest = true ↔
      x.kind = .heatup ∧ x.test ≠ .settled ∨ x.kind = .cool ∧ x.test ≠ .cooled ∨ x.kind = .condition ∧ x.test ≠ .hours ∨
        (x.kind = .dry ∨ x.kind = .equalize) ∧ (x.test = .settled ∨ x.test = .cooled) := by
  cases hk : x.kind <;> simp [StepRecord.failsTest, hk]

theorem StepRecord.failsMax_iff (x : StepRecord) :
    x.failsMax = true ↔
      ∃ m, x.maxHours = some m ∧ ((∃ n, x.minHours = some n ∧ m < n) ∨ ∃ n, x.testHours = some n ∧ m < n) := by
  cases hm : x.maxHours <;> simp [StepRecord.failsMax, hm, Option.any_eq_true]

theorem StepRecord.failure_eq_none_iff (x : StepRecord) (i n : Nat) :
    x.failure i n = none ↔ ¬ x.failsOrder i n = true ∧ ¬ x.failsTest = true ∧ ¬ x.failsMax = true := by
  unfold StepRecord.failure
  split_ifs <;> simp [*]

theorem StepRecord.failure_eq_some_iff (x : StepRecord) (i n : Nat) (r : InvalidReason) :
    x.failure i n = some r ↔
      r = .kindOrder ∧ x.failsOrder i n = true ∨ r = .testKind ∧ ¬ x.failsOrder i n = true ∧ x.failsTest = true ∨
        r = .minOverMax ∧ ¬ x.failsOrder i n = true ∧ ¬ x.failsTest = true ∧ x.failsMax = true := by
  unfold StepRecord.failure
  split_ifs <;> simp [*, eq_comm (b := r)]

/-! ### The first step that fails -/

theorem firstFailure_eq_none_iff {count : Nat} {steps : List StepRecord} : ∀ {i : Nat},
    firstFailure count i steps = none ↔
      ∀ (j : Nat) (x : StepRecord), steps[j]? = some x → x.failure (i + j) count = none := by
  induction steps with
  | nil => simp [firstFailure]
  | cons x rest ih =>
    intro i
    cases hx : x.failure i count with
    | some r =>
      rw [firstFailure, hx]
      exact ⟨fun h => (nomatch h), fun h => absurd (hx.symm.trans (h 0 x rfl)) (by simp)⟩
    | none =>
      rw [firstFailure, hx]
      refine ih.trans ⟨fun h j y hy => ?_, fun h j y hy => ?_⟩
      · cases j with
        | zero => cases hy; exact hx
        | succ j => rw [← Nat.add_assoc, Nat.add_right_comm]; exact h j y hy
      · rw [Nat.add_right_comm, Nat.add_assoc]; exact h (j + 1) y hy

theorem firstFailure_eq_some {count : Nat} {steps : List StepRecord} : ∀ {i k : Nat} {r : InvalidReason},
    firstFailure count i steps = some (k, r) →
      ∃ j x, k = i + j ∧ steps[j]? = some x ∧ x.failure k count = some r ∧
        ∀ j' y, j' < j → steps[j']? = some y → y.failure (i + j') count = none := by
  induction steps with
  | nil => exact fun h => nomatch h
  | cons x rest ih =>
    intro i k r h
    rw [firstFailure] at h
    cases hx : x.failure i count with
    | some r' =>
      rw [hx] at h
      cases h
      exact ⟨0, x, rfl, rfl, hx, fun j' _ hj => absurd hj (Nat.not_lt_zero j')⟩
    | none =>
      rw [hx] at h
      obtain ⟨j, y, rfl, hy, hfails, hbefore⟩ := ih h
      refine ⟨j + 1, y, by omega, hy, hfails, fun j' z hj hz => ?_⟩
      cases j' with
      | zero => cases hz; exact hx
      | succ j' =>
        have hnone := hbefore j' z (Nat.lt_of_succ_lt_succ hj) hz
        rwa [Nat.add_assoc, Nat.add_comm 1] at hnone

theorem validate_of_badLength {steps : List StepRecord} (h : steps.length = 0 ∨ 24 < steps.length) :
    validate steps = some (0, .empty) := if_pos h

theorem validate_of_goodLength {steps : List StepRecord} (h : 1 ≤ steps.length ∧ steps.length ≤ 24) :
    validate steps = firstFailure steps.length 0 steps := if_neg (by omega)

/-- Settles O28: the reasons one by one, and the first step that fails by induction on the buffer. -/
theorem validationReportsTheFirstFailure : Obligations.ValidationReportsTheFirstFailure := by
  unfold Obligations.ValidationReportsTheFirstFailure
  intro steps order test beyond
  have hnone (i : Nat) (x : StepRecord) :
      x.failure i steps.length = none ↔ ¬ order i x ∧ ¬ test x ∧ ¬ beyond x := by
    rw [x.failure_eq_none_iff, x.failsOrder_iff, x.failsTest_iff, x.failsMax_iff]
  refine ⟨⟨fun h => ?_, fun ⟨hlength, h⟩ => ?_⟩, validate_of_badLength, fun h1 h24 i r hr => ?_⟩
  · have hlength : 1 ≤ steps.length ∧ steps.length ≤ 24 := by
      by_contra hbad
      rw [validate_of_badLength (by omega)] at h
      cases h
    rw [validate_of_goodLength hlength, firstFailure_eq_none_iff] at h
    exact ⟨hlength, fun i x hx => (hnone i x).1 (Nat.zero_add i ▸ h i x hx)⟩
  · rw [validate_of_goodLength hlength, firstFailure_eq_none_iff]
    exact fun j x hx => by rw [Nat.zero_add]; exact (hnone j x).2 (h j x hx)
  · rw [validate_of_goodLength ⟨h1, h24⟩] at hr
    obtain ⟨j, x, rfl, hx, hfails, hbefore⟩ := firstFailure_eq_some hr
    rw [Nat.zero_add] at hfails ⊢
    rw [x.failure_eq_some_iff, x.failsOrder_iff, x.failsTest_iff, x.failsMax_iff] at hfails
    exact ⟨fun j' y hj hy => (hnone j' y).1 (Nat.zero_add j' ▸ hbefore j' y hj hy), x, hx, hfails⟩

end Sys2Proof.Machine
end

section
/-! SUPPORT. SCHED_ADOPT and SCHED_ADOPT_CANCEL (R74 to R80): the handlers' answers, and the run put into a target
step. -/

namespace Sys2Proof.Machine

/-! ### SCHED_ADOPT (R74) -/

/-- R74, check 2: the checks of the three fields. -/
def adoptChecks (when_ target restart : Byte) : List (Nat × Bool) :=
  [(1, inRange 0 1 when_.toNat), (2, inRange 0 23 target.toNat), (3, inRange 0 1 restart.toNat)]

theorem adoptChecks_ok {when_ target restart : Byte} (hw : when_.toNat ≤ 1) (ht : target.toNat ≤ 23)
    (hr : restart.toNat ≤ 1) : firstBad (adoptChecks when_ target restart) = none := by
  simp [firstBad_eq_none_iff, adoptChecks, inRange, hw, ht, hr]

theorem adoptChecks_badWhen {when_ target restart : Byte} (h : 1 < when_.toNat) :
    firstBad (adoptChecks when_ target restart) = some 1 := by
  have hfield : inRange 0 1 when_.toNat = false := inRange_eq_false (by omega)
  simp [firstBad, adoptChecks, hfield]

theorem adoptChecks_badTarget {when_ target restart : Byte} (hw : when_.toNat ≤ 1) (h : 23 < target.toNat) :
    firstBad (adoptChecks when_ target restart) = some 2 := by
  have hfield : inRange 0 23 target.toNat = false := inRange_eq_false (by omega)
  simp [firstBad, adoptChecks, inRange_eq_true ⟨Nat.zero_le _, hw⟩, hfield]

theorem adoptChecks_badRestart {when_ target restart : Byte} (hw : when_.toNat ≤ 1) (ht : target.toNat ≤ 23)
    (h : 1 < restart.toNat) : firstBad (adoptChecks when_ target restart) = some 3 := by
  have hfield : inRange 0 1 restart.toNat = false := inRange_eq_false (by omega)
  simp [firstBad, adoptChecks, inRange_eq_true ⟨Nat.zero_le _, hw⟩, inRange_eq_true ⟨Nat.zero_le _, ht⟩, hfield]

theorem handleSchedAdopt_badLength (s : State) {p : List Byte} (h : p.length ≠ 3) :
    handleSchedAdopt p s = (s, .of .badLength s.summary) := by
  match p with
  | [] | [_] | [_, _] | _ :: _ :: _ :: _ :: _ => rfl
  | [_, _, _] => exact absurd rfl h

section
variable {s : State} {when_ target restart : Byte}

theorem handleSchedAdopt_badField {field : Nat} (h : firstBad (adoptChecks when_ target restart) = some field) :
    handleSchedAdopt [when_, target, restart] s = (s, .badField field s.summary) := by
  unfold adoptChecks at h
  simp only [handleSchedAdopt, h]

section
variable (hok : firstBad (adoptChecks when_ target restart) = none)
include hok

theorem handleSchedAdopt_pending (h : s.schedule.adoption.isSome = true) :
    handleSchedAdopt [when_, target, restart] s = (s, .of .adoptionPending s.summary) := by
  unfold adoptChecks at hok
  simp only [handleSchedAdopt, hok, if_pos h]
  rfl

variable (hfree : s.schedule.adoption = none)
include hfree

theorem handleSchedAdopt_wrongState (h : adoptionRefused (decide (when_.toNat = 1)) s.run.state = true) :
    handleSchedAdopt [when_, target, restart] s = (s, .of .wrongState s.summary) := by
  unfold adoptChecks at hok
  simp only [handleSchedAdopt, hok, hfree, if_pos h]
  rfl

variable (hstate : adoptionRefused (decide (when_.toNat = 1)) s.run.state = false)
include hstate

theorem handleSchedAdopt_invalid {i : Nat} {r : InvalidReason} (h : validate s.schedule.editSteps = some (i, r)) :
    handleSchedAdopt [when_, target, restart] s = (s, .invalid i r s.summary) := by
  unfold adoptChecks at hok
  simp [handleSchedAdopt, hok, hfree, hstate, h]

variable (hvalid : validate s.schedule.editSteps = none)
include hvalid

theorem handleSchedAdopt_beyond (hg : s.run.state.going = true) (h : s.schedule.editSteps.length ≤ target.toNat) :
    handleSchedAdopt [when_, target, restart] s = (s, .badField 2 s.summary) := by
  unfold adoptChecks at hok
  simp [handleSchedAdopt, hok, hfree, hstate, hvalid, hg, h]

theorem handleSchedAdopt_accept (h : s.run.state.going = true → target.toNat < s.schedule.editSteps.length) :
    handleSchedAdopt [when_, target, restart] s =
      scheduleReply .ok (s.adopt (decide (when_.toNat = 1)) target.toNat (decide (restart.toNat = 1))) := by
  have hwithin : (s.run.state.going && decide (s.schedule.editSteps.length ≤ target.toNat)) = false := by
    simpa using h
  unfold adoptChecks at hok
  simp [handleSchedAdopt, hok, hfree, hstate, hvalid, hwithin]

end
end

/-- 10.5: the two commands of SCHED_ADOPT are its two values of field 1, and R74's check 4 looks at the run by them. -/
theorem adoptRequest_when {c : Instr} {tag : Byte} {rest : List Byte}
    (hc : c = .schedAdoptNow tag rest ∨ c = .schedAdoptAtStepEnd tag rest) (r : RunState) :
    ∃ when_ : Byte, when_.toNat ≤ 1 ∧ requestOf c = some (0x25, tag, when_ :: rest) ∧
      (∀ k t p, c ≠ .unknownRequest k t p) ∧
      (c = .schedAdoptNow tag rest ∧ r = .safe ∨ c = .schedAdoptAtStepEnd tag rest ∧ r.going = false →
        adoptionRefused (decide (when_.toNat = 1)) r = true) ∧
      (c = .schedAdoptNow tag rest ∧ r ≠ .safe ∨ c = .schedAdoptAtStepEnd tag rest ∧ r.going = true →
        adoptionRefused (decide (when_.toNat = 1)) r = false) := by
  obtain rfl | rfl := hc
  · exact ⟨0, by decide, rfl, by simp, by simp [adoptionRefused], by simp [adoptionRefused]⟩
  · exact ⟨1, by decide, rfl, by simp, by simp [adoptionRefused], by simp [adoptionRefused]⟩

theorem handleSchedAdoptCancel_badLength (s : State) {p : List Byte} (h : p ≠ []) :
    handleSchedAdoptCancel p s = (s, .of .badLength s.summary) := by
  cases p with
  | nil => exact absurd rfl h
  | cons => rfl

theorem handleSchedAdoptCancel_empty {s : State} (h : s.schedule.adoption = none) :
    handleSchedAdoptCancel [] s = (s, .of .empty s.summary) := by
  simp only [handleSchedAdoptCancel, h]
  rfl

theorem handleSchedAdoptCancel_remove {s : State} (h : s.schedule.adoption.isSome = true) :
    handleSchedAdoptCancel [] s = scheduleReply .ok { s with schedule := { s.schedule with adoption := none } } :=
  if_pos h

/-! ### The run put into the target step (R75, R76) -/

/-- R75, R76: the run in the target step of the exchanged buffers, with fresh clocks when the restart flag is set, its
zones and fans still to follow. -/
def State.inTarget (s : State) (target : Nat) (restart : Bool) : State :=
  let run := { s.run with stepIndex := some target }
  { s with schedule := s.schedule.exchange, run := if restart then run.restartStep else run }

/-- R76, R116: and its zones on the step's targets. -/
def State.zonesInTarget (s : State) (target : Nat) (restart : Bool) (x : StepRecord) : State :=
  if restart then (s.inTarget target restart).zonesTakeStep x fun z => s.heldOrigin z x
  else (s.inTarget target restart).zonesRetarget x

@[simp] theorem State.zonesInTarget_frame (s : State) (target : Nat) (restart : Bool) (x : StepRecord) :
    (s.zonesInTarget target restart x).powered = s.powered ∧ (s.zonesInTarget target restart x).ready = s.ready ∧
      (s.zonesInTarget target restart x).clock = s.clock ∧
      (s.zonesInTarget target restart x).schedule = s.schedule.exchange ∧
      (s.zonesInTarget target restart x).run = (s.inTarget target restart).run ∧
      (s.zonesInTarget target restart x).notices = s.notices ∧ (s.zonesInTarget target restart x).due = s.due := by
  unfold State.zonesInTarget
  split <;> simp [State.inTarget]

theorem State.adoptNow_of_step {s : State} {target : Nat} {x : StepRecord} (h : s.schedule.editSteps[target]? = some x)
    (restart : Bool) :
    s.adoptNow target restart =
      (((s.zonesInTarget target restart x).handFans x).queueNotice .adoptionApplied target 0).wantCheckpoint := by
  have hstep : s.schedule.exchange.activeSteps[target]? = some x := by rw [ScheduleStore.exchange_activeSteps, h]
  simp only [State.adoptNow, hstep]
  cases restart <;> rfl

/-- R116: the clamp into the span between an origin and a target. -/
theorem clampToSpan_eq (origin target x : Int) :
    clampToSpan origin target x = max (min origin target) (min (max origin target) x) := by
  unfold clampToSpan clampInt
  split_ifs <;> omega

/-- R76, R116: the ramp of an active zone put into the target step: from the setpoint held with the restart flag set,
and otherwise from its own origin, the setpoint clamped into the new span. -/
theorem State.zonesInTarget_ramp {s : State} {z : ZoneId} {q : Ramp} (hz : s.zoneActive z = true)
    (hq : (s.zone z).ramp = some q) (target : Nat) (restart : Bool) (x : StepRecord) :
    ((s.zonesInTarget target restart x).zone z).ramp =
      some
        { dbTarget := x.dbTarget, depression := x.depression, rampRate := x.rampRate, kind := x.kind
          origin := if restart then q.setpoint else q.origin
          setpoint :=
            if restart then q.setpoint
            else max (min q.origin x.dbTarget) (min (max q.origin x.dbTarget) q.setpoint) } := by
  have hactive : (s.inTarget target restart).zoneActive z = true := hz
  have hramp : ((s.inTarget target restart).zones.get z).ramp = some q := hq
  cases restart with
  | true =>
    simp only [State.zonesInTarget, if_true, State.zone, State.zonesTakeStep, zones_get_map, hactive,
      State.heldOrigin_of_ramp hq]
    rfl
  | false =>
    simp only [State.zonesInTarget, Bool.false_eq_true, if_false, State.zone, State.zonesRetarget, zones_get_map,
      hactive, hramp, Ramp.retarget, clampToSpan_eq]
    rfl

section
variable {s : State} {target : Nat} {x : StepRecord} (h : s.schedule.editSteps[target]? = some x) (restart : Bool)
include h

theorem State.adoptNow_schedule : (s.adoptNow target restart).schedule = s.schedule.exchange := by
  rw [State.adoptNow_of_step h]; simp

theorem State.adoptNow_run : (s.adoptNow target restart).run = (s.inTarget target restart).run := by
  rw [State.adoptNow_of_step h]; simp

theorem State.adoptNow_due : (s.adoptNow target restart).due = { s.due with checkpoint := true } := by
  rw [State.adoptNow_of_step h]; simp

theorem State.adoptNow_notices :
    (s.adoptNow target restart).notices = noticesAfter s [(.adoptionApplied, target, 0)] := by
  rw [State.adoptNow_of_step h]; simp [noticesAfter]

theorem State.adoptNow_fans :
    (s.adoptNow target restart).fans.reversalInterval = x.reversalInterval ∧
      (s.adoptNow target restart).fans.speed = x.speed := by
  rw [State.adoptNow_of_step h]
  exact State.handFans_settings _ x

theorem State.adoptNow_zone (z : ZoneId) :
    (s.adoptNow target restart).zone z = (s.zonesInTarget target restart x).zone z := by
  rw [State.adoptNow_of_step h]; simp [State.zone]

end

/-- R75: the roles of the buffers, exchanged. -/
theorem rolesExchanged_of_exchange {s t : State} (h : t.schedule = s.schedule.exchange) : RolesExchanged s t := by
  unfold RolesExchanged
  rw [h]
  exact ⟨s.schedule.exchange_activeSteps, s.schedule.exchange_editSteps, s.schedule.exchange_active_ne⟩

theorem RunState.going_of_not_inProgress {x : RunState} (h : x.inProgress = false) : x.going = false ∧ x ≠ .safe := by
  cases x <;> simp_all [RunState.inProgress, RunState.going]

end Sys2Proof.Machine
end

section
/-! AdoptNowExchangesTheRoles. -/

namespace Sys2Proof.Machine

/-- R74: SCHED_ADOPT_NOW with every check passed. -/
theorem schedAdoptNow_served {s u : State} {tag target restart : Byte} (h : s.Receptive) (ht : target.toNat ≤ 23)
    (hr : restart.toNat ≤ 1) (hfree : s.schedule.adoption = none) (hvalid : validate s.schedule.editSteps = none)
    (hsafe : s.run.state ≠ .safe) (hwithin : s.run.state.going = true → target.toNat < s.schedule.editSteps.length)
    (hu : s.adopt false target.toNat (decide (restart.toNat = 1)) = u) (hl : u.link = s.link) :
    ∃ link t, t = { u.finishEvent with link } ∧
      Served (.schedAdoptNow tag [target, restart]) s t (.of .ok t.summary) := by
  subst hu
  exact schedule_served (c := .schedAdoptNow tag [target, restart]) h rfl (by simp) rfl
    (handleSchedAdopt_accept (when_ := 0) (adoptChecks_ok (by decide) ht hr) hfree
      (by simpa [adoptionRefused] using hsafe) hvalid hwithin) hl

/-- Settles O29: the handler's adoption with no run in progress, and of a run that goes by `State.adoptNow`. -/
theorem adoptNowExchangesTheRoles : Obligations.AdoptNowExchangesTheRoles := by
  unfold Obligations.AdoptNowExchangesTheRoles
  intro s tag target restart h ht hr hfree hvalid
  refine ⟨fun hidle => ?_, fun x hgoing hx => ?_⟩
  · obtain ⟨hnot, hsafe⟩ := RunState.going_of_not_inProgress hidle
    have hadopt : s.adopt false target.toNat (decide (restart.toNat = 1)) =
        { s with schedule := s.schedule.exchange } := by simp [State.adopt, hnot]
    obtain ⟨link, t, rfl, hserved⟩ :=
      schedAdoptNow_served (tag := tag) h ht hr hfree hvalid hsafe (by simp [hnot]) hadopt rfl
    rw [State.finishEvent_of_due_none _ (by exact h.1.due_none)] at hserved
    exact ⟨_, hserved, rolesExchanged_of_exchange rfl, s.schedule.exchange_adoption.trans hfree, rfl⟩
  · have hsafe : s.run.state ≠ .safe := fun hs => by simp [hs, RunState.going] at hgoing
    have hrestart : restart = 1 ↔ decide (restart.toNat = 1) = true := by
      rw [decide_eq_true_iff, ← BitVec.toNat_inj]; rfl
    simp only [hrestart]
    generalize hb : decide (restart.toNat = 1) = b
    have hadopt : s.adopt false target.toNat (decide (restart.toNat = 1)) = s.adoptNow target.toNat b := by
      simp [State.adopt, hgoing, hb]
    obtain ⟨link, t, ht', hserved⟩ := schedAdoptNow_served (tag := tag) h ht hr hfree hvalid hsafe
      (fun _ => (List.getElem?_eq_some_iff.1 hx).1) hadopt (by simp)
    have hdue := State.adoptNow_due hx b
    have hschedule : t.schedule = s.schedule.exchange := by rw [ht', ← State.adoptNow_schedule hx b]; simp
    have hended : (s.adoptNow target.toNat b).finishEvent.due = s.due := by
      rw [h.1.due_none]
      exact State.finishEvent_due (.inr (by rw [hdue, h.1.due_none]))
    refine ⟨t, hserved, rolesExchanged_of_exchange hschedule, ?_, State.eq_of_blocks ?_, ?_, ?_, ?_, ?_, ?_, ?_⟩
    · rw [hschedule, ScheduleStore.exchange_adoption, hfree]
    · simp [hended, ht']
    · have hrun : t.run = (s.inTarget target.toNat b).run := by rw [ht', ← State.adoptNow_run hx b]; simp
      exact hrun.trans (by cases b <;> rfl)
    · rw [ht', ← State.adoptNow_notices hx b]; simp
    · rw [ht']
      exact (asksCheckpoint_of_due hdue).finishEvent (by simp)
    · rw [ht', ← (State.adoptNow_fans hx b).1]; simp
    · rw [ht', ← (State.adoptNow_fans hx b).2]; simp
    · intro z q hz hq
      have hzone : t.zone z = (s.adoptNow target.toNat b).zone z := by rw [ht']; simp [State.zone]
      rw [hzone, State.adoptNow_zone hx]
      exact State.zonesInTarget_ramp hz hq _ _ _

end Sys2Proof.Machine
end

section
/-! SUPPORT. The last byte of a frame (R163, R164): the request taken, and a refusal answered. -/

namespace Sys2Proof.Machine

/-- R164: the byte that completes the CRC has the frame accepted. -/
theorem State.receiveByte_of_lastByte {s : State} {kind tag low : Byte} {p : List Byte}
    (h : AwaitsLastByte s kind tag p low) : s.receiveByte low = s.accept kind tag p := by
  obtain ⟨address, length, high, hreceiver, hcrc⟩ := h
  have hagrees : crcAgrees (address :: length :: kind :: tag :: p) high low = true := by
    rw [crcAgrees, hcrc, beq_self_eq_true]
  simp only [State.receiveByte, hreceiver, State.judgeFrame, hagrees, if_true]

/-- R165: a part that is READY takes the request of the frame that the byte completes. -/
theorem exec_lastByte {s : State} {kind tag low : Byte} {p : List Byte} {f : List Byte → State → State × Reply}
    (ha : s.Awake) (hr : s.ready = true) (h : AwaitsLastByte s kind tag p low) (hf : handlerOf kind.toNat = some f) :
    exec (.characterReceived low) s = .next ((f p s).1.answer kind tag (f p s).2).finishEvent := by
  show Host.Outcome.next (s.event fun t => t.receiveByte low) = _
  rw [s.event_of_awake ha, State.receiveByte_of_lastByte h]
  simp [State.accept, State.dispatch, hf, hr]

/-- R166: a refusal changes the link alone, and its reply is in hand. -/
theorem answered_of_refused {s : State} {r : Reply} {p : List Byte} {f : List Byte → State → State × Reply}
    (hd : s.due = .none) (hu : f p s = (s, r)) (kind tag : Byte) :
    OnlyLink s ((f p s).1.answer kind tag (f p s).2).finishEvent ∧
      Answered s ((f p s).1.answer kind tag (f p s).2).finishEvent kind tag r := by
  rw [hu, State.finishEvent_answer (by exact hd)]
  exact ⟨rfl, rfl⟩

end Sys2Proof.Machine
end

section
/-! AdoptionRequestsAreCheckedInOrder. -/

namespace Sys2Proof.Machine

/-- R78: SCHED_ADOPT_AT_STEP_END with every check passed. -/
theorem schedAdoptAtStepEnd_served {s : State} {tag target restart : Byte} (h : s.Receptive) (ht : target.toNat ≤ 23)
    (hr : restart.toNat ≤ 1) (hfree : s.schedule.adoption = none) (hvalid : validate s.schedule.editSteps = none)
    (hgoing : s.run.state.going = true) (hwithin : target.toNat < s.schedule.editSteps.length) :
    ∃ t, Served (.schedAdoptAtStepEnd tag [target, restart]) s t (.of .ok t.summary) ∧
      t =
        { s with
          schedule := { s.schedule with adoption := some { target := target.toNat, restart := decide (restart = 1) } }
          link := t.link } := by
  have hrestart : decide (restart.toNat = 1) = decide (restart = 1) := by
    rw [decide_eq_decide, ← BitVec.toNat_inj]; rfl
  obtain ⟨link, hserved⟩ :=
    schedule_served_quiet (c := .schedAdoptAtStepEnd tag [target, restart]) h rfl (by simp) rfl
      (handleSchedAdopt_accept (when_ := 1) (adoptChecks_ok (by decide) ht hr) hfree
        (by simpa [adoptionRefused] using hgoing) hvalid fun _ => hwithin) rfl rfl
  rw [← hrestart]
  exact ⟨_, hserved, rfl⟩

section
variable {s : State} {tag : Byte} (h : s.Receptive)
include h

theorem schedAdoptCancel_refused {payload : List Byte} {r : Reply} (hr : handleSchedAdoptCancel payload s = (s, r)) :
    ServedUnchanged (.schedAdoptCancel tag payload) s r :=
  servedUnchanged_of_handled (c := .schedAdoptCancel tag payload) h rfl (by simp) rfl hr

/-- R80: an adoption that waits is cancelled. -/
theorem schedAdoptCancel_served (hpending : s.schedule.adoption.isSome = true) :
    ∃ t, Served (.schedAdoptCancel tag []) s t (.of .ok t.summary) ∧
      t = { s with schedule := { s.schedule with adoption := none }, link := t.link } := by
  obtain ⟨link, hserved⟩ := schedule_served_quiet (c := .schedAdoptCancel tag []) h rfl (by simp) rfl
    (handleSchedAdoptCancel_remove hpending) rfl rfl
  exact ⟨_, hserved, rfl⟩

end

/-- Settles O30: the accepted requests, the checks of SCHED_ADOPT in order for either value of field 1, and the two
refusals that only the bytes on the line bring. -/
theorem adoptionRequestsAreCheckedInOrder : Obligations.AdoptionRequestsAreCheckedInOrder := by
  unfold Obligations.AdoptionRequestsAreCheckedInOrder
  refine ⟨⟨fun s tag target restart h ht hr hfree hvalid hgoing hwithin =>
      schedAdoptAtStepEnd_served h ht hr hfree hvalid hgoing hwithin,
    fun s tag h => ⟨schedAdoptCancel_served h, fun hfree => ?_, fun p hp => ?_⟩⟩, ?_, ?_⟩
  · exact schedAdoptCancel_refused h (handleSchedAdoptCancel_empty hfree)
  · exact schedAdoptCancel_refused h (handleSchedAdoptCancel_badLength s hp)
  · intro s tag rest c h hc refuses
    obtain ⟨when_, hw, hrequest, hk, hrefused, hallowed⟩ := adoptRequest_when hc s.run.state
    have hrefuse {status : Status} {detail : List Byte}
        (hr : handleSchedAdopt (when_ :: rest) s = (s, { status, detail, body := s.summary })) :
        refuses status detail :=
      servedUnchanged_of_handled h hrequest hk rfl hr
    refine ⟨fun hlength => hrefuse (handleSchedAdopt_badLength s (by simpa using hlength)), ?_⟩
    rintro target restart rfl
    refine ⟨fun ht => ?_, fun ht hr => ?_, fun ht hr => ⟨fun hpending => ?_, fun hfree =>
      ⟨fun hwrong => ?_, fun hstate => ?_⟩⟩⟩
    · exact hrefuse (handleSchedAdopt_badField (adoptChecks_badTarget hw ht))
    · exact hrefuse (handleSchedAdopt_badField (adoptChecks_badRestart hw ht hr))
    · exact hrefuse (handleSchedAdopt_pending (adoptChecks_ok hw ht hr) hpending)
    · exact hrefuse (handleSchedAdopt_wrongState (adoptChecks_ok hw ht hr) hfree (hrefused hwrong))
    · refine ⟨fun i r hinvalid => ?_, fun hvalid hgoing hbeyond => ?_⟩
      · exact hrefuse (handleSchedAdopt_invalid (adoptChecks_ok hw ht hr) hfree (hallowed hstate) hinvalid)
      · exact hrefuse
          (handleSchedAdopt_beyond (adoptChecks_ok hw ht hr) hfree (hallowed hstate) hvalid hgoing hbeyond)
  · intro s tag low p ha hready hlast
    refine ⟨_, exec_lastByte ha hready hlast rfl, ?_, ?_⟩
    · rintro rfl
      exact answered_of_refused ha.due_none (handleSchedAdopt_badLength s (by simp)) _ _
    · rintro when_ target restart rfl hw
      exact answered_of_refused ha.due_none (handleSchedAdopt_badField (adoptChecks_badWhen hw)) _ _

end Sys2Proof.Machine
end

section
/-! SUPPORT. The byte form of a step record (R170): read back from its own bytes, and the lengths that no mask gives. -/

namespace Sys2Proof.Machine

/-! ### Optional fields -/

theorem takeOpt1_field {field : Option Nat} (h : ∀ n, field = some n → n < 256) (rest : List Byte) :
    takeOpt1 field.isSome ((field.map byte1).getD [] ++ rest) = some (field, rest) := by
  cases field with
  | none => rfl
  | some n => simp [takeOpt1, byte1, Nat.mod_eq_of_lt (h n rfl)]

theorem takeOpt2_field {field : Option Nat} (h : ∀ n, field = some n → n < 65536) (rest : List Byte) :
    takeOpt2 field.isSome ((field.map byte2).getD [] ++ rest) = some (field, rest) := by
  cases field with
  | none => rfl
  | some n => simp [takeOpt2, byte2, read2_byte2 (h n rfl)]

theorem takeOpt1_length {present : Bool} {bytes rest : List Byte} {field : Option Nat}
    (h : takeOpt1 present bytes = some (field, rest)) : bytes.length = (if present then 1 else 0) + rest.length := by
  cases present with
  | false => cases h; simp
  | true =>
    cases bytes with
    | nil => cases h
    | cons b more => cases h; simp [Nat.add_comm]

theorem takeOpt2_length {present : Bool} {bytes rest : List Byte} {field : Option Nat}
    (h : takeOpt2 present bytes = some (field, rest)) : bytes.length = (if present then 2 else 0) + rest.length := by
  cases present with
  | false => cases h; simp
  | true =>
    match bytes with
    | [] | [_] => cases h
    | lo :: hi :: more => cases h; simp only [List.length_cons, if_true]; omega

/-! ### The presence mask -/

/-- R170: the mask of the fields present, the first in bit 0. -/
def presenceMask (present : List Bool) : Nat :=
  (present.zipIdx.map fun (b, bit) => if b then 2 ^ bit else 0).sum

theorem presenceMask_getLsbD : ∀ a b c d e f g : Bool,
    let mask := BitVec.ofNat 8 (presenceMask [a, b, c, d, e, f, g])
    mask.getLsbD 0 = a ∧ mask.getLsbD 1 = b ∧ mask.getLsbD 2 = c ∧ mask.getLsbD 3 = d ∧ mask.getLsbD 4 = e ∧
      mask.getLsbD 5 = f ∧ mask.getLsbD 6 = g ∧ mask.getLsbD 7 = false := by
  decide

/-- R170: the mask of a step record's optional fields. -/
def RawStep.mask (x : RawStep) : Nat :=
  presenceMask
    [x.statistic.isSome, x.mcThreshold.isSome, x.testHours.isSome, x.settleMinutes.isSome, x.minHours.isSome,
      x.maxHours.isSome, x.timeoutAction.isSome]

/-- R170: the optional fields of a step record that are present, in field order. -/
def RawStep.optionalBytes (x : RawStep) : List Byte :=
  (x.statistic.map byte1).getD [] ++ ((x.mcThreshold.map byte2).getD [] ++ ((x.testHours.map byte2).getD [] ++
    ((x.settleMinutes.map byte1).getD [] ++ ((x.minHours.map byte2).getD [] ++ ((x.maxHours.map byte2).getD [] ++
      ((x.timeoutAction.map byte1).getD [] ++ []))))))

theorem RawStep.bytes_eq (x : RawStep) :
    x.bytes =
      byte1 x.kind ++ byte2 x.dbTarget ++ byte2 x.depression ++ byte2 x.rampRate ++ byte2 x.reversalInterval ++
        byte1 x.speed ++ byte1 x.test ++ byte1 x.mask ++ x.optionalBytes := by
  simp only [RawStep.bytes, RawStep.optionalBytes, List.append_assoc, List.append_nil]
  rfl

/-! ### The record read back -/

/-- R170: a step record whose fields fit their widths is what its byte form says. -/
theorem parseStep_bytes {x : RawStep} (h : x.Fits) : parseStep x.bytes = some x := by
  obtain ⟨⟨hkind, hspeed, htest⟩, ⟨htarget, hdepression, hrate, hinterval⟩, hone, htwo⟩ := h
  obtain ⟨h0, h1, h2, h3, h4, h5, h6, h7⟩ := presenceMask_getLsbD x.statistic.isSome x.mcThreshold.isSome
    x.testHours.isSome x.settleMinutes.isSome x.minHours.isSome x.maxHours.isSome x.timeoutAction.isSome
  have hnumber {n : Nat} (hn : n < 256) : (BitVec.ofNat 8 n).toNat = n := Nat.mod_eq_of_lt hn
  rw [RawStep.bytes_eq]
  simp only [byte1, byte2, List.cons_append, List.nil_append, parseStep, RawStep.mask, RawStep.optionalBytes, h0, h1,
    h2, h3, h4, h5, h6, h7, Bool.false_eq_true, if_false, Option.bind_eq_bind, Option.bind_some,
    takeOpt1_field fun n hn => hone n (.inl hn), takeOpt1_field fun n hn => hone n (.inr (.inl hn)),
    takeOpt1_field fun n hn => hone n (.inr (.inr hn)), takeOpt2_field fun n hn => htwo n (.inl hn),
    takeOpt2_field fun n hn => htwo n (.inr (.inl hn)), takeOpt2_field fun n hn => htwo n (.inr (.inr (.inl hn))),
    takeOpt2_field fun n hn => htwo n (.inr (.inr (.inr hn))), hnumber hkind, hnumber hspeed, hnumber htest,
    read2_byte2 htarget, read2_byte2 hdepression, read2_byte2 hrate, read2_byte2 hinterval]

/-! ### Lengths that are not the mask's -/

theorem parseStep_short {p : List Byte} (h : p.length < 12) : parseStep p = none := by
  unfold parseStep
  split
  · simp at h; omega
  · rfl

theorem optionalWidth_eq (mask : Byte) :
    optionalWidth mask =
      (if mask.getLsbD 0 then 1 else 0) + ((if mask.getLsbD 1 then 2 else 0) + ((if mask.getLsbD 2 then 2 else 0) +
        ((if mask.getLsbD 3 then 1 else 0) + ((if mask.getLsbD 4 then 2 else 0) + ((if mask.getLsbD 5 then 2 else 0) +
          ((if mask.getLsbD 6 then 1 else 0) + 0)))))) := rfl

/-- R170: a byte form that is read has bit 7 of its mask clear and the length that the mask gives. -/
theorem parseStep_some_length {fixed rest : List Byte} {mask : Byte} {x : RawStep} (hfixed : fixed.length = 11)
    (h : parseStep (fixed ++ mask :: rest) = some x) : mask.getLsbD 7 = false ∧ rest.length = optionalWidth mask := by
  match fixed, hfixed with
  | [k, d0, d1, p0, p1, r0, r1, v0, v1, sp, t], _ =>
    cases hbit : mask.getLsbD 7 with
    | true => simp [parseStep, hbit] at h
    | false =>
      simp only [List.cons_append, List.nil_append, parseStep, hbit, Bool.false_eq_true, if_false, Option.bind_eq_bind,
        Option.bind_eq_some_iff, Prod.exists] at h
      obtain ⟨_, r1, h1, _, r2, h2, _, r3, h3, _, r4, h4, _, r5, h5, _, r6, h6, _, r7, h7, hend⟩ := h
      cases r7 with
      | cons => cases hend
      | nil =>
        refine ⟨rfl, ?_⟩
        rw [optionalWidth_eq, takeOpt1_length h1, takeOpt2_length h2, takeOpt2_length h3, takeOpt1_length h4,
          takeOpt2_length h5, takeOpt2_length h6, takeOpt1_length h7, List.length_nil]

theorem parseStep_badLength {fixed rest : List Byte} {mask : Byte} (hfixed : fixed.length = 11)
    (h : mask.getLsbD 7 = true ∨ rest.length ≠ optionalWidth mask) : parseStep (fixed ++ mask :: rest) = none := by
  cases hx : parseStep (fixed ++ mask :: rest) with
  | none => rfl
  | some x =>
    obtain ⟨hbit, hlength⟩ := parseStep_some_length hfixed hx
    obtain h | h := h
    · rw [hbit] at h; cases h
    · exact absurd hlength h

end Sys2Proof.Machine
end

section
/-! SUPPORT. The checks of SCHED_PUT_STEP (R63, R64, R69): each field's check says what R63 and R64 ask of it, the first
that fails gives the number, and the fields of a legal record pass. -/

namespace Sys2Proof.Machine

/-! ### What each check says -/

theorem inRange_iff (lo hi n : Nat) : inRange lo hi n = true ↔ lo ≤ n ∧ n ≤ hi := by simp [inRange]

theorem StepKind.ofCode_isSome_iff (n : Nat) : (StepKind.ofCode n).isSome = true ↔ n ≤ 4 := by
  match n with
  | 0 | 1 | 2 | 3 | 4 => simp [StepKind.ofCode]
  | k + 5 => simp [StepKind.ofCode]

theorem Speed.ofCode_isSome_iff (n : Nat) : (Speed.ofCode n).isSome = true ↔ n ≤ 1 := by
  match n with
  | 0 | 1 => simp [Speed.ofCode]
  | k + 2 => simp [Speed.ofCode]

theorem StepTest.ofCode_isSome_iff (n : Nat) : (StepTest.ofCode n).isSome = true ↔ n ≤ 5 := by
  match n with
  | 0 | 1 | 2 | 3 | 4 | 5 => simp [StepTest.ofCode]
  | k + 6 => simp [StepTest.ofCode]

theorem Statistic.ofCode_isSome_iff (n : Nat) : (Statistic.ofCode n).isSome = true ↔ 0 ≤ n ∧ n ≤ 2 := by
  match n with
  | 0 | 1 | 2 => simp [Statistic.ofCode]
  | k + 3 => simp [Statistic.ofCode]

theorem TimeoutAction.ofCode_isSome_iff (n : Nat) : (TimeoutAction.ofCode n).isSome = true ↔ 0 ≤ n ∧ n ≤ 1 := by
  match n with
  | 0 | 1 => simp [TimeoutAction.ofCode]
  | k + 2 => simp [TimeoutAction.ofCode]

/-- R64: the tests by their codes. -/
theorem StepTest.ofCode_any (n : Nat) :
    ((StepTest.ofCode n).any StepTest.isMc = true ↔ n = 2 ∨ n = 4 ∨ n = 5) ∧
      ((StepTest.ofCode n).any StepTest.isHours = true ↔ n = 3 ∨ n = 4 ∨ n = 5) ∧
      ((StepTest.ofCode n).any (fun t => decide (t = .settled)) = true ↔ n = 0) := by
  match n with
  | 0 | 1 | 2 | 3 | 4 | 5 => simp [StepTest.ofCode, StepTest.isMc, StepTest.isHours]
  | k + 6 => simp [StepTest.ofCode]

theorem presentAs_iff (needed : Bool) (ok : Nat → Bool) (field : Option Nat) :
    presentAs needed ok field = true ↔
      (needed = true ↔ field.isSome = true) ∧ ∀ n, field = some n → ok n = true := by
  cases field <;> simp [presentAs]

theorem freeAs_iff (ok : Nat → Bool) (field : Option Nat) :
    freeAs ok field = true ↔ ∀ n, field = some n → ok n = true := by
  cases field <;> simp [freeAs]

/-- R63, R64, R69: every check of a step record passes exactly under its condition. -/
theorem RawStep.checks_conditions (x : RawStep) :
    List.Forall₂ (fun c p => c.2 = true ↔ p) x.checks x.conditions := by
  obtain ⟨hmc, hhours, hsettled⟩ := StepTest.ofCode_any x.test
  simp only [RawStep.checks, RawStep.conditions, List.forall₂_cons, List.forall₂_nil_left_iff, presentAs_iff,
    freeAs_iff, StepKind.ofCode_isSome_iff, Speed.ofCode_isSome_iff, StepTest.ofCode_isSome_iff,
    Statistic.ofCode_isSome_iff, TimeoutAction.ofCode_isSome_iff, inRange_iff, hmc, hhours, hsettled, Bool.or_eq_true, beq_iff_eq,
    Nat.zero_le, true_and, and_true]

/-! ### The first check that fails -/

theorem firstBad_cons_good {checks : List (Nat × Bool)} {c : Nat × Bool} (h : c.2 = true) :
    firstBad (c :: checks) = firstBad checks := by
  simp [firstBad, h]

theorem firstBad_cons_bad {checks : List (Nat × Bool)} {c : Nat × Bool} (h : ¬ c.2 = true) :
    firstBad (c :: checks) = some c.1 := by
  simp [firstBad, h]

/-- Checks that pass exactly under some conditions report the check at the first condition that fails. -/
theorem firstBad_of_firstFailing {checks : List (Nat × Bool)} {conditions : List Prop}
    (h : List.Forall₂ (fun c p => c.2 = true ↔ p) checks conditions) : ∀ {k : Nat}, FirstFailing conditions k →
    firstBad checks = (checks.map (·.1))[k]? := by
  induction h with
  | nil => exact fun hk => absurd hk (not_firstFailing_nil _)
  | cons hc _ ih =>
    intro k hk
    cases k with
    | zero => exact firstBad_cons_bad fun hgood => firstFailing_cons_zero hk (hc.1 hgood)
    | succ k =>
      obtain ⟨hp, hrest⟩ := firstFailing_cons_succ hk
      exact (firstBad_cons_good (hc.2 hp)).trans (ih hrest)

theorem firstBad_of_conditions {checks : List (Nat × Bool)} {conditions : List Prop}
    (h : List.Forall₂ (fun c p => c.2 = true ↔ p) checks conditions) (hall : ∀ p ∈ conditions, p) :
    firstBad checks = none := by
  induction h with
  | nil => rfl
  | cons hc _ ih =>
    rw [firstBad_cons_good (hc.2 (hall _ List.mem_cons_self))]
    exact ih fun p hp => hall p (List.mem_cons_of_mem _ hp)

/-- R69: the conditions are those of fields 2 to 15. -/
theorem RawStep.firstBad_checks {x : RawStep} {k : Nat} (h : FirstFailing x.conditions k) :
    firstBad x.checks = some (k + 2) := by
  have hk : k < 14 := by
    obtain ⟨⟨p, hp, -⟩, -⟩ := h
    exact (List.getElem?_eq_some_iff.1 hp).1
  have hnumbers : x.checks.map (·.1) = List.range' 2 14 := rfl
  rw [firstBad_of_firstFailing x.checks_conditions h, hnumbers, List.getElem?_range' hk, Nat.one_mul, Nat.add_comm]

/-! ### Legal records -/

/-- The fields of a step record as the link carries them. -/
def StepRecord.raw (x : StepRecord) : RawStep :=
  { kind := x.kind.code, dbTarget := x.dbTarget, depression := x.depression, rampRate := x.rampRate,
    reversalInterval := x.reversalInterval, speed := x.speed.code, test := x.test.code,
    statistic := x.statistic.map Statistic.code, mcThreshold := x.mcThreshold, testHours := x.testHours,
    settleMinutes := x.settleMinutes, minHours := x.minHours, maxHours := x.maxHours,
    timeoutAction := x.timeoutAction.map TimeoutAction.code }

theorem sendOpt_eq (f : Nat → List Byte) (field : Option Nat) : sendOpt f field = (field.map f).getD [] := by
  cases field <;> rfl

theorem StepRecord.raw_bytes (x : StepRecord) : x.raw.bytes = x.bytes := by
  have hmask : x.raw.mask = x.mask := by
    simp [RawStep.mask, presenceMask, StepRecord.raw, StepRecord.mask, Nat.add_assoc]
  rw [RawStep.bytes_eq, hmask]
  simp only [StepRecord.bytes, RawStep.optionalBytes, StepRecord.raw, sendOpt_eq, List.append_assoc, List.append_nil]

theorem StepKind.ofCode_code (x : StepKind) : StepKind.ofCode x.code = some x := by cases x <;> rfl

theorem Speed.ofCode_code (x : Speed) : Speed.ofCode x.code = some x := by cases x <;> rfl

theorem StepTest.ofCode_code (x : StepTest) : StepTest.ofCode x.code = some x := by cases x <;> rfl

theorem Statistic.ofCode_code (x : Statistic) : Statistic.ofCode x.code = some x := by cases x <;> rfl

theorem TimeoutAction.ofCode_code (x : TimeoutAction) : TimeoutAction.ofCode x.code = some x := by cases x <;> rfl

/-- R170: the record of its own fields. -/
theorem StepRecord.raw_record (x : StepRecord) : x.raw.record = some x := by
  have hstatistic : (x.statistic.map Statistic.code).bind Statistic.ofCode = x.statistic := by
    cases x.statistic <;> simp [Statistic.ofCode_code]
  have haction : (x.timeoutAction.map TimeoutAction.code).bind TimeoutAction.ofCode = x.timeoutAction := by
    cases x.timeoutAction <;> simp [TimeoutAction.ofCode_code]
  simp only [RawStep.record, StepRecord.raw, StepKind.ofCode_code, Speed.ofCode_code, StepTest.ofCode_code, hstatistic,
    haction, Option.bind_eq_bind, Option.bind_some]

/-- R63, R64: the codes of a step record's enumerations. -/
theorem StepRecord.code_le (x : StepRecord) :
    x.kind.code ≤ 4 ∧ x.speed.code ≤ 1 ∧ x.test.code ≤ 5 ∧ (∀ n, x.statistic.map Statistic.code = some n → n ≤ 2) ∧
      ∀ n, x.timeoutAction.map TimeoutAction.code = some n → n ≤ 1 := by
  refine ⟨?_, ?_, ?_, fun n hn => ?_, fun n hn => ?_⟩
  · cases x.kind <;> decide
  · cases x.speed <;> decide
  · cases x.test <;> decide
  · obtain ⟨y, -, rfl⟩ := Option.map_eq_some_iff.1 hn
    cases y <;> decide
  · obtain ⟨y, -, rfl⟩ := Option.map_eq_some_iff.1 hn
    cases y <;> decide

theorem StepTest.code_any (x : StepTest) :
    (x.isMc = true ↔ x.code = 2 ∨ x.code = 4 ∨ x.code = 5) ∧ (x.isHours = true ↔ x.code = 3 ∨ x.code = 4 ∨ x.code = 5) ∧
      (x = .settled ↔ x.code = 0) := by
  cases x <;> decide

/-- R63, R64: the fields of a legal record meet every condition. -/
theorem StepRecord.Legal.conditions {x : StepRecord} (h : x.Legal) : ∀ p ∈ x.raw.conditions, p := by
  obtain ⟨htarget, hdepression, hrate, hinterval, hstatistic, hthreshold, hthreshold', hhours, hhours', hsettle,
    hsettle', hmin, hmax, haction⟩ := h
  obtain ⟨hkind, hspeed, htest, hstatistic', haction'⟩ := x.code_le
  obtain ⟨hmc, hhour, hsettled⟩ := x.test.code_any
  simp only [RawStep.conditions, StepRecord.raw, List.forall_mem_cons, Option.isSome_map, ← hmc, ← hhour, ← hsettled,
    hstatistic, hthreshold, hhours, haction, hsettle, Nat.zero_le, true_and]
  exact ⟨hkind, htarget, hdepression, hrate, hinterval, hspeed, htest, hstatistic', hthreshold', hhours', hsettle',
    hmin, hmax, haction', fun _ hp => (List.not_mem_nil hp).elim⟩

/-- R63: the fields of a legal record fit their widths. -/
theorem StepRecord.Legal.fits {x : StepRecord} (h : x.Legal) : x.raw.Fits := by
  obtain ⟨htarget, hdepression, hrate, hinterval, -, -, hthreshold, -, hhours, -, hsettle, hmin, hmax, -⟩ := h
  obtain ⟨hkind, hspeed, htest, hstatistic, haction⟩ := x.code_le
  refine ⟨?_, ?_, fun n hn => ?_, fun n hn => ?_⟩
  · simp only [StepRecord.raw]; omega
  · simp only [StepRecord.raw]; omega
  · obtain hn | hn | hn := hn
    · have := hstatistic n hn; omega
    · have := hsettle n hn; omega
    · have := haction n hn; omega
  · obtain hn | hn | hn | hn := hn
    · have := hthreshold n hn; omega
    · have := hhours n hn; omega
    · have := hmin n hn; omega
    · have := hmax n hn; omega

end Sys2Proof.Machine
end

section
/-! PutStepReadsBackTheRecord. -/

namespace Sys2Proof.Machine

/-! ### The handler -/

theorem indexFits_iff (i count : Nat) : indexFits i count = true ↔ i ≤ count ∧ i < 24 := by simp [indexFits]

/-- R69: an index up to the count holds the step that is put there. -/
theorem putStep_getElem? {steps : List StepRecord} {i : Nat} (h : i ≤ steps.length) (x : StepRecord) :
    (putStep steps i x)[i]? = some x := by
  unfold putStep
  split
  · simp [*]
  · have hi : i = steps.length := by omega
    simp [hi]

section
variable {s : State} {index : Byte} {bytes : List Byte}

theorem handleSchedPutStep_badLength (h : parseStep bytes = none) :
    handleSchedPutStep (index :: bytes) s = (s, .of .badLength s.summary) := by
  simp only [handleSchedPutStep, h]
  rfl

theorem handleSchedPutStep_short {p : List Byte} (h : p.length < 13) :
    handleSchedPutStep p s = (s, .of .badLength s.summary) := by
  cases p with
  | nil => rfl
  | cons index bytes => exact handleSchedPutStep_badLength (parseStep_short (Nat.lt_of_succ_lt_succ h))

variable {x : RawStep} (hparse : parseStep bytes = some x)
include hparse

theorem handleSchedPutStep_pending (h : s.schedule.adoption.isSome = true) :
    handleSchedPutStep (index :: bytes) s = (s, .of .adoptionPending s.summary) := by
  simp only [handleSchedPutStep, hparse]
  exact State.edit_of_pending h _

variable (hfree : s.schedule.adoption = none)
include hfree

theorem handleSchedPutStep_badField {field : Nat}
    (h : firstBad ((1, indexFits index.toNat s.schedule.editSteps.length) :: x.checks) = some field) :
    handleSchedPutStep (index :: bytes) s = (s, .badField field s.summary) := by
  simp only [handleSchedPutStep, hparse, h]
  exact State.edit_of_free hfree _

theorem handleSchedPutStep_put {y : StepRecord}
    (h : firstBad ((1, indexFits index.toNat s.schedule.editSteps.length) :: x.checks) = none)
    (hy : x.record = some y) :
    handleSchedPutStep (index :: bytes) s =
      scheduleReply .ok (s.setEdit (putStep s.schedule.editSteps index.toNat y)) := by
  simp only [handleSchedPutStep, hparse, h, hy]
  exact State.edit_of_free hfree _

end

/-! ### The served requests -/

theorem schedPutStep_refused {s : State} {tag : Byte} {payload : List Byte} {r : Reply} (h : s.Receptive)
    (hr : handleSchedPutStep payload s = (s, r)) : ServedUnchanged (.schedPutStep tag payload) s r :=
  servedUnchanged_of_handled (c := .schedPutStep tag payload) h rfl (by simp) rfl hr

/-- Settles O27: the byte form of a record is read back as its fields, which pass R69's checks when the record is legal;
each refusal by what the handler looks at first. -/
theorem putStepReadsBackTheRecord : Obligations.PutStepReadsBackTheRecord := by
  unfold Obligations.PutStepReadsBackTheRecord
  have hindex {i : Nat} (hi : i < 256) : (BitVec.ofNat 8 i).toNat = i := Nat.mod_eq_of_lt hi
  refine ⟨fun s tag i x h hlegal hfree hi hi24 => ?_, fun s tag h => ⟨fun p hp => ?_, ?_, fun i x hi hfits => ?_⟩⟩
  · have hparse : parseStep x.bytes = some x.raw := by rw [← x.raw_bytes]; exact parseStep_bytes hlegal.fits
    have hput := handleSchedPutStep_put (s := s) (index := BitVec.ofNat 8 i) hparse hfree
      (by
        rw [hindex (by omega), firstBad_cons_good ((indexFits_iff _ _).2 ⟨hi, hi24⟩)]
        exact firstBad_of_conditions x.raw.checks_conditions hlegal.conditions)
      x.raw_record
    rw [hindex (by omega)] at hput
    obtain ⟨t, hserved, hkept, hedit, hactive⟩ :=
      edit_served (c := .schedPutStep tag (BitVec.ofNat 8 i :: x.bytes)) h hfree rfl (by simp) rfl hput
    exact ⟨t, hserved, hkept, hedit, by rw [hedit, putStep_getElem? hi], hactive⟩
  · exact schedPutStep_refused h (handleSchedPutStep_short hp)
  · intro index mask fixed rest hfixed hbad
    exact schedPutStep_refused h (handleSchedPutStep_badLength (parseStep_badLength hfixed hbad))
  · intro c fits
    have hparse := parseStep_bytes hfits
    refine ⟨fun hpending => ?_, fun hfree => ⟨fun hnot => ?_, fun k hwithin hk => ?_⟩⟩
    · exact schedPutStep_refused h (handleSchedPutStep_pending hparse hpending)
    · refine schedPutStep_refused h (handleSchedPutStep_badField (field := 1) hparse hfree (firstBad_cons_bad ?_))
      rwa [hindex hi, indexFits_iff]
    · refine schedPutStep_refused h (handleSchedPutStep_badField (field := k + 2) hparse hfree ?_)
      rw [hindex hi, firstBad_cons_good ((indexFits_iff _ _).2 hwithin)]
      exact RawStep.firstBad_checks hk

end Sys2Proof.Machine
end

section
/-! SUPPORT. What the interlock latches ask of the run, and what FAN_RUN asks of the fans (EveryStepKeepsInterlocksAndFans):
the condition, and the moves of the run and of the fans that leave it standing. -/

namespace Sys2Proof.Machine

/-! ### The condition -/

/-- R9: no scan is in progress, and none waits. -/
def Scanner.Resting (x : Scanner) : Prop := x.state = .off ∧ x.measurement = none

/-- R98, R101, R134 to R140: the run agrees with the latches and the fans with their input; before READY no latch is set,
no run is in progress, the fans are STOPPED and the scanner is at rest. -/
structure State.Guarded (s : State) : Prop where
  trips : s.TripsHold
  interlock : s.InterlockAgrees
  fans : s.FansSound
  cold : s.ready = false →
    (∀ i, (s.input i).latch = false) ∧ s.run.state.inProgress = false ∧ s.fans.state = .stopped ∧ s.scanner.Resting

/-- 1.6: a scanner that is OFF has no measurement. -/
theorem State.guarded_of_sound {s : State} (hscanner : s.scanner.Agrees) (h : s.InterlocksSound) (hf : s.FansSound) :
    s.Guarded := by
  obtain ⟨htrips, hcold, hinterlock⟩ := h
  refine ⟨htrips, hinterlock, hf, fun hr => ?_⟩
  obtain ⟨hlatch, hrun, hoff, hstopped, -⟩ := hcold hr
  refine ⟨hlatch, hrun, hstopped, hoff, ?_⟩
  cases hm : s.scanner.measurement with
  | none => rfl
  | some m => exact absurd (hscanner.scanning hm) (by simp [hoff])

/-- R134: the comparison of FAN_RUN of STOPPED fans is not ACTIVE. -/
theorem Fans.Agrees.of_stopped {f : Fans} (h : f.Agrees) (hs : f.state = .stopped) :
    f.expectRunning = false ∧ f.compareActive = false := by
  simpa [Fans.Agrees, hs] using h

theorem State.Guarded.sound {s : State} (h : s.Guarded) : s.InterlocksSound ∧ s.FansSound := by
  refine ⟨⟨h.trips, fun hr => ?_, h.interlock⟩, h.fans⟩
  obtain ⟨hlatch, hrun, hstopped, hoff, -⟩ := h.cold hr
  exact ⟨hlatch, hrun, hoff, hstopped, (h.fans.1.of_stopped hstopped).2⟩

/-! ### What the condition looks at -/

theorem State.anyLatchOfLevel_iff (s : State) (level : Nat) :
    s.anyLatchOfLevel level = true ↔ ∃ i, (s.input i).latch = true ∧ s.inputLevel i = level := by
  have hall (i : Input) : i ∈ Input.all := by cases i <;> decide
  simp [State.anyLatchOfLevel, hall]

/-- The latches of a level are there as before when each set one has its level as before. -/
theorem State.anyLatchOfLevel_of_latches {s t : State} (hl : ∀ i, (t.input i).latch = (s.input i).latch)
    (hi : ∀ i, (s.input i).latch = true → t.inputLevel i = s.inputLevel i) (level : Nat) :
    t.anyLatchOfLevel level = s.anyLatchOfLevel level := by
  rw [Bool.eq_iff_iff, State.anyLatchOfLevel_iff, State.anyLatchOfLevel_iff]
  refine exists_congr fun i => ?_
  rw [hl]
  exact and_congr_right fun hset => by rw [hi i hset]

theorem State.anyLatchOfLevel_congr {s t : State} (hi : t.interlocks = s.interlocks)
    (hl : t.settings.interlocks = s.settings.interlocks) (level : Nat) :
    t.anyLatchOfLevel level = s.anyLatchOfLevel level :=
  State.anyLatchOfLevel_of_latches (fun i => by simp only [State.input, hi])
    (fun i _ => by simp only [State.inputLevel, hl]) level

/-- R143: with no latch set there is none of any level. -/
theorem State.anyLatchOfLevel_of_clear {s : State} (h : ∀ i, (s.input i).latch = false) (level : Nat) :
    s.anyLatchOfLevel level = false := by
  rw [← Bool.not_eq_true, State.anyLatchOfLevel_iff]
  rintro ⟨i, hlatch, -⟩
  exact absurd hlatch (by simp [h i])

theorem RunState.not_going {x : RunState} (h : x.inProgress = false) : x.going = false :=
  Bool.eq_false_iff.2 fun hg => Bool.eq_false_iff.1 h (RunState.inProgress_of_going hg)

theorem State.FansSound.congr {s t : State} (h : s.FansSound) (hf : t.fans = s.fans) (hi : t.interlocks = s.interlocks) :
    t.FansSound := by
  simpa only [State.FansSound, State.input, hf, hi] using h

/-! ### Moves of the run and of the fans -/

/-- R98, R101: a run that goes only where the one before did, and that in progress holds INTERLOCK as that one did. -/
structure Run.Follows (r r' : Run) : Prop where
  going : r'.state.going = true → r.state.going = true
  inProgress : r'.state.inProgress = true → r.state.inProgress = true ∧ r'.reasons.interlock = r.reasons.interlock

theorem Run.Follows.refl (r : Run) : r.Follows r := ⟨id, fun h => ⟨h, rfl⟩⟩

theorem Run.Follows.trans {r r' r'' : Run} (h : r.Follows r') (h' : r'.Follows r'') : r.Follows r'' := by
  refine ⟨h.going ∘ h'.going, fun hp => ?_⟩
  obtain ⟨hp', heq'⟩ := h'.inProgress hp
  obtain ⟨hp, heq⟩ := h.inProgress hp'
  exact ⟨hp, heq'.trans heq⟩

/-- A run that is no longer in progress. -/
theorem Run.Follows.of_over {r r' : Run} (h : r'.state.inProgress = false) : r.Follows r' :=
  ⟨fun hg => by simp [RunState.not_going h] at hg, fun hp => by simp [h] at hp⟩

/-- A run in its state, with INTERLOCK in its set as it was. -/
theorem Run.Follows.of_same {r r' : Run} (hs : r'.state = r.state) (hr : r'.reasons.interlock = r.reasons.interlock) :
    r.Follows r' := by
  refine ⟨fun h => hs ▸ h, fun h => ⟨hs ▸ h, hr⟩⟩

/-- R97: a run that goes on going, with INTERLOCK in its set as it was. -/
theorem Run.Follows.of_going {r r' : Run} (hg : r.state.going = true) (hr : r'.reasons.interlock = r.reasons.interlock) :
    r.Follows r' :=
  ⟨fun _ => hg, fun _ => ⟨RunState.inProgress_of_going hg, hr⟩⟩

/-- R134 to R140: fans that keep their agreement, that do not start, and that stay FAILED or STOPPED once they are. -/
structure Fans.Follows (f f' : Fans) : Prop where
  agrees : f.Agrees → f'.Agrees
  starting : f'.state = .starting → f.state = .starting
  latched : f.state = .failed ∨ f.state = .stopped → f'.state = .failed ∨ f'.state = .stopped
  stopped : f.state = .stopped → f'.state = .stopped

theorem Fans.Follows.trans {f f' f'' : Fans} (h : f.Follows f') (h' : f'.Follows f'') : f.Follows f'' :=
  ⟨h'.agrees ∘ h.agrees, h.starting ∘ h'.starting, h'.latched ∘ h.latched, h'.stopped ∘ h.stopped⟩

/-- Fans in their state, direction and expectation. -/
theorem Fans.Follows.of_same {f f' : Fans} (hs : f'.state = f.state) (hd : f'.direction = f.direction)
    (he : f'.expectRunning = f.expectRunning) (hc : f'.compareActive = f.compareActive) : f.Follows f' := by
  refine ⟨fun h => ?_, fun h => hs ▸ h, fun h => hs ▸ h, fun h => hs ▸ h⟩
  simpa only [Fans.Agrees, hs, hd, he, hc] using h

theorem Fans.Follows.refl (f : Fans) : f.Follows f := .of_same rfl rfl rfl rfl

/-- R135: fans that are STOPPED. -/
theorem Fans.Follows.of_stopped {f f' : Fans} (hs : f'.state = .stopped) (he : f'.expectRunning = false)
    (hc : f'.compareActive = false) : f.Follows f' :=
  ⟨fun _ => by simp [Fans.Agrees, hs, he, hc], fun h => by simp [hs] at h, fun _ => .inr hs, fun _ => hs⟩

/-- What an operation moves that touches neither latches nor levels: the run and the fans. -/
structure State.Follows (s t : State) : Prop where
  ready : t.ready = s.ready
  interlocks : t.interlocks = s.interlocks
  levels : t.settings.interlocks = s.settings.interlocks
  run : s.run.Follows t.run
  fans : s.fans.Follows t.fans

theorem State.Follows.trans {s t u : State} (h : s.Follows t) (h' : t.Follows u) : s.Follows u :=
  ⟨h'.ready.trans h.ready, h'.interlocks.trans h.interlocks, h'.levels.trans h.levels, h.run.trans h'.run,
    h.fans.trans h'.fans⟩

theorem State.Follows.of_same {s t : State} (hready : t.ready = s.ready) (hi : t.interlocks = s.interlocks)
    (hl : t.settings.interlocks = s.settings.interlocks) (hr : t.run = s.run) (hf : t.fans = s.fans) : s.Follows t :=
  ⟨hready, hi, hl, hr ▸ .refl _, hf ▸ .refl _⟩

theorem State.Follows.refl (s : State) : s.Follows s := .of_same rfl rfl rfl rfl rfl

theorem State.Follows.of_run {s : State} {r : Run} (h : s.run.Follows r) : s.Follows { s with run := r } :=
  ⟨rfl, rfl, rfl, h, .refl _⟩

theorem State.Follows.of_fans {s : State} {f : Fans} (h : s.fans.Follows f) : s.Follows { s with fans := f } :=
  ⟨rfl, rfl, rfl, .refl _, h⟩

theorem State.Follows.fansSound {s t : State} (hf : s.Follows t) (h : s.FansSound) : t.FansSound := by
  obtain ⟨hagrees, hstarting, hlatch⟩ := h
  have hinput : t.input .fanRun = s.input .fanRun := congrArg (·.fanRun) hf.interlocks
  exact ⟨hf.fans.agrees hagrees, fun hs => hinput ▸ hstarting (hf.fans.starting hs),
    fun hl => hf.fans.latched (hlatch (hinput ▸ hl))⟩

/-- Such a move keeps the condition; before READY the scanner has to stay at rest. -/
theorem State.Guarded.of_follows {s t : State} (h : s.Guarded) (hf : s.Follows t)
    (hs : s.ready = false → s.scanner.Resting → t.scanner.Resting) : t.Guarded := by
  have hany := State.anyLatchOfLevel_congr hf.interlocks hf.levels
  refine ⟨fun hl => ?_, fun hp => ?_, hf.fansSound h.fans, fun hr => ?_⟩
  · have hstill := h.trips (hany 3 ▸ hl)
    exact Bool.eq_false_iff.2 fun hg => Bool.eq_false_iff.1 hstill (hf.run.going hg)
  · obtain ⟨hp, hr⟩ := hf.run.inProgress hp
    rw [hr, h.interlock hp, hany]
  · have hr' : s.ready = false := hf.ready ▸ hr
    obtain ⟨hlatch, hrun, hstopped, hresting⟩ := h.cold hr'
    refine ⟨fun i => ?_, Bool.eq_false_iff.2 fun hp => ?_, hf.fans.stopped hstopped, hs hr' hresting⟩
    · rw [State.input, hf.interlocks]; exact hlatch i
    · exact Bool.eq_false_iff.1 hrun (hf.run.inProgress hp).1

/-- An operation on what the condition does not look at. -/
theorem State.Guarded.congr {s t : State} (h : s.Guarded) (hready : t.ready = s.ready) (hi : t.interlocks = s.interlocks)
    (hl : t.settings.interlocks = s.settings.interlocks) (hr : t.run = s.run) (hf : t.fans = s.fans)
    (hx : t.scanner = s.scanner) : t.Guarded :=
  h.of_follows (.of_same hready hi hl hr hf) fun _ hrest => hx ▸ hrest

end Sys2Proof.Machine
end

section
/-! SUPPORT. The operations of the run, the scanner and the clocks move the run and the fans only as the latches allow
(EveryStepKeepsInterlocksAndFans). -/

namespace Sys2Proof.Machine

/-! ### Hold reasons (R97, R98) -/

theorem HoldSet.put_interlock (x : HoldSet) {r : HoldReason} (h : r ≠ .interlock) (b : Bool) :
    (x.put r b).interlock = x.interlock := x.has_put_ne r .interlock b (Ne.symm h)

theorem State.queueNotice_follows (s : State) (k : NoticeKind) (a b : Nat) : s.Follows (s.queueNotice k a b) :=
  .of_same rfl rfl rfl rfl rfl

theorem State.wantCheckpoint_follows (s : State) : s.Follows s.wantCheckpoint := .of_same rfl rfl rfl rfl rfl

theorem State.addReason_follows (s : State) {r : HoldReason} (h : r ≠ .interlock) : s.Follows (s.addReason r) := by
  obtain ⟨-, heq⟩ | ⟨-, hreasons, hstate⟩ := s.addReason_cases r
  · rw [heq]; exact .refl s
  · have hinterlock : (s.addReason r).run.reasons.interlock = s.run.reasons.interlock := by
      rw [hreasons]; exact HoldSet.put_interlock _ h _
    refine ⟨by simp, by simp, by simp, ?_, by simpa using Fans.Follows.refl s.fans⟩
    by_cases hs : s.run.state = .running
    · exact .of_going (by rw [hs]; rfl) hinterlock
    · exact .of_same (by rw [hstate, if_neg hs]) hinterlock

theorem State.resumeIfEmpty_follows (s : State) : s.Follows s.resumeIfEmpty := by
  unfold State.resumeIfEmpty
  split
  · rename_i h
    simp only [Bool.and_eq_true, decide_eq_true_eq] at h
    have hresumed : s.Follows { s with run := { s.run with state := .running } } :=
      .of_run (.of_going (by rw [h.2]; rfl) rfl)
    exact (hresumed.trans (State.queueNotice_follows _ _ _ _)).trans (State.wantCheckpoint_follows _)
  · exact .refl s

theorem State.removeReason_follows (s : State) {r : HoldReason} (h : r ≠ .interlock) : s.Follows (s.removeReason r) := by
  unfold State.removeReason
  split
  · have hput : s.Follows { s with run := { s.run with reasons := s.run.reasons.put r false } } :=
      .of_run (.of_same rfl (HoldSet.put_interlock _ h _))
    exact hput.trans (State.resumeIfEmpty_follows _)
  · exact .refl s

theorem State.judgeReason_follows (s : State) {r : HoldReason} (h : r ≠ .interlock) (present : Bool) :
    s.Follows (s.judgeReason r present) := by
  unfold State.judgeReason
  split
  · split
    · exact s.addReason_follows h
    · exact s.removeReason_follows h
  · exact .refl s

theorem State.resumeRun_follows (s : State) : s.Follows s.resumeRun := by
  have hput : s.Follows
      { s with
        run := { s.run with reasons := ((s.run.reasons.put .host false).put .timeout false).put .restored false } } :=
    .of_run (.of_same rfl rfl)
  exact (hput.trans (State.resumeIfEmpty_follows _)).trans (State.wantCheckpoint_follows _)

/-! ### The fans (R135, R138) -/

theorem State.fansEnterStopped_follows (s : State) : s.Follows s.fansEnterStopped :=
  ⟨rfl, rfl, rfl, .refl _, .of_stopped rfl rfl rfl⟩

theorem State.fansFollowRun_follows {s : State} (h : s.run.state.going = false) : s.Follows s.fansFollowRun := by
  rw [State.fansFollowRun_of_over h]
  exact s.fansEnterStopped_follows

/-- R138: a reversal begins with the fans running. -/
theorem State.checkReversal_follows (s : State) : s.Follows s.checkReversal := by
  unfold State.checkReversal
  split
  · rename_i h
    simp only [State.reversalIsDue, Bool.and_eq_true] at h
    obtain ⟨⟨hrunning, -⟩, -⟩ := h
    refine ⟨rfl, rfl, rfl, .refl _, ⟨fun _ => rfl, (fun hs => nomatch hs), fun hs => ?_, fun hs => ?_⟩⟩
    · obtain hs | hs := hs <;> rw [hs] at hrunning <;> cases hrunning
    · rw [hs] at hrunning; cases hrunning
  · exact .refl s

theorem State.handFans_follows (s : State) (x : StepRecord) : s.Follows (s.handFans x) := by
  have hset : s.Follows { s with fans := { s.fans with reversalInterval := x.reversalInterval, speed := x.speed } } :=
    .of_fans (.of_same rfl rfl rfl rfl)
  exact hset.trans (State.checkReversal_follows _)

/-! ### Steps (R83, R86, R95, R96) -/

theorem State.zonesTakeStep_follows (s : State) (x : StepRecord) (origin : ZoneId → Int) :
    s.Follows (s.zonesTakeStep x origin) := .of_same rfl rfl rfl rfl rfl

theorem State.latchSpread_follows (s : State) (x : StepRecord) : s.Follows (s.latchSpread x) := by
  unfold State.latchSpread
  split
  · exact .of_run (.of_same rfl rfl)
  · exact .refl s

theorem State.enterStepFrom_follows (s : State) (i : Nat) (origin : StepRecord → ZoneId → Int) :
    s.Follows (s.enterStepFrom i origin) := by
  unfold State.enterStepFrom
  split
  · exact .refl s
  · have hentering : s.Follows { s with run := s.run.entering i } := .of_run (.of_same rfl rfl)
    exact ((((hentering.trans (State.zonesTakeStep_follows _ _ _)).trans (State.handFans_follows _ _)).trans
      (State.latchSpread_follows _ _)).trans (State.queueNotice_follows _ _ _ _)).trans (State.wantCheckpoint_follows _)

theorem State.endRun_follows (s : State) {final : RunState} (h : final.inProgress = false) :
    s.Follows (s.endRun final) := by
  have hended : s.Follows { s with run := { s.run with state := final, reasons := .empty, inBand := false } } :=
    .of_run (.of_over h)
  have hzones (t : State) : t.Follows t.zonesEndRun := .of_same rfl rfl rfl rfl rfl
  exact (hended.trans (hzones _)).trans (State.fansFollowRun_follows (by simpa using RunState.not_going h))

theorem State.completeRun_follows (s : State) : s.Follows s.completeRun := by
  have hcompletion : s.Follows { s with run := { s.run with completion := some s.completionNow } } :=
    .of_run (.of_same rfl rfl)
  exact ((hcompletion.trans (State.endRun_follows _ rfl)).trans (State.queueNotice_follows _ _ _ _)).trans
    (State.wantCheckpoint_follows _)

theorem State.abortRun_follows (s : State) : s.Follows s.abortRun := by
  have hdropped : s.Follows { s with schedule := { s.schedule with adoption := none } } := .of_same rfl rfl rfl rfl rfl
  exact ((hdropped.trans (State.endRun_follows _ rfl)).trans (State.queueNotice_follows _ _ _ _)).trans
    (State.wantCheckpoint_follows _)

theorem State.stepEnd_follows (s : State) : s.Follows s.stepEnd := by
  simp only [State.stepEnd]
  split
  · rename_i a _
    have htaken : s.Follows (s.adoptionTaken a) := .of_same rfl rfl rfl rfl rfl
    exact htaken.trans (State.enterStepFrom_follows _ _ _)
  · split
    · exact s.completeRun_follows
    · exact s.enterStepFrom_follows _ _

theorem State.adoptNow_follows (s : State) (target : Nat) (restart : Bool) : s.Follows (s.adoptNow target restart) := by
  have hindex : s.Follows { s with schedule := s.schedule.exchange, run := { s.run with stepIndex := some target } } :=
    ⟨rfl, rfl, rfl, .of_same rfl rfl, .refl _⟩
  simp only [State.adoptNow]
  refine (State.Follows.trans ?_ (State.queueNotice_follows _ _ _ _)).trans (State.wantCheckpoint_follows _)
  split
  · exact hindex
  · refine State.Follows.trans (hindex.trans ?_) (State.handFans_follows _ _)
    split
    · exact ⟨rfl, rfl, rfl, .of_same rfl rfl, .refl _⟩
    · exact .of_same rfl rfl rfl rfl rfl

theorem State.adopt_follows (s : State) (atStepEnd : Bool) (target : Nat) (restart : Bool) :
    s.Follows (s.adopt atStepEnd target restart) := by
  unfold State.adopt
  split
  · exact .of_same rfl rfl rfl rfl rfl
  · split
    · exact s.adoptNow_follows target restart
    · exact .of_same rfl rfl rfl rfl rfl

/-! ### Advance tests and minute events (R87 to R93) -/

theorem State.testAtPublication_follows (s : State) (f : Option McFigures) : s.Follows (s.testAtPublication f) := by
  have hmet : s.Follows { s with run := { s.run with mcMet := true } } := .of_run (.of_same rfl rfl)
  simp only [State.testAtPublication]
  split
  · exact .refl s
  · split
    case h_1 | h_2 =>
      split
      · exact s.stepEnd_follows
      · exact .refl s
    case h_3 =>
      split <;> split
      · exact hmet.trans (State.stepEnd_follows _)
      · exact hmet
      · exact s.stepEnd_follows
      · exact .refl s
    all_goals exact .refl s

theorem State.judgeSettle_follows (s : State) : s.Follows s.judgeSettle := by
  unfold State.judgeSettle
  split
  · exact .of_run (.of_same rfl rfl)
  · split <;> exact .of_run (.of_same rfl rfl)

theorem State.testAtSet_follows (s : State) : s.Follows s.testAtSet := by
  unfold State.testAtSet
  split
  · exact .refl s
  · split
    · exact s.judgeSettle_follows
    · split
      · exact s.stepEnd_follows
      · exact .refl s
    all_goals exact .refl s

theorem State.withDue_follows (s : State) (d : Due) : s.Follows { s with due := d } := .of_same rfl rfl rfl rfl rfl

theorem State.takeHours_follows (s : State) : s.Follows s.takeHours := by
  unfold State.takeHours
  split
  · split
    · exact (s.withDue_follows _).trans (State.stepEnd_follows s.judgementsOver)
    · exact s.withDue_follows _
  · exact .refl s

theorem State.takeSettle_follows (s : State) : s.Follows s.takeSettle := by
  unfold State.takeSettle
  split
  · split
    · exact (s.withDue_follows _).trans (State.stepEnd_follows s.judgementsOver)
    · exact s.withDue_follows _
  · exact .refl s

theorem State.timeOut_follows (s : State) (x : StepRecord) : s.Follows (s.timeOut x) := by
  unfold State.timeOut
  split
  · exact (s.queueNotice_follows _ _ _).trans (State.stepEnd_follows _)
  · exact (s.addReason_follows (by decide)).trans (.of_run (.of_same rfl rfl))
  · exact .refl s

theorem State.takeTimeout_follows (s : State) : s.Follows s.takeTimeout := by
  have hbefore := s.takeHours_follows.trans s.takeHours.takeSettle_follows
  simp only [State.takeTimeout]
  split
  · split
    · exact (hbefore.trans (State.withDue_follows _ _)).trans (State.timeOut_follows _ _)
    · exact hbefore.trans (State.withDue_follows _ _)
  · exact hbefore

theorem State.countSecond_follows (s : State) : s.Follows s.countSecond := by
  have hseconds (f : Fans) : f.Follows f.countSecond := by
    unfold Fans.countSecond; split <;> exact .of_same rfl rfl rfl rfl
  have hminutes (f : Fans) : f.Follows f.countMinute := by
    unfold Fans.countMinute; split <;> exact .of_same rfl rfl rfl rfl
  simp only [State.countSecond]
  split
  · exact ⟨rfl, rfl, rfl, .refl _, hseconds _⟩
  · exact ⟨rfl, rfl, rfl, .of_same rfl rfl, (hseconds _).trans (hminutes _)⟩

/-! ### Publications and scans (R9 to R11, R56, R155) -/

theorem State.setScanner_follows (s : State) (x : Scanner) : s.Follows (s.setScanner x) := .of_same rfl rfl rfl rfl rfl

theorem State.publish_follows (s : State) (n : Nat) : s.Follows (s.publish n) := by
  have hkept : s.Follows ((s.noticeQuorum (s.publicationNow n)).keepPublication (s.publicationNow n)) :=
    .of_same (by simp) (by simp) (by simp) (by simp) (by simp)
  exact ((hkept.trans (State.judgeReason_follows _ (by decide) _)).trans (State.testAtPublication_follows _ _)).trans
    (.of_same rfl rfl rfl rfl rfl)

theorem State.publishScan_follows (s : State) : s.Follows s.publishScan :=
  (s.setScanner_follows _).trans (State.publish_follows _ _)

theorem State.startScan_follows (s : State) : s.Follows s.startScan := by
  cases h : s.nextProbe 0 with
  | some p => rw [s.startScan_of_next h]; exact s.setScanner_follows _
  | none =>
    rw [s.startScan_of_none h]
    exact ((s.setScanner_follows _).trans (State.publishScan_follows _)).trans (State.setScanner_follows _ _)

theorem State.completeScan_follows (s : State) : s.Follows s.completeScan := by
  cases h : s.scanner.startDue with
  | true => rw [s.completeScan_of_due h]; exact s.publishScan_follows.trans (State.startScan_follows _)
  | false => rw [s.completeScan_of_not_due h]; exact s.publishScan_follows.trans (State.setScanner_follows _ _)

theorem State.advanceScan_follows (s : State) (after : Fin 48) : s.Follows (s.advanceScan after) := by
  cases h : s.nextProbe (probeNumber after) with
  | some p => rw [State.advanceScan_of_next h]; exact s.setScanner_follows _
  | none => rw [State.advanceScan_of_none h]; exact s.completeScan_follows

theorem State.discardFor_follows (s : State) (p : Fin 48) : s.Follows (s.discardFor p) := by
  unfold State.discardFor
  split
  · exact s.advanceScan_follows p
  · exact .refl s

theorem State.discardAny_follows (s : State) : s.Follows s.discardAny := by
  unfold State.discardAny
  split
  · exact s.advanceScan_follows _
  · exact .refl s

theorem State.endMeasurement_follows (s : State) (m : Measurement) (outcome : Outcome) (nPlus : Nat)
    (nMinus : Option Nat) : s.Follows (s.endMeasurement m outcome nPlus nMinus) := by
  have hread : s.Follows (s.handOver m outcome nPlus nMinus) :=
    .of_same (by simp) (by simp) (by simp) (by simp) (by simp)
  exact hread.trans (State.advanceScan_follows _ _)

theorem State.countEnds_follows (s : State) (n : Nat) : s.Follows (s.countEnds n) := by
  unfold State.countEnds
  split
  · split
    · unfold State.positiveCount
      split
      · exact s.endMeasurement_follows _ _ _ _
      · exact s.setScanner_follows _
      · exact s.setScanner_follows _
    · exact s.endMeasurement_follows _ _ _ _
    · exact .refl s
  · exact .refl s

theorem State.takeScanExpiry_follows (s : State) : s.Follows s.takeScanExpiry := by
  unfold State.takeScanExpiry
  split
  · split
    · exact s.startScan_follows
    · exact s.setScanner_follows _
    · exact .refl s
  · exact .refl s

theorem State.scanEnabled_follows (s : State) : s.Follows s.scanEnabled := by
  unfold State.scanEnabled
  split
  · exact s.startScan_follows
  · exact s.setScanner_follows _
  · exact .refl s

theorem State.scanDisabled_follows (s : State) : s.Follows s.scanDisabled :=
  .of_same (by simp) (by simp) (by simp) (by simp) (by simp)

theorem State.intervalChanged_follows (s : State) : s.Follows s.intervalChanged := by
  unfold State.intervalChanged
  split
  · split
    · exact s.startScan_follows
    · exact .refl s
  · split
    · exact s.setScanner_follows _
    · exact .refl s
  · exact .refl s

theorem State.writeScanConfig_follows (s : State) (interval : Nat) (enable : Bool) (tolerance : Nat) :
    s.Follows (s.writeScanConfig interval enable tolerance) := by
  have hset : s.Follows (s.withScan interval enable tolerance) := .of_same rfl rfl rfl rfl rfl
  simp only [State.writeScanConfig]
  split
  · split
    · exact hset.trans (State.scanEnabled_follows _)
    · exact hset.trans (State.scanDisabled_follows _)
    all_goals exact hset
  · refine State.Follows.trans ?_ (State.intervalChanged_follows _)
    split
    · exact hset.trans (State.scanEnabled_follows _)
    · exact hset.trans (State.scanDisabled_follows _)
    all_goals exact hset

theorem State.takeSet_follows (s : State) (x : Zones ZoneSamples) : s.Follows (s.takeSet x) := by
  have hsampled : s.Follows (({ s with sampler := s.sampler.takeMark }.sampleChannels x).zonesTakeSet).refreshOutputs :=
    .of_same (by simp) (by simp) (by simp) (by simp) (by simp)
  exact (hsampled.trans (State.judgeReason_follows _ (by decide) _)).trans (State.testAtSet_follows _)

end Sys2Proof.Machine
end

section
/-! SUPPORT. The moves of the fans (R135 to R140), and a latch signal taken by the Run Controller and the Fan Sequencer in
every order (R101, R140, R147), keep the interlocks' condition (EveryStepKeepsInterlocksAndFans). -/

namespace Sys2Proof.Machine

/-! ### The states that the fans enter -/

theorem State.fansEnterStopped_sound (s : State) : s.fansEnterStopped.FansSound :=
  ⟨⟨rfl, rfl⟩, (fun h => nomatch h), fun _ => .inr rfl⟩

theorem State.fansEnterRunning_sound {s : State} (h : (s.input .fanRun).latch = false) :
    s.fansEnterRunning.FansSound := by
  obtain ⟨f, hf⟩ : ∃ f : Fans,
      f = { s.fans with state := s.fans.direction.runningState, expectRunning := true, compareActive := true } := ⟨_, rfl⟩
  have hrunning : f.Agrees ∧ f.state ≠ .starting := by
    cases hd : s.fans.direction <;> simp [hf, hd, Direction.runningState, Fans.Agrees]
  have hsound : ({ s with fans := f } : State).FansSound :=
    ⟨hrunning.1, fun hs => absurd hs hrunning.2, fun hl => by simp [State.input] at h hl; simp [h] at hl⟩
  rw [State.fansEnterRunning, ← hf]
  exact (State.checkReversal_follows _).fansSound hsound

theorem State.confirmStart_sound {s : State} (h : (s.input .fanRun).latch = false) : s.confirmStart.FansSound :=
  State.fansEnterRunning_sound h

/-- R136: an input that already reads running confirms at once. -/
theorem State.fansEnterStarting_sound {s : State} (h : (s.input .fanRun).latch = false) :
    s.fansEnterStarting.FansSound := by
  simp only [State.fansEnterStarting]
  split
  · exact State.confirmStart_sound h
  · rename_i hl
    exact ⟨rfl, fun _ => by simpa using hl, fun hl' => by simp [State.input] at h hl'; simp [h] at hl'⟩

theorem State.fansEnterFailed_fans (s : State) :
    s.fansEnterFailed.fans =
      { s.fans with state := .failed, expectRunning := false, compareActive := true, confirmTimer := 0, coastTimer := 0 } := by
  simp only [State.fansEnterFailed]
  split <;> rfl

theorem State.fansEnterFailed_sound (s : State) : s.fansEnterFailed.FansSound := by
  simp [State.FansSound, State.fansEnterFailed_fans, Fans.Agrees]

theorem State.fansStart_sound (s : State) : s.fansStart.FansSound := by
  simp only [State.fansStart]
  split
  · exact State.fansEnterFailed_sound _
  · rename_i h
    exact State.fansEnterStarting_sound (Bool.eq_false_iff.2 h)

theorem State.fansFollowRun_sound {s : State} (h : s.FansSound) : s.fansFollowRun.FansSound := by
  unfold State.fansFollowRun
  split
  · split
    · exact s.fansStart_sound
    · exact h
  · exact s.fansEnterStopped_sound

theorem State.fansOnLatchClear_sound {s : State} (h : s.FansSound) (hl : (s.input .fanRun).latch = false) :
    s.fansOnLatchClear.FansSound := by
  unfold State.fansOnLatchClear
  split
  · split
    · exact State.fansEnterStarting_sound hl
    · exact s.fansEnterStopped_sound
  all_goals exact h

/-- R136, R144: an input that has changed to running finds no fans STARTING that have not taken it. -/
theorem State.fansOnInput_sound {s : State} (h : s.FansSound) : s.fansOnInput.FansSound := by
  unfold State.fansOnInput
  split
  · rename_i hlive
    cases hs : s.fans.state with
    | starting => rw [h.2.1 hs] at hlive; cases hlive
    | runningFwd | runningRev => exact (State.Follows.of_fans (.of_same rfl rfl rfl rfl)).fansSound h
    | stopped | coasting | failed => exact h
  · exact h

/-- R140: fans that a FAN_RUN latch may find: not COASTING, in which FAN_RUN is not judged, and in agreement where the
latch leaves them. -/
def Fans.TakesLatch (f : Fans) : Prop := f.state ≠ .coasting ∧ (f.state = .stopped ∨ f.state = .failed → f.Agrees)

theorem State.fansOnLatchSet_sound {s : State} (h : s.fans.TakesLatch) : s.fansOnLatchSet.FansSound := by
  obtain ⟨hcoasting, hagrees⟩ := h
  unfold State.fansOnLatchSet
  cases hs : s.fans.state with
  | starting | runningFwd | runningRev => exact s.fansEnterFailed_sound
  | stopped => exact ⟨hagrees (.inl hs), fun h => by simp [hs] at h, fun _ => .inr hs⟩
  | failed => exact ⟨hagrees (.inr hs), fun h => by simp [hs] at h, fun _ => .inl hs⟩
  | coasting => exact absurd hs hcoasting

/-! ### INTERLOCK and SAFE (R98, R101) -/

theorem State.judgeReason_state (s : State) (r : HoldReason) (present : Bool) :
    (s.judgeReason r present).run.state.going = s.run.state.going ∧
      (s.judgeReason r present).run.state.inProgress = s.run.state.inProgress := by
  unfold State.judgeReason
  split
  · split
    · obtain ⟨-, heq⟩ | ⟨-, -, hstate⟩ := s.addReason_cases r
      · rw [heq]; exact ⟨rfl, rfl⟩
      · rw [hstate]; split
        · rename_i hs; rw [hs]; exact ⟨rfl, rfl⟩
        · exact ⟨rfl, rfl⟩
    · obtain ⟨-, heq⟩ | ⟨-, -, hstate⟩ := s.removeReason_cases r
      · rw [heq]; exact ⟨rfl, rfl⟩
      · rw [hstate]; split
        · rename_i hs; rw [hs.2]; exact ⟨rfl, rfl⟩
        · exact ⟨rfl, rfl⟩
  · exact ⟨rfl, rfl⟩

/-- R97: a reason that has been judged in a run in progress is there exactly if its condition is. -/
theorem State.judgeReason_has {s : State} (h : s.run.state.inProgress = true) (r : HoldReason) (present : Bool) :
    (s.judgeReason r present).run.reasons.has r = present := by
  cases present with
  | true =>
    have hjudge : s.judgeReason r true = s.addReason r := by simp [State.judgeReason, h]
    rw [hjudge]
    obtain ⟨hhas, heq⟩ | ⟨-, hreasons, -⟩ := s.addReason_cases r
    · rw [heq]; exact hhas
    · rw [hreasons, HoldSet.has_put_self]
  | false =>
    have hjudge : s.judgeReason r false = s.removeReason r := by simp [State.judgeReason, h]
    rw [hjudge]
    obtain ⟨hhas, heq⟩ | ⟨-, hreasons, -⟩ := s.removeReason_cases r
    · rw [heq]; exact hhas
    · rw [hreasons, HoldSet.has_put_self]

theorem State.judgeInterlock_agrees (s : State) : s.judgeInterlock.InterlockAgrees := by
  intro hp
  rw [State.judgeInterlock, (s.judgeReason_state _ _).2] at hp
  rw [State.anyLatchOfLevel_congr (s := s) (by simp) (by simp)]
  exact State.judgeReason_has hp .interlock _

theorem State.judgeInterlock_tripsHold {s : State} (h : s.TripsHold) : s.judgeInterlock.TripsHold := by
  intro hl
  rw [State.anyLatchOfLevel_congr (s := s) (by simp) (by simp)] at hl
  rw [State.judgeInterlock, (s.judgeReason_state _ _).1]
  exact h hl

/-- A part that is READY. -/
theorem State.Guarded.of_ready {s : State} (hr : s.ready = true) (htrips : s.TripsHold) (hinterlock : s.InterlockAgrees)
    (hfans : s.FansSound) : s.Guarded :=
  ⟨htrips, hinterlock, hfans, fun h => by simp [hr] at h⟩

/-- R98: INTERLOCK judged is the last thing a latch signal asks of the run. -/
theorem State.judgeInterlock_guarded {s : State} (hr : s.ready = true) (htrips : s.TripsHold) (hfans : s.FansSound) :
    s.judgeInterlock.Guarded :=
  .of_ready (by simpa using hr) (State.judgeInterlock_tripsHold htrips) s.judgeInterlock_agrees
    (hfans.congr (by simp) (by simp))

theorem State.runEntersSafe_going (s : State) (i : Input) : (s.runEntersSafe i).run.state.going = false := rfl

/-- R101: a run that is SAFE has tripped already. -/
theorem State.tripsHold_of_still {s : State} (h : s.run.state.going = false) : s.TripsHold := fun _ => h

theorem State.latchBringsSafe_iff (s : State) (i : Input) :
    s.latchBringsSafe i = true ↔ ((s.input i).latch = true ∧ s.inputLevel i = 3) ∧ s.run.state.going = true := by
  simp [State.latchBringsSafe]

/-- R101: with a level-3 latch set and the run going, the input that signals is the one that brings SAFE. -/
def State.TripsHoldBut (s : State) (i : Input) : Prop :=
  s.anyLatchOfLevel 3 = true → s.run.state.going = true → s.latchBringsSafe i = true

theorem State.TripsHoldBut.tripsHold {s : State} {i : Input} (h : s.TripsHoldBut i) (hs : ¬ s.latchBringsSafe i = true) :
    s.TripsHold :=
  fun hl => Bool.eq_false_iff.2 fun hg => hs (h hl hg)

/-- R101, R135: the fans are STOPPED when the run enters SAFE. -/
theorem State.enterSafe_eq (s : State) (i : Input) : s.enterSafe i = (s.runEntersSafe i).fansEnterStopped :=
  State.fansFollowRun_of_over (s.runEntersSafe_going i)

theorem State.runOnLatchSignal_guarded {s : State} {i : Input} (hr : s.ready = true) (h : s.TripsHoldBut i)
    (hfans : s.FansSound) : (s.runOnLatchSignal i).Guarded := by
  unfold State.runOnLatchSignal
  split
  · rw [State.enterSafe_eq]
    exact State.judgeInterlock_guarded hr (State.tripsHold_of_still rfl) (State.fansEnterStopped_sound _)
  · exact State.judgeInterlock_guarded hr (h.tripsHold ‹_›) hfans

/-- R140, R147: the run's part of a signal that the fans take after it. -/
theorem State.runOnLatchSignal_before {s : State} {i : Input} (h : s.TripsHoldBut i) (hfans : s.fans.TakesLatch) :
    (s.runOnLatchSignal i).TripsHold ∧ (s.runOnLatchSignal i).InterlockAgrees ∧
      (s.runOnLatchSignal i).fans.TakesLatch := by
  unfold State.runOnLatchSignal
  split
  · rw [State.enterSafe_eq]
    refine ⟨State.judgeInterlock_tripsHold (State.tripsHold_of_still rfl), State.judgeInterlock_agrees _, ?_⟩
    simp [State.fansEnterStopped, Fans.TakesLatch, Fans.Agrees]
  · exact ⟨State.judgeInterlock_tripsHold (h.tripsHold ‹_›), s.judgeInterlock_agrees, by simpa using hfans⟩

/-! ### A latch set, in every order of its readers (R140, R147) -/

theorem State.fansOnLatchSet_guarded {s : State} (hr : s.ready = true) (htrips : s.TripsHold)
    (hinterlock : s.InterlockAgrees) (hfans : s.fans.TakesLatch) : s.fansOnLatchSet.Guarded := by
  have hany := State.anyLatchOfLevel_congr (s := s) (t := s.fansOnLatchSet) (by simp) (by simp)
  refine .of_ready (by simpa using hr) (fun hl => ?_) (fun hp => ?_) (State.fansOnLatchSet_sound hfans)
  · simpa using htrips (hany 3 ▸ hl)
  · rw [hany]; simpa using hinterlock (by simpa using hp)

theorem State.safeThenFanLatch_guarded {s : State} (hr : s.ready = true) : s.safeThenFanLatch.Guarded := by
  unfold State.safeThenFanLatch
  rw [State.fansFollowRun_of_over (by simp [State.runEntersSafe_going])]
  refine State.judgeInterlock_guarded (by simp [State.runEntersSafe, hr]) (State.tripsHold_of_still ?_)
    (State.fansEnterStopped_sound _)
  simp [State.runEntersSafe_going]

theorem State.signalLatchSet_guarded {s : State} {i : Input} (hr : s.ready = true) (h : s.TripsHoldBut i)
    (hfans : if i = .fanRun then s.fans.TakesLatch else s.FansSound) : (s.signalLatchSet i).Guarded := by
  unfold State.signalLatchSet
  split
  · rename_i hi
    rw [if_pos hi] at hfans
    have hdrawn : s.drawn.TripsHoldBut i := h
    have hthen : ((s.drawn.runOnLatchSignal i).fansOnLatchSet).Guarded := by
      obtain ⟨htrips, hinterlock, htakes⟩ := State.runOnLatchSignal_before hdrawn hfans
      exact State.fansOnLatchSet_guarded (by simpa using hr) htrips hinterlock htakes
    split
    · refine State.runOnLatchSignal_guarded (by simpa using hr) (fun hl hg => ?_)
        (State.fansOnLatchSet_sound (s := s.drawn) hfans)
      rw [State.anyLatchOfLevel_congr (s := s) (by simp) (by simp)] at hl
      have hbrings := (s.latchBringsSafe_iff i).1 (h hl (by simpa using hg))
      rw [State.latchBringsSafe_iff]
      simpa [State.input, State.inputLevel] using hbrings
    · split
      · exact State.safeThenFanLatch_guarded hr
      · exact hthen
    · exact hthen
  · rename_i hi
    rw [if_neg hi] at hfans
    exact State.runOnLatchSignal_guarded hr h hfans

end Sys2Proof.Machine
end

section
/-! SUPPORT. Trips, changes of a contact or of an input's settings, latches cleared (R137, R144 to R151), and the run's
requests (R85, R102) keep the interlocks' condition (EveryStepKeepsInterlocksAndFans). -/

namespace Sys2Proof.Machine

/-! ### Latches and inputs -/

theorem State.setInput_input_ne (s : State) {i j : Input} (h : j ≠ i) (r : InputRecord) :
    (s.setInput i r).input j = s.input j := inputs_get_set_ne _ _ _ _ h

/-- R144: a change of a live level leaves every latch. -/
theorem State.setLive_latch (s : State) (i j : Input) (closed : Bool) :
    ((s.setInput i { s.input i with live := closed }).input j).latch = (s.input j).latch := by
  by_cases hj : j = i
  · rw [hj, State.setInput_input]
  · rw [s.setInput_input_ne hj]

/-- The condition, with the run, the latches and their levels as they were. -/
theorem State.Guarded.of_latches {s t : State} (h : s.Guarded) (hready : t.ready = s.ready)
    (hl : ∀ i, (t.input i).latch = (s.input i).latch)
    (hi : ∀ i, (s.input i).latch = true → t.inputLevel i = s.inputLevel i) (hr : t.run = s.run) (hf : t.FansSound)
    (hx : t.scanner = s.scanner) (hstopped : s.ready = false → t.fans.state = .stopped) : t.Guarded := by
  have hany := State.anyLatchOfLevel_of_latches hl hi
  refine ⟨fun h3 => ?_, fun hp => ?_, hf, fun hcold => ?_⟩
  · rw [hr]; exact h.trips (hany 3 ▸ h3)
  · rw [hr] at hp ⊢; rw [hany]; exact h.interlock hp
  · rw [hready] at hcold
    obtain ⟨hlatch, hrun, -, hrest⟩ := h.cold hcold
    exact ⟨fun i => by rw [hl, hlatch], hr ▸ hrun, hstopped hcold, hx ▸ hrest⟩

/-- The condition after a move of the fans. -/
theorem State.Guarded.of_fans {s t : State} (h : s.Guarded) (hready : t.ready = s.ready)
    (hi : t.interlocks = s.interlocks) (hl : t.settings.interlocks = s.settings.interlocks) (hr : t.run = s.run)
    (hf : t.FansSound) (hx : t.scanner = s.scanner) (hstopped : s.ready = false → t.fans.state = .stopped) : t.Guarded :=
  h.of_latches hready (fun i => by simp only [State.input, hi])
    (fun i _ => by simp only [State.inputLevel, hl]) hr hf hx hstopped

/-- Before READY the fans are STOPPED. -/
theorem State.Guarded.ready_of_fans {s : State} (h : s.Guarded) (hf : s.fans.state ≠ .stopped) : s.ready = true := by
  cases hr : s.ready with
  | true => rfl
  | false => exact absurd (h.cold hr).2.2.1 hf

theorem State.fansFollowRun_guarded {s : State} (h : s.Guarded) : s.fansFollowRun.Guarded := by
  refine h.of_fans (by simp) (by simp) (by simp) (by simp) (State.fansFollowRun_sound h.fans) (by simp) fun hr => ?_
  rw [State.fansFollowRun_of_over (RunState.not_going (h.cold hr).2.1)]
  rfl

/-! ### Trips (R145, R146) -/

/-- R143: FAN_RUN is judged of fans that run or have FAILED. -/
theorem Fans.Agrees.takesLatch {f : Fans} (h : f.Agrees) (hc : f.compareActive = true) : f.TakesLatch := by
  refine ⟨fun hs => ?_, fun _ => h⟩
  simp [Fans.Agrees, hs, hc] at h

theorem State.Guarded.ready_of_judged {s : State} (h : s.Guarded) {i : Input} (hj : s.judged i = true) :
    s.ready = true := by
  cases i with
  | fanRun =>
    refine h.ready_of_fans fun hs => ?_
    simp [State.judged, State.comparisonActive, (h.fans.1.of_stopped hs).2] at hj
  | door | heatSupply | spraySupply | estop | overtemp | aux1 | aux2 =>
    simp only [State.judged, State.comparisonActive, Bool.and_eq_true] at hj
    exact hj.1.1

/-- R98, R101, R147: an input's latch has been set, and its signal taken. -/
theorem State.latched_guarded {s : State} {i : Input} (hr : s.ready = true) (h : s.TripsHold)
    (hfans : if i = .fanRun then s.fans.TakesLatch else s.FansSound) (r : InputRecord) :
    ((s.setInput i r).signalLatchSet i).Guarded := by
  refine State.signalLatchSet_guarded (by simpa using hr) (fun h3 hg => ?_) ?_
  · obtain ⟨j, hj, hlevel⟩ := (State.anyLatchOfLevel_iff _ _).1 h3
    rw [State.latchBringsSafe_iff]
    by_cases hji : j = i
    · subst hji; exact ⟨⟨hj, hlevel⟩, hg⟩
    · rw [s.setInput_input_ne hji] at hj
      exact absurd hg (Bool.eq_false_iff.1 (h ((State.anyLatchOfLevel_iff _ _).2 ⟨j, hj, hlevel⟩)))
  · split
    · rename_i hi; rw [if_pos hi] at hfans; exact hfans
    · rename_i hi
      rw [if_neg hi] at hfans
      simpa [State.FansSound, s.setInput_input_ne (Ne.symm hi)] using hfans

theorem State.trip_guarded {s : State} (h : s.Guarded) {i : Input} (hr : s.ready = true)
    (hi : i = .fanRun → s.fans.TakesLatch) : (s.trip i).Guarded := by
  simp only [State.trip]
  split
  · exact h.congr rfl rfl rfl rfl rfl rfl
  · refine State.latched_guarded (s := s.queueNotice _ _ _) hr h.trips ?_ _
    split
    · exact hi ‹_›
    · exact h.fans

theorem State.judgeTrip_guarded {s : State} (h : s.Guarded) (i : Input) (conformed wasJudged : Bool) :
    (s.judgeTrip i conformed wasJudged).Guarded := by
  unfold State.judgeTrip
  split
  · rename_i hc
    simp only [Bool.and_eq_true] at hc
    refine State.trip_guarded h (h.ready_of_judged hc.1.1) fun hi => h.fans.1.takesLatch ?_
    have hj := hc.1.1
    subst hi
    simp only [State.judged, State.comparisonActive, Bool.and_eq_true] at hj
    exact hj.1
  · exact h

/-! ### A contact changes (R144) -/

theorem State.fansOnInput_guarded {s : State} (h : s.Guarded) : s.fansOnInput.Guarded := by
  refine h.of_fans (by simp) (by simp) (by simp) (by simp) (State.fansOnInput_sound h.fans) (by simp) fun hr => ?_
  have hstopped := (h.cold hr).2.2.1
  simp only [State.fansOnInput, hstopped]
  split <;> exact hstopped

/-- R136: an input that reads running confirms the start of fans that are STARTING; FAN_RUN is not judged there. -/
theorem State.changeLive_confirms {s : State} (h : s.Guarded) (hs : s.fans.state = .starting) {closed : Bool}
    (hc : (s.input .fanRun).live ≠ closed) : (s.changeLive .fanRun closed).Guarded := by
  have hlive : closed = true := by simpa [h.fans.2.1 hs] using hc
  have hagrees : s.fans.compareActive = false := by simpa [Fans.Agrees, hs] using h.fans.1
  have hlatch : (s.input .fanRun).latch = false := by
    refine Bool.eq_false_iff.2 fun hl => ?_
    simpa [hs] using h.fans.2.2 hl
  obtain ⟨u, hu⟩ : ∃ u, u = s.setInput .fanRun { s.input .fanRun with live := closed } := ⟨_, rfl⟩
  have hinput : u.input .fanRun = { s.input .fanRun with live := closed } := by rw [hu, State.setInput_input]
  have hconfirms : s.changeLive .fanRun closed = u.confirmStart := by
    have hjudge (a b : Bool) : u.judgeTrip .fanRun a b = u := by
      simp [State.judgeTrip, State.judged, State.comparisonActive, hu, hagrees]
    have hstarting : u.fans.state = .starting := by rw [hu]; exact hs
    simp only [State.changeLive, if_neg hc, ← hu, hjudge, if_true]
    simp [State.fansOnInput, hinput, hlive, hstarting]
  rw [hconfirms]
  refine h.of_latches (by simp [hu]) (fun i => ?_) (fun i _ => by simp [State.inputLevel, hu]) (by simp [hu])
    (State.confirmStart_sound (by rw [hinput]; exact hlatch)) (by simp [hu]) fun hr => ?_
  · have hkept : (u.confirmStart.input i).latch = (u.input i).latch := by simp [State.input]
    rw [hkept, hu, s.setLive_latch .fanRun i closed]
  · rw [h.ready_of_fans (by simp [hs])] at hr; cases hr

theorem State.changeLive_guarded {s : State} (h : s.Guarded) (i : Input) (closed : Bool) :
    (s.changeLive i closed).Guarded := by
  by_cases hc : (s.input i).live = closed
  · rw [State.changeLive, if_pos hc]; exact h
  by_cases hs : i = .fanRun ∧ s.fans.state = .starting
  · obtain ⟨rfl, hs⟩ := hs
    exact State.changeLive_confirms h hs hc
  · have hset : (s.setInput i { s.input i with live := closed }).Guarded := by
      refine h.of_latches (by simp) (fun j => s.setLive_latch i j closed) (fun _ _ => rfl) (by simp)
        ⟨h.fans.1, fun hstarting => ?_, fun hl => ?_⟩ (by simp) fun hr => (h.cold hr).2.2.1
      · have hne : Input.fanRun ≠ i := fun hi => hs ⟨hi.symm, hstarting⟩
        rw [s.setInput_input_ne hne]
        exact h.fans.2.1 hstarting
      · rw [s.setLive_latch i .fanRun closed] at hl
        exact h.fans.2.2 hl
    simp only [State.changeLive, if_neg hc]
    split
    · exact State.fansOnInput_guarded (State.judgeTrip_guarded hset _ _ _)
    · exact State.judgeTrip_guarded hset _ _ _

/-! ### An input's settings, and a latch cleared (R150, R151) -/

/-- R146: the trip of an input whose latch is set queues its notice alone. -/
theorem State.judgeTrip_of_latched {s : State} {i : Input} (h : (s.input i).latch = true) (a b : Bool) :
    s.Follows (s.judgeTrip i a b) := by
  unfold State.judgeTrip
  split
  · rw [State.trip, if_pos h]; exact s.queueNotice_follows _ _ _
  · exact .refl s

theorem State.TripsHoldBut.of_follows {s t : State} {i : Input} (h : s.TripsHoldBut i) (hf : s.Follows t)
    (hr : t.run = s.run) : t.TripsHoldBut i := by
  intro h3 hg
  rw [State.anyLatchOfLevel_congr hf.interlocks hf.levels] at h3
  rw [hr] at hg
  have hbrings := (s.latchBringsSafe_iff i).1 (h h3 hg)
  rw [State.latchBringsSafe_iff]
  simpa only [State.input, State.inputLevel, hf.interlocks, hf.levels, hr] using hbrings

/-- R147, R150: the level of an input whose latch is set has changed, and is signalled. -/
theorem State.configureInput_latched {s : State} (h : s.Guarded) (hr : s.ready = true) {i : Input} {x : InputSettings}
    (hl : (s.input i).latch = true) (hx : x.level ≠ s.inputLevel i) : (s.configureInput i x).Guarded := by
  obtain ⟨u, hu⟩ : ∃ u, u = { s with settings := { s.settings with interlocks := s.settings.interlocks.set i x } } :=
    ⟨_, rfl⟩
  have hlatched : (u.input i).latch = true := by rw [hu]; exact hl
  have hjudged := State.judgeTrip_of_latched hlatched (s.conforms i) (s.judged i)
  have hconfigured : s.configureInput i x = (u.judgeTrip i (s.conforms i) (s.judged i)).runOnLatchSignal i := by
    simp only [State.configureInput, hl, ← hu]; simp [hx]
  have hbut : u.TripsHoldBut i := by
    intro h3 hg
    obtain ⟨j, hj, hlevel⟩ := (State.anyLatchOfLevel_iff _ _).1 h3
    rw [State.latchBringsSafe_iff]
    by_cases hji : j = i
    · subst hji; exact ⟨⟨hj, hlevel⟩, hg⟩
    · rw [hu] at hj hlevel hg
      rw [State.inputLevel, inputs_get_set_ne _ _ _ _ hji] at hlevel
      exact absurd hg (Bool.eq_false_iff.1 (h.trips ((State.anyLatchOfLevel_iff _ _).2 ⟨j, hj, hlevel⟩)))
  have hrun : (u.judgeTrip i (s.conforms i) (s.judged i)).run = u.run := by
    unfold State.judgeTrip
    split
    · rw [State.trip, if_pos hlatched]; rfl
    · rfl
  have hsound : u.FansSound := by rw [hu]; exact h.fans
  rw [hconfigured]
  exact State.runOnLatchSignal_guarded (hjudged.ready.trans (by rw [hu]; exact hr)) (hbut.of_follows hjudged hrun)
    (hjudged.fansSound hsound)

theorem State.configureInput_guarded {s : State} (h : s.Guarded) (hr : s.ready = true) (i : Input) (x : InputSettings) :
    (s.configureInput i x).Guarded := by
  by_cases hc : (s.input i).latch = true ∧ x.level ≠ s.inputLevel i
  · exact State.configureInput_latched h hr hc.1 hc.2
  · have hset :
        ({ s with settings := { s.settings with interlocks := s.settings.interlocks.set i x } } : State).Guarded := by
      refine h.of_latches rfl (fun _ => rfl) (fun j hj => ?_) rfl h.fans rfl fun hcold => (h.cold hcold).2.2.1
      by_cases hji : j = i
      · subst hji
        rw [State.inputLevel, inputs_get_set_self]
        exact not_not.1 fun hne => hc ⟨hj, hne⟩
      · rw [State.inputLevel, inputs_get_set_ne _ _ _ _ hji]; rfl
    simp only [State.configureInput]
    rw [if_neg (by simpa using hc)]
    exact State.judgeTrip_guarded hset _ _ _

theorem State.clearLatch_guarded {s : State} (h : s.Guarded) (hr : s.ready = true) (i : Input) :
    (s.clearLatch i).Guarded := by
  obtain ⟨u, hu⟩ : ∃ u, u = s.setInput i { s.input i with latch := false, trippedAt := none } := ⟨_, rfl⟩
  have hstill (j : Input) (hj : (u.input j).latch = true) : (s.input j).latch = true := by
    rw [hu] at hj
    by_cases hji : j = i
    · rw [hji, State.setInput_input] at hj; cases hj
    · rwa [s.setInput_input_ne hji] at hj
  have hlive : (u.input .fanRun).live = (s.input .fanRun).live := by
    rw [hu]
    by_cases hi : Input.fanRun = i
    · rw [← hi, State.setInput_input]
    · rw [s.setInput_input_ne hi]
  have hsignalled : (u.runOnLatchSignal i).Guarded := by
    refine State.runOnLatchSignal_guarded (by rw [hu]; exact hr) (fun h3 hg => ?_)
      ⟨by rw [hu]; exact h.fans.1, fun hs => hlive ▸ h.fans.2.1 (by rw [hu] at hs; exact hs),
        fun hl => by simpa [hu] using h.fans.2.2 (hstill .fanRun hl)⟩
    obtain ⟨j, hj, hlevel⟩ := (State.anyLatchOfLevel_iff _ _).1 h3
    rw [hu] at hg hlevel
    exact absurd hg (Bool.eq_false_iff.1 (h.trips ((State.anyLatchOfLevel_iff _ _).2 ⟨j, hstill j hj, hlevel⟩)))
  simp only [State.clearLatch, State.signalLatchClear, ← hu]
  split
  · rename_i hi
    have hcleared : ((u.runOnLatchSignal i).input .fanRun).latch = false := by
      have hkept : (u.runOnLatchSignal i).input .fanRun = u.input .fanRun := by simp [State.input]
      rw [hkept, hu, hi, State.setInput_input]
    refine hsignalled.of_fans (by simp) (by simp) (by simp) (by simp)
      (State.fansOnLatchClear_sound hsignalled.fans hcleared) (by simp) fun hcold => ?_
    have hready : (u.runOnLatchSignal i).ready = true := by simpa [hu] using hr
    rw [hready] at hcold; cases hcold
  · exact hsignalled

/-! ### The start-confirm window and the coast (R137, R139) -/

theorem State.expireConfirm_guarded {s : State} (h : s.Guarded) (hs : s.fans.state = .starting) :
    s.expireConfirm.Guarded := by
  have hr := h.ready_of_fans (by simp [hs])
  have hlive := h.fans.2.1 hs
  have hlatch : (s.input .fanRun).latch = false :=
    Bool.eq_false_iff.2 fun hl => by simpa [hs] using h.fans.2.2 hl
  have hagrees : s.fans.compareActive = false := by simpa [Fans.Agrees, hs] using h.fans.1
  obtain ⟨u, hu⟩ : ∃ u, u = { s with fans := { s.fans with expectRunning := true, compareActive := true } } := ⟨_, rfl⟩
  by_cases hlevel : s.inputLevel .fanRun = 0
  · have hruns : s.expireConfirm = u.fansEnterRunning := by simp only [State.expireConfirm, if_pos hlevel, ← hu]
    rw [hruns]
    refine h.of_fans (by simp [hu]) (by simp [hu]) (by simp [hu]) (by simp [hu])
      (State.fansEnterRunning_sound (by rw [hu]; exact hlatch)) (by simp [hu]) fun hcold => ?_
    rw [hr] at hcold; cases hcold
  · have hinput : u.input .fanRun = s.input .fanRun := by rw [hu]; rfl
    have htrips : s.expireConfirm =
        ((u.queueNotice .interlockTripped Input.fanRun.number (u.inputLevel .fanRun)).setInput .fanRun
          { u.input .fanRun with latch := true, trippedAt := some u.clock.minute }).signalLatchSet .fanRun := by
      have hpos : 1 ≤ u.inputLevel .fanRun := by rw [hu]; exact Nat.one_le_iff_ne_zero.2 hlevel
      have hjudged : u.judged .fanRun = true := by
        simp only [State.judged, Bool.and_eq_true, decide_eq_true_eq]
        exact ⟨by rw [hu]; rfl, hpos⟩
      have hconforms : u.conforms .fanRun = false := by
        simp only [State.conforms, hinput, hlive]; rw [hu]; rfl
      have hunjudged : s.fanRunJudged = false := by simp [State.fanRunJudged, hagrees]
      simp only [State.expireConfirm, if_neg hlevel, ← hu, State.judgeTrip, hjudged, hconforms, hunjudged]
      simp [State.trip, hinput, hlatch]
    rw [htrips]
    refine State.latched_guarded (s := u.queueNotice _ _ _) (by rw [hu]; exact hr) (by rw [hu]; exact h.trips) ?_ _
    simp [hu, Fans.TakesLatch, hs]

theorem State.takeConfirmExpiry_guarded {s : State} (h : s.Guarded) : s.takeConfirmExpiry.Guarded := by
  unfold State.takeConfirmExpiry
  split
  · rename_i hover
    simp only [State.confirmIsOver, Bool.and_eq_true, decide_eq_true_eq] at hover
    exact State.expireConfirm_guarded h hover.1
  · exact h

theorem State.takeCoastEnd_guarded {s : State} (h : s.Guarded) : s.takeCoastEnd.Guarded := by
  unfold State.takeCoastEnd
  split
  · rename_i hover
    simp only [State.coastIsOver, Bool.and_eq_true, decide_eq_true_eq] at hover
    have hlatch : (s.input .fanRun).latch = false :=
      Bool.eq_false_iff.2 fun hl => by simpa [hover.1] using h.fans.2.2 hl
    refine h.of_fans (by simp) (by simp) (by simp) (by simp) (State.fansEnterStarting_sound hlatch) (by simp) fun hr => ?_
    rw [h.ready_of_fans (by simp [hover.1])] at hr; cases hr
  · exact h

/-! ### The requests of the run (R85, R102) -/

theorem State.addReason_if_follows (s : State) (b : Bool) {r : HoldReason} (h : r ≠ .interlock) :
    s.Follows (if b then s.addReason r else s) := by
  split
  · exact s.addReason_follows h
  · exact .refl s

/-- R84: a run that starts finds no latch of level 2 or 3. -/
theorem State.startRun_guarded {s : State} (h : s.Guarded) (hr : s.ready = true) (ht : s.startTripped = false) (i : Nat) :
    (s.startRun i).Guarded := by
  simp only [State.startTripped, Bool.or_eq_false_iff] at ht
  obtain ⟨u, hu⟩ : ∃ u, u = ({ s with run := s.run.starting } : State).queueNotice .runStarted i
      s.schedule.activeSteps.length := ⟨_, rfl⟩
  have hstarted : u.Guarded := by
    have hstarting : ({ s with run := s.run.starting } : State).Guarded :=
      .of_ready hr (fun h3 => absurd h3 (Bool.eq_false_iff.1 ht.2)) (fun _ => ht.1.symm) h.fans
    rw [hu]
    exact hstarting.congr rfl rfl rfl rfl rfl rfl
  have hready : u.ready = true := by rw [hu]; exact hr
  have hentered := u.enterStepFrom_follows i fun x z => u.startOrigin z x
  subst hu
  exact State.fansFollowRun_guarded
    (hstarted.of_follows
      ((hentered.trans (State.addReason_if_follows _ _ (by decide))).trans (State.addReason_if_follows _ _ (by decide)))
      fun hcold => absurd hready (Bool.eq_false_iff.1 hcold))

/-- R102: a SAFE run that is brought back finds no latch of level 3. -/
theorem State.restartRun_guarded {s : State} (h : s.Guarded) (hr : s.ready = true) (hs : s.run.state = .safe)
    (ht : s.anyLatchOfLevel 3 = false) : s.restartRun.Guarded := by
  have hheld : ({ s with run := { s.run with state := .held, reasons := s.run.reasons.put .host true } } : State).Guarded :=
    .of_ready hr (fun h3 => absurd h3 (Bool.eq_false_iff.1 ht)) (fun _ => h.interlock (by rw [hs]; rfl)) h.fans
  exact State.fansFollowRun_guarded (hheld.congr rfl rfl rfl rfl rfl rfl)

end Sys2Proof.Machine
end

section
/-! SUPPORT. The supply, the load and READY (R133 to R135, R148, R171 to R174) keep the interlocks' condition, and the
settings of FAN_CONFIG their ranges (R141). -/

namespace Sys2Proof.Machine

/-! ### The supply and the restart (R171, R177) -/

/-- R134, R143, R171: every block at its power-on values. -/
theorem State.guarded_of_powerOn {s : State} {contacts : Inputs Bool} (hrun : s.run = .cleared)
    (hfans : s.fans = .powerOn) (hscanner : s.scanner = .powerOn) (hi : s.interlocks = interlocksPowerOn contacts) :
    s.Guarded := by
  have hlatch (i : Input) : (s.input i).latch = false := by simp [State.input, hi, interlocksPowerOn]
  have hover : s.run.state.inProgress = false := by rw [hrun]; rfl
  refine ⟨fun _ => RunState.not_going hover, fun hp => absurd hp (Bool.eq_false_iff.1 hover), ?_, fun _ =>
    ⟨hlatch, hover, by rw [hfans]; rfl, by rw [hscanner]; exact ⟨rfl, rfl⟩⟩⟩
  simp [State.FansSound, hfans, hlatch, Fans.powerOn, Fans.Agrees]

/-! ### READY (R133, R135, R148) -/

/-- Log 4: an arrangement holds no other actions than those arranged. -/
theorem mem_of_mem_arrange {α : Type} {pick : Nat → Nat} {n : Nat} {xs : List α} {a : α} (h : a ∈ arrange pick n xs) :
    a ∈ xs := by
  fun_induction arrange pick n xs with
  | case1 | case2 | case3 => exact h
  | case4 n x y rest xs k b hb ih =>
    obtain rfl | hmem := List.mem_cons.1 h
    · exact List.mem_of_getElem? hb
    · exact List.mem_of_mem_eraseIdx (ih hmem)
  | case5 => exact h

/-- R143, R148: with the comparison of FAN_RUN not ACTIVE it does not trip at READY. -/
theorem State.readyActions_fanRun {s : State} (h : s.fans.compareActive = false) : .trip .fanRun ∉ s.readyActions := by
  intro hmem
  simp only [State.readyActions, List.mem_append, List.mem_map, List.mem_filter] at hmem
  obtain (hscan | ⟨i, ⟨-, hi⟩, htrip⟩) | hfan := hmem
  · split at hscan <;> simp at hscan
  · cases htrip
    simp [State.judged, State.comparisonActive, h] at hi
  · split at hfan <;> simp at hfan

theorem State.takeReadyAction_guarded {s : State} (h : s.Guarded) (hr : s.ready = true) {a : ReadyAction}
    (ha : a ≠ .trip .fanRun) : (s.takeReadyAction a).Guarded := by
  cases a with
  | scanStart => exact h.of_follows s.startScan_follows fun hcold => absurd hr (by simp [hcold])
  | trip i => exact State.trip_guarded h hr fun hi => absurd (congrArg ReadyAction.trip hi) ha
  | fanStart => exact State.fansFollowRun_guarded h

theorem State.takeReadyAction_ready (s : State) (a : ReadyAction) : (s.takeReadyAction a).ready = s.ready := by
  cases a <;> simp [State.takeReadyAction]

/-- R171: READY, reached with the fans STOPPED and the condition met once the part is READY. -/
theorem State.reachReady_guarded {s : State} (hfans : s.fans.compareActive = false)
    (h : ∀ t : State, t.ready = true → t.interlocks = s.interlocks → t.settings = s.settings → t.run = s.run →
      t.fans = s.fans → t.Guarded) : s.reachReady.Guarded := by
  obtain ⟨u, hu⟩ : ∃ u, u =
      ({ s with ready := true, sampler := { s.sampler with timer := 0, mark := .none } } : State).refreshOutputs :=
    ⟨_, rfl⟩
  have hstart : ({ u with draws := u.draws + u.readyActions.length } : State).Guarded ∧ u.ready = true := by
    rw [hu]; exact ⟨h _ rfl rfl rfl rfl rfl, rfl⟩
  have hcompare : u.fans.compareActive = false := by rw [hu]; exact hfans
  rw [State.reachReady, ← hu]
  refine (List.foldlRecOn (motive := fun t : State => t.Guarded ∧ t.ready = true) _ _ hstart fun t ht a ha => ?_).1
  refine ⟨State.takeReadyAction_guarded ht.1 ht.2 fun htrip => ?_, (t.takeReadyAction_ready a).trans ht.2⟩
  exact State.readyActions_fanRun hcompare (htrip ▸ mem_of_mem_arrange ha)

/-- R174: a run that the load leaves in progress holds RESTORED alone. -/
theorem State.applyRun_run {s : State} (x : RunLoad) (h : s.run.state.inProgress = false) :
    (s.applyRun x).run.state.inProgress = true → (s.applyRun x).run.reasons.interlock = false := by
  cases x with
  | idle => exact fun hp => absurd hp (Bool.eq_false_iff.1 h)
  | lost => exact fun hp => absurd hp (Bool.eq_false_iff.1 h)
  | restored b =>
    intro _
    simp only [State.applyRun, State.restoreRun]
    split <;> simp [CheckpointBody.run] <;> rfl

theorem State.applyRun_fans (s : State) (x : RunLoad) : s.fans.Follows (s.applyRun x).fans := by
  cases x with
  | idle => exact .refl _
  | lost => exact .refl _
  | restored b =>
    simp only [State.applyRun, State.restoreRun]
    split
    · exact .refl _
    · refine State.Follows.fans (s := { s with
        run := b.run, schedule := { bufferA := b.schedule, bufferB := [], active := .a, adoption := none } }) ?_
      exact ((State.zonesTakeStep_follows _ _ _).trans (State.handFans_follows _ _)).trans
        (State.queueNotice_follows _ _ _ _)

/-- R171 to R174: the load ends; no latch is set before READY, so no level of the settings loaded can matter. -/
theorem State.endLoad_guarded {s : State} (h : s.Guarded) (hr : s.ready = false) (settingsReads checkpointReads : Bool) :
    (s.endLoad settingsReads checkpointReads).Guarded := by
  obtain ⟨hlatch, hover, hstopped, -⟩ := h.cold hr
  obtain ⟨x, hx⟩ : ∃ x, x = settingsLoad s.straps.skipSettings settingsReads s.memory.settingsRegion := ⟨_, rfl⟩
  obtain ⟨y, hy⟩ : ∃ y, y = runLoad x checkpointReads s.memory.checkpointRegion := ⟨_, rfl⟩
  have hfans : s.fans.Follows ((s.applySettings x).applyRun y).fans := by
    simpa using State.applyRun_fans (s.applySettings x) y
  have hstill := hfans.stopped hstopped
  have hagrees := hfans.agrees h.fans.1
  have hrun := State.applyRun_run (s := s.applySettings x) y (by simpa using hover)
  simp only [State.endLoad, ← hx, ← hy]
  refine State.reachReady_guarded (hagrees.of_stopped hstill).2 fun t htr hti _ htrun htfans => ?_
  have hclear (i : Input) : (t.input i).latch = false := by
    rw [State.input, hti]; simpa [State.input] using hlatch i
  refine .of_ready htr (fun h3 => ?_) (fun hp => ?_) ⟨htfans ▸ hagrees, fun hs => ?_, fun hl => ?_⟩
  · rw [State.anyLatchOfLevel_of_clear hclear] at h3; cases h3
  · rw [State.anyLatchOfLevel_of_clear hclear, htrun]
    exact hrun (htrun ▸ hp)
  · rw [htfans] at hs; exact absurd hs (by simp [hstill])
  · rw [hclear] at hl; cases hl

/-! ### A scanner at rest (R9, R12) -/

section
variable (s : State) (h : s.scanner.Resting)
include h

theorem State.takeScanExpiry_of_resting : s.takeScanExpiry = s := by
  simp [State.takeScanExpiry, State.scanExpiryDue, h.1]

theorem State.settleEnds_of_resting : s.settleEnds = s := by simp [State.settleEnds, h.2]

theorem State.countEnds_of_resting (n : Nat) : s.countEnds n = s := by simp [State.countEnds, h.2]

theorem State.countSecond_resting : s.countSecond.scanner.Resting := by
  simp only [State.countSecond]
  split
  · exact h
  · simpa [State.countMinute, Scanner.countMinute, h.1] using h

end

/-! ### The settings of FAN_CONFIG (R141) -/

/-- The settings of FAN_CONFIG. -/
def Settings.fanConfig (x : Settings) : Nat × Nat × Nat × Nat × Nat :=
  (x.startConfirmWindow, x.coastTime, x.heatPeriod, x.sprayPeriod, x.ventSafePosition)

theorem Settings.FansWithin.congr {x y : Settings} (h : x.FansWithin) (heq : y.fanConfig = x.fanConfig) :
    y.FansWithin := by
  simp only [Settings.fanConfig, Prod.mk.injEq] at heq
  obtain ⟨hwindow, hcoast, hheat, hspray, hposition⟩ := heq
  simpa only [Settings.FansWithin, hwindow, hcoast, hheat, hspray, hposition] using h

theorem Settings.default_fansWithin : Settings.default.FansWithin := by
  simp [Settings.FansWithin, Settings.default]

/-- An operation that leaves the settings of FAN_CONFIG, and whose memory keeps its images. -/
theorem State.FanSettingsSound.of_memory {s t : State} (h : s.FanSettingsSound)
    (hs : t.settings.fanConfig = s.settings.fanConfig) (hm : t.memory.ImagesMeet Settings.FansWithin) :
    t.FanSettingsSound := ⟨h.1.congr hs, hm⟩

/-- An operation that leaves the settings of FAN_CONFIG and the memory. -/
theorem State.FanSettingsSound.congr {s t : State} (h : s.FanSettingsSound)
    (hs : t.settings.fanConfig = s.settings.fanConfig) (hm : t.memory = s.memory) : t.FanSettingsSound :=
  h.of_memory hs (hm ▸ h.2)

/-- R171: the settings at their power-on values, with a memory that keeps its images. -/
theorem State.FanSettingsSound.of_powerOn {s : State} (hs : s.settings = .default)
    (hm : s.memory.ImagesMeet Settings.FansWithin) : s.FanSettingsSound := ⟨hs ▸ Settings.default_fansWithin, hm⟩

theorem State.writeZone_fanConfig (s : State) (z : ZoneId) (g : ZoneSettings) (band : Nat) :
    (s.writeZone z g band).settings.fanConfig = s.settings.fanConfig := by
  simp only [State.writeZone, State.refreshOutputs]
  split <;> split <;> simp [Settings.fanConfig, State.setZoneSettings]

theorem State.writeZone_interlocks (s : State) (z : ZoneId) (g : ZoneSettings) (band : Nat) :
    (s.writeZone z g band).settings.interlocks = s.settings.interlocks := by
  simp only [State.writeZone, State.refreshOutputs]
  split <;> split <;> simp [State.setZoneSettings]

/-- R137, R139, R141: the windows that a write has already passed end with it. -/
theorem State.writeFanConfig_guarded {s : State} (h : s.Guarded) (window coast heat spray position : Nat) :
    (s.writeFanConfig window coast heat spray position).Guarded := by
  refine State.takeCoastEnd_guarded (State.takeConfirmExpiry_guarded ?_)
  exact h.congr rfl rfl rfl rfl rfl rfl

theorem State.writeScanConfig_fanConfig (s : State) (interval : Nat) (enable : Bool) (tolerance : Nat) :
    (s.writeScanConfig interval enable tolerance).settings.fanConfig = s.settings.fanConfig := by
  simp only [State.writeScanConfig]
  split <;> split <;> simp [Settings.fanConfig]

theorem State.configureInput_fanConfig (s : State) (i : Input) (x : InputSettings) :
    (s.configureInput i x).settings.fanConfig = s.settings.fanConfig := by
  simp only [State.configureInput]
  split <;> simp [Settings.fanConfig]

/-- R173: the settings of an image that is loaded. -/
theorem State.endLoad_fanSettingsSound {s : State} (h : s.FanSettingsSound) (settingsReads checkpointReads : Bool) :
    (s.endLoad settingsReads checkpointReads).FanSettingsSound := by
  obtain ⟨x, hx⟩ : ∃ x, x = settingsLoad s.straps.skipSettings settingsReads s.memory.settingsRegion := ⟨_, rfl⟩
  have hloaded : (s.applySettings x).settings.FansWithin := by
    cases x with
    | defaulted cause => exact h.1
    | applied i => exact h.2.1 i (settingsLoad_applied hx.symm)
  refine State.reachReady_keeps (P := State.FanSettingsSound) _ (fun n => ⟨?_, ?_⟩) fun t a ht => ?_
  · simpa [← hx] using hloaded
  · simpa using h.2.startNext
  · cases a <;> exact ht.congr (by simp [State.takeReadyAction]) (by simp [State.takeReadyAction])

end Sys2Proof.Machine
end

section
/-! EveryStepKeepsInterlocksAndFans: each operation of the commands keeps the interlocks' condition, and each the ranges of
the fan settings. -/

namespace Sys2Proof.Machine

/-- R98, R101, R134 to R140: every operation of the commands keeps the interlocks' condition. -/
theorem guarded_kept : CommandsKeep State.Guarded := by
  have hready {s t : State} (h : s.Guarded) (hr : s.ready = true) (hf : s.Follows t) : t.Guarded :=
    h.of_follows hf fun hcold => absurd hr (by simp [hcold])
  have hresting {s t : State} (h : s.Guarded) (hf : s.Follows t) (hx : t.scanner = s.scanner) : t.Guarded :=
    h.of_follows hf fun _ hrest => hx ▸ hrest
  constructor
  case toRequestsKeep =>
    constructor
    case replaceRecord =>
      exact fun s h hr p r _ => hready (s := s.setProbe p r) (h.congr rfl rfl rfl rfl rfl rfl) hr
        (State.discardFor_follows _ p)
    case resetProbes =>
      exact fun s h hr => hready (s := { s with probes := mapTable ProbeRecord.tableReset s.probes })
        (h.congr rfl rfl rfl rfl rfl rfl) hr (State.discardAny_follows _)
    case scanConfig => exact fun s h hr a b c => hready h hr (s.writeScanConfig_follows a b c)
    case scanNow => exact fun s h hr _ => hready h hr s.startScan_follows
    case resetScanner => exact fun s h hr => hready h hr (.of_same rfl rfl rfl rfl rfl)
    case adopt => exact fun s h hr b n r _ _ _ _ => hready h hr (s.adopt_follows b n r)
    case runStart => exact fun s h hr i _ _ ht _ => State.startRun_guarded h hr ht i
    case runHold =>
      exact fun s h hr _ => hready h hr ((s.addReason_follows (by decide)).trans (State.wantCheckpoint_follows _))
    case runResume => exact fun s h hr _ => hready h hr s.resumeRun_follows
    case runRestart => exact fun s h hr hs ht => State.restartRun_guarded h hr hs ht
    case runAbort => exact fun s h hr _ => hready h hr s.abortRun_follows
    case writeZone =>
      exact fun s h _ z _ _ _ _ _ _ _ => h.congr (by simp) (by simp) (s.writeZone_interlocks z _ _) (by simp) (by simp)
        (by simp)
    case fanConfig => exact fun s h _ window coast heat spray position _ _ _ _ _ => State.writeFanConfig_guarded h ..
    case putCurve | clearCurve | switchHeat | switchHumidity =>
      intro s h
      intros
      exact h.congr rfl rfl rfl rfl rfl rfl
    case interlockConfig => exact fun s h hr i _ _ _ _ => State.configureInput_guarded h hr i _
    case clearLatch => exact fun s h hr i _ _ => State.clearLatch_guarded h hr i
    all_goals
      intro s h
      intros
      exact h.congr (by simp) (by simp) (by simp) (by simp) (by simp) (by simp)
  case takeHours => exact fun s h => hresting h s.takeHours_follows (by simp)
  case takeSettle => exact fun s h => hresting h s.takeSettle_follows (by simp)
  case takeTimeout => exact fun s h => hresting h s.takeTimeout_follows (by simp)
  case takeCoastEnd => exact fun s h => State.takeCoastEnd_guarded h
  case takeConfirmExpiry => exact fun s h => State.takeConfirmExpiry_guarded h
  case takeScanExpiry =>
    exact fun s h => h.of_follows s.takeScanExpiry_follows fun _ hrest => (s.takeScanExpiry_of_resting hrest).symm ▸ hrest
  case checkReversal => exact fun s h => hresting h s.checkReversal_follows (by simp)
  case restartNow => exact fun s _ _ => State.guarded_of_powerOn rfl rfl rfl rfl
  case powerOn => exact fun s _ _ _ => State.guarded_of_powerOn rfl rfl rfl rfl
  case powerLoss => exact fun s _ _ => State.guarded_of_powerOn rfl rfl rfl rfl
  case loadEnd => exact fun s h _ hr a b => State.endLoad_guarded h hr a b
  case countSecond => exact fun s h => h.of_follows s.countSecond_follows fun _ hrest => s.countSecond_resting hrest
  case takeSet => exact fun s h hr _ x => hready h hr (s.takeSet_follows x)
  case settleEnds =>
    exact fun s h => h.of_follows (.of_same (by simp) (by simp) (by simp) (by simp) (by simp)) fun _ hrest =>
      (s.settleEnds_of_resting hrest).symm ▸ hrest
  case countEnds =>
    exact fun s h n => h.of_follows (s.countEnds_follows n) fun _ hrest => (s.countEnds_of_resting hrest n).symm ▸ hrest
  case checkpointWriteEnd =>
    refine fun s h r => hresting h ?_ (by simp)
    unfold State.endCheckpointWrite
    split <;> exact .of_same rfl rfl rfl rfl rfl
  case saveWriteEnd =>
    refine fun s h r => hresting h ?_ (by simp)
    simp only [State.endSaveWrite]
    (repeat' split) <;> exact .of_same rfl rfl rfl rfl rfl
  case changeLive => exact fun s h i closed => State.changeLive_guarded h i closed
  all_goals
    intro s h
    intros
    exact h.congr (by simp) (by simp) (by simp) (by simp) (by simp) (by simp)

/-- R141: every operation of the commands keeps the ranges of the fan settings. -/
theorem fanSettingsSound_kept : CommandsKeep State.FanSettingsSound := by
  constructor
  case toRequestsKeep =>
    constructor
    case scanConfig => exact fun s h _ a b c => h.congr (s.writeScanConfig_fanConfig a b c) (by simp)
    case writeZone => exact fun s h _ z _ _ _ _ _ _ band => h.congr (s.writeZone_fanConfig z _ band) (by simp)
    case interlockConfig => exact fun s h _ i _ _ _ _ => h.congr (s.configureInput_fanConfig i _) (by simp)
    case fanConfig =>
      intro s h _ window coast heat spray position hwindow hcoast hheat hspray hposition
      refine ⟨?_, by simpa using h.2⟩
      simp only [inRange, Bool.and_eq_true, decide_eq_true_eq, Bool.or_eq_true, beq_iff_eq] at *
      simpa [State.writeFanConfig, Settings.FansWithin] using ⟨hwindow, hcoast, hheat, hspray, hposition⟩
    case adopt =>
      intro s h _ atStepEnd target restart _ _ _ _
      simp only [State.adopt]
      (repeat' split) <;> exact h.congr (by simp) (by simp)
    case putCurve | clearCurve | switchHeat | switchHumidity =>
      intro s h
      intros
      exact h.congr rfl rfl
    case requestSave => exact fun s h _ _ => h.of_memory rfl (h.2.requestSave h.1)
    all_goals
      intro s h
      intros
      exact h.congr (by simp [Settings.fanConfig]) (by simp)
  case finishEvent => exact fun s h => h.of_memory (by simp) (State.finishEvent_images h.2)
  case restartNow => exact fun s h _ => .of_powerOn rfl h.2.restart
  case powerOn =>
    refine fun s h _ _ => .of_powerOn rfl ?_
    exact ⟨(h.2.tear .writing).1, (fun _ hi => by cases hi), (fun _ hi => by cases hi)⟩
  case powerLoss => exact fun s h t => .of_powerOn rfl (h.2.tear t).emptied
  case loadEnd => exact fun s h _ _ => State.endLoad_fanSettingsSound h
  case checkpointWriteEnd => exact fun s h r => h.of_memory (by simp) (State.endCheckpointWrite_images h.2 r)
  case saveWriteEnd => exact fun s h r => h.of_memory (by simp) (State.endSaveWrite_images h.2 r)
  all_goals
    intro s h
    intros
    exact h.congr (by simp [Settings.fanConfig]) (by simp)

/-- Settles O57: each operation of the commands keeps the interlocks' condition, and each the ranges of the fan settings, so
every step does. -/
theorem everyStepKeepsInterlocksAndFans : Obligations.EveryStepKeepsInterlocksAndFans := by
  unfold Obligations.EveryStepKeepsInterlocksAndFans
  exact fun s t ht =>
    ⟨fun hscanner hinterlocks hfans => (guarded_kept.step (State.guarded_of_sound hscanner hinterlocks hfans) ht).sound,
      fun h => fanSettingsSound_kept.step h ht⟩

end Sys2Proof.Machine
end

section
/-! SUPPORT. The run requests (R84 to R103): the handlers' answers, and a request served with the run record. -/

namespace Sys2Proof.Machine

/-! ### The handlers -/

section
variable {s : State} {index : Byte}

theorem handleRunStart_badLength {p : List Byte} (h : p.length ≠ 1) :
    handleRunStart p s = (s, .of .badLength s.runPart) := by
  match p with
  | [] | _ :: _ :: _ => rfl
  | [_] => exact absurd rfl h

theorem handleRunStart_wrongState (h : s.run.state.inProgress = true) :
    handleRunStart [index] s = (s, .of .wrongState s.runPart) := if_pos h

section
variable (hidle : s.run.state.inProgress = false)
include hidle

theorem handleRunStart_noSchedule (h : s.schedule.activeSteps = []) :
    handleRunStart [index] s = (s, .of .noSchedule s.runPart) := by
  simp [handleRunStart, runReply, hidle, h]

theorem handleRunStart_badIndex (hsteps : s.schedule.activeSteps ≠ []) (h : s.schedule.activeSteps.length ≤ index.toNat) :
    handleRunStart [index] s = (s, .badField 1 s.runPart) := by
  simp [handleRunStart, hidle, hsteps, h]

variable (hindex : index.toNat < s.schedule.activeSteps.length)
include hindex

/-- R84: with the first three checks passed the latches and the active zones decide. -/
theorem handleRunStart_of_index :
    handleRunStart [index] s =
      if s.startTripped then runReply .tripped s
      else if s.activeZones.isEmpty then runReply .noZone s
      else runReply .ok (s.startRun index.toNat) := by
  have hsteps : s.schedule.activeSteps ≠ [] := List.ne_nil_of_length_pos (Nat.zero_lt_of_lt hindex)
  simp [handleRunStart, hidle, hsteps, Nat.not_le.2 hindex]

theorem handleRunStart_tripped (h : s.startTripped = true) :
    handleRunStart [index] s = (s, .of .tripped s.runPart) :=
  (handleRunStart_of_index hidle hindex).trans (if_pos h)

variable (hclear : s.startTripped = false)
include hclear

theorem handleRunStart_noZone (h : s.activeZones = []) : handleRunStart [index] s = (s, .of .noZone s.runPart) := by
  rw [handleRunStart_of_index hidle hindex, hclear, h]
  rfl

theorem handleRunStart_accept (h : s.activeZones ≠ []) :
    handleRunStart [index] s = runReply .ok (s.startRun index.toNat) := by
  rw [handleRunStart_of_index hidle hindex, hclear]
  simp [h]

end
end

/-- R84: a latch of level 2 or 3 is set. -/
theorem State.startTripped_iff (s : State) :
    s.startTripped = true ↔ ∃ j, (s.input j).latch = true ∧ (s.inputLevel j = 2 ∨ s.inputLevel j = 3) := by
  simp only [State.startTripped, Bool.or_eq_true, State.anyLatchOfLevel_iff, ← exists_or, ← and_or_left]

theorem State.mem_activeZones (s : State) (z : ZoneId) : z ∈ s.activeZones ↔ s.zoneActive z = true := by
  have hall : z ∈ ZoneId.all := by cases z <;> decide
  simp [State.activeZones, hall]

theorem State.activeZones_eq_nil_iff (s : State) : s.activeZones = [] ↔ ∀ z, s.zoneActive z = false := by
  simp [List.eq_nil_iff_forall_not_mem, State.mem_activeZones]

section
variable {s : State}

theorem handleRunHold_going (h : s.run.state.going = true) :
    handleRunHold [] s = runReply .ok (s.addReason .host).wantCheckpoint := if_pos h

theorem handleRunHold_wrongState (h : s.run.state.going = false) :
    handleRunHold [] s = (s, .of .wrongState s.runPart) := by simp [handleRunHold, runReply, h]

theorem handleRunHold_badLength {p : List Byte} (h : p ≠ []) : handleRunHold p s = (s, .of .badLength s.runPart) := by
  cases p with
  | nil => exact absurd rfl h
  | cons => rfl

theorem handleRunResume_held (h : s.run.state = .held) : handleRunResume [] s = runReply .ok s.resumeRun := if_pos h

theorem handleRunResume_wrongState (h : s.run.state ≠ .held) :
    handleRunResume [] s = (s, .of .wrongState s.runPart) := if_neg h

theorem handleRunResume_badLength {p : List Byte} (h : p ≠ []) :
    handleRunResume p s = (s, .of .badLength s.runPart) := by
  cases p with
  | nil => exact absurd rfl h
  | cons => rfl

theorem handleRunRestart_safe (h : s.run.state = .safe) (ht : s.anyLatchOfLevel 3 = false) :
    handleRunRestart [] s = runReply .ok s.restartRun := by simp [handleRunRestart, h, ht]

theorem handleRunRestart_tripped (h : s.run.state = .safe) (ht : s.anyLatchOfLevel 3 = true) :
    handleRunRestart [] s = (s, .of .tripped s.runPart) := by simp [handleRunRestart, runReply, h, ht]

theorem handleRunRestart_wrongState (h : s.run.state ≠ .safe) :
    handleRunRestart [] s = (s, .of .wrongState s.runPart) := if_neg h

theorem handleRunRestart_badLength {p : List Byte} (h : p ≠ []) :
    handleRunRestart p s = (s, .of .badLength s.runPart) := by
  cases p with
  | nil => exact absurd rfl h
  | cons => rfl

theorem handleRunAbort_inProgress (h : s.run.state.inProgress = true) :
    handleRunAbort [] s = runReply .ok s.abortRun := if_pos h

theorem handleRunAbort_wrongState (h : s.run.state.inProgress = false) :
    handleRunAbort [] s = (s, .of .wrongState s.runPart) := by simp [handleRunAbort, runReply, h]

theorem handleRunAbort_badLength {p : List Byte} (h : p ≠ []) : handleRunAbort p s = (s, .of .badLength s.runPart) := by
  cases p with
  | nil => exact absurd rfl h
  | cons => rfl

end

/-! ### The served requests -/

/-- R106: the one request that an event with no minute work makes at its end. -/
theorem State.finishEvent_of_asked {u : State} (h : u.due = { Due.none with checkpoint := true }) :
    u.finishEvent = { u with memory := u.memory.requestCheckpoint u.checkpointNow, due := .none } := by
  rw [State.finishEvent, h, if_pos (by rfl)]
  rfl

/-- R84, R105, R106: a run request served with OK and the run record asks for a checkpoint of what its handler makes of
the part; that, and the link, is what it leaves. -/
theorem run_served {c : Instr} {s u : State} {kind tag : Byte} {payload : List Byte}
    {f : List Byte → State → State × Reply} (h : s.Receptive) (hc : requestOf c = some (kind, tag, payload))
    (hk : ∀ k t p, c ≠ .unknownRequest k t p) (hf : handlerOf kind.toNat = some f)
    (hu : f payload s = runReply .ok u) (hl : u.link = s.link) (hm : u.memory = s.memory)
    (hd : u.due = { s.due with checkpoint := true }) :
    ∃ link t, t = { u with memory := s.memory.requestCheckpoint u.checkpointNow, due := s.due, link } ∧
      Served c s t (.of .ok t.runPart) ∧ AsksCheckpoint s t := by
  have hserved := served_of_handled h hc hk hf hu hl
  rw [State.finishEvent_of_answer, State.finishEvent_of_asked (by rw [hd, h.1.due_none]), hm, ← h.1.due_none] at hserved
  exact ⟨_, _, rfl, hserved, .inr rfl⟩

section
variable {s : State} {tag : Byte} {payload : List Byte} {r : Reply} (h : s.Receptive)
include h

theorem runStart_refused (hr : handleRunStart payload s = (s, r)) : ServedUnchanged (.runStart tag payload) s r :=
  servedUnchanged_of_handled (c := .runStart tag payload) h rfl (by simp) rfl hr

theorem runHold_refused (hr : handleRunHold payload s = (s, r)) : ServedUnchanged (.runHold tag payload) s r :=
  servedUnchanged_of_handled (c := .runHold tag payload) h rfl (by simp) rfl hr

theorem runResume_refused (hr : handleRunResume payload s = (s, r)) : ServedUnchanged (.runResume tag payload) s r :=
  servedUnchanged_of_handled (c := .runResume tag payload) h rfl (by simp) rfl hr

theorem runRestart_refused (hr : handleRunRestart payload s = (s, r)) : ServedUnchanged (.runRestart tag payload) s r :=
  servedUnchanged_of_handled (c := .runRestart tag payload) h rfl (by simp) rfl hr

theorem runAbort_refused (hr : handleRunAbort payload s = (s, r)) : ServedUnchanged (.runAbort tag payload) s r :=
  servedUnchanged_of_handled (c := .runAbort tag payload) h rfl (by simp) rfl hr

end

end Sys2Proof.Machine
end

section
/-! StepTakesTheFrontCommand, RunStartIsRefusedInOrder and HoldAndResumeChangeTheReasons. -/

namespace Sys2Proof.Machine

/-- Settles O1: the step by what stands in the queue. -/
theorem stepTakesTheFrontCommand : Obligations.StepTakesTheFrontCommand := by
  unfold Obligations.StepTakesTheFrontCommand
  intro c rest s h
  simp only [step, h]

/-- Settles O32: the handler's checks, the latches and the zones as they stand. -/
theorem runStartIsRefusedInOrder : Obligations.RunStartIsRefusedInOrder := by
  unfold Obligations.RunStartIsRefusedInOrder
  intro s tag i h tripped refuses
  refine ⟨fun hp => runStart_refused h (handleRunStart_wrongState hp),
    fun hidle => ⟨fun hnone => runStart_refused h (handleRunStart_noSchedule hidle hnone), fun hsteps =>
      ⟨fun hi => runStart_refused h (handleRunStart_badIndex hidle hsteps hi), fun hi => ⟨fun ht => ?_, fun ht hz => ?_⟩⟩⟩,
    fun p hp => runStart_refused h (handleRunStart_badLength hp)⟩
  · exact runStart_refused h (handleRunStart_tripped hidle hi (s.startTripped_iff.2 ht))
  · have hclear : s.startTripped = false := Bool.eq_false_iff.2 fun hset => ht (s.startTripped_iff.1 hset)
    exact runStart_refused h (handleRunStart_noZone hidle hi hclear (s.activeZones_eq_nil_iff.2 hz))

/-! ### HOST added, and the host's reasons removed (R99, R100) -/

theorem RunState.going_iff (x : RunState) : x.going = true ↔ x = .running ∨ x = .held := by
  cases x <;> simp [RunState.going]

/-- R99: RUN_HOLD of a run that goes. -/
theorem runHold_served {s : State} (h : s.Receptive) (tag : Byte) (hg : s.run.state = .running ∨ s.run.state = .held) :
    ∃ t, Served (.runHold tag []) s t (.of .ok t.runPart) ∧
      t = { s with run := t.run, notices := t.notices, memory := t.memory, link := t.link } ∧ AsksCheckpoint s t ∧
      (s.run.reasons.host = true → t.run = s.run ∧ t.notices = s.notices) ∧
      (s.run.reasons.host = false →
        t.run =
            { s.run with
              state := .held, reasons := { s.run.reasons with host := true }
              inBand := if s.run.state = .running then false else s.run.inBand } ∧
          t.notices = noticesAfter s [(.runHeld, 1, t.run.reasons.count)]) := by
  have hhandled := handleRunHold_going ((RunState.going_iff _).2 hg)
  have hserves {u : State} (hu : (s.addReason .host).wantCheckpoint = u) (hl : u.link = s.link)
      (hm : u.memory = s.memory) (hd : u.due = { s.due with checkpoint := true }) :=
    run_served (c := .runHold tag []) h rfl (by simp) rfl (hu ▸ hhandled) hl hm hd
  cases hhost : s.run.reasons.has .host with
  | true =>
    have hhost' : s.run.reasons.host = true := hhost
    rw [State.addReason_of_present hhost] at hserves
    obtain ⟨link, t, rfl, hserved, hasks⟩ := hserves rfl rfl rfl rfl
    exact ⟨_, hserved, rfl, hasks, fun _ => ⟨rfl, rfl⟩, fun hnot => absurd hhost' (by simp [hnot])⟩
  | false =>
    have hhost' : s.run.reasons.host = false := hhost
    obtain hs | hs := hg
    · rw [State.addReason_of_running hhost hs] at hserves
      obtain ⟨link, t, rfl, hserved, hasks⟩ := hserves rfl rfl rfl rfl
      exact ⟨_, hserved, rfl, hasks, fun hset => absurd hset (by simp [hhost']), fun _ => ⟨by rw [if_pos hs]; rfl, rfl⟩⟩
    · rw [State.addReason_of_held hhost hs] at hserves
      obtain ⟨link, t, rfl, hserved, hasks⟩ := hserves rfl rfl rfl rfl
      refine ⟨_, hserved, rfl, hasks, fun hset => absurd hset (by simp [hhost']), fun _ => ⟨?_, rfl⟩⟩
      rw [if_neg (by simp [hs]), ← hs]
      rfl

/-- R100: RUN_RESUME of a HELD run. -/
theorem runResume_served {s : State} (h : s.Receptive) (tag : Byte) (hs : s.run.state = .held) :
    let left := { s.run.reasons with host := false, timeout := false, restored := false }
    ∃ t, Served (.runResume tag []) s t (.of .ok t.runPart) ∧
      t = { s with run := t.run, notices := t.notices, memory := t.memory, link := t.link } ∧ AsksCheckpoint s t ∧
      (left = .empty →
        t.run = { s.run with state := .running, reasons := .empty } ∧
          ∀ i, s.run.stepIndex = some i → t.notices = noticesAfter s [(.runResumed, i, 0)]) ∧
      (left ≠ .empty → t.run = { s.run with reasons := left } ∧ t.notices = s.notices) := by
  intro left
  have hleft : ((s.run.reasons.put .host false).put .timeout false).put .restored false = left := rfl
  have hserves {u : State} (hu : s.resumeRun = u) (hl : u.link = s.link) (hm : u.memory = s.memory)
      (hd : u.due = { s.due with checkpoint := true }) :=
    run_served (c := .runResume tag []) h rfl (by simp) rfl (hu ▸ handleRunResume_held hs) hl hm hd
  by_cases he : left = .empty
  · have hresumed : s.resumeRun =
        (({ s with run := { s.run with state := .running, reasons := .empty } }).queueNotice .runResumed
          (s.run.stepIndex.getD 0) 0).wantCheckpoint := by
      simp only [State.resumeRun, hleft, State.resumeIfEmpty, he, HoldSet.isEmpty_empty, hs]
      rfl
    obtain ⟨link, t, rfl, hserved, hasks⟩ := hserves hresumed rfl rfl rfl
    exact ⟨_, hserved, rfl, hasks, fun _ => ⟨rfl, fun i hi => by rw [hi]; rfl⟩, fun hne => absurd he hne⟩
  · have hheld : s.resumeRun = ({ s with run := { s.run with reasons := left } } : State).wantCheckpoint := by
      have hsome : left.isEmpty = false := Bool.eq_false_iff.2 fun hempty => he ((HoldSet.isEmpty_eq_true_iff _).1 hempty)
      simp only [State.resumeRun, hleft, State.resumeIfEmpty, hsome]
      rfl
    obtain ⟨link, t, rfl, hserved, hasks⟩ := hserves hheld rfl rfl rfl
    exact ⟨_, hserved, rfl, hasks, fun hempty => absurd hempty he, fun _ => ⟨rfl, rfl⟩⟩

/-- Settles O33: RUN_HOLD and RUN_RESUME served, and their refusals. -/
theorem holdAndResumeChangeTheReasons : Obligations.HoldAndResumeChangeTheReasons := by
  unfold Obligations.HoldAndResumeChangeTheReasons
  intro s tag h left
  refine ⟨runHold_served h tag, fun hrunning hheld => runHold_refused h (handleRunHold_wrongState ?_),
    runResume_served h tag, fun hheld => runResume_refused h (handleRunResume_wrongState hheld), fun p hp =>
      ⟨runHold_refused h (handleRunHold_badLength hp), runResume_refused h (handleRunResume_badLength hp)⟩⟩
  exact Bool.eq_false_iff.2 fun hg => ((RunState.going_iff _).1 hg).elim hrunning hheld

end Sys2Proof.Machine
end

section
/-! SUPPORT. The Fan Sequencer follows a run that goes (R135, R136, R140): the notices of a start of STOPPED fans, and what
the fans then are. -/

namespace Sys2Proof.Machine

section
variable {s : State}

theorem State.fansFollowRun_of_stopped (hg : s.run.state.going = true) (hr : s.ready = true)
    (hs : s.fans.state = .stopped) : s.fansFollowRun = s.fansStart := by
  simp [State.fansFollowRun, hg, hr, hs]

theorem State.fansFollowRun_of_going (hg : s.run.state.going = true) (hs : s.fans.state ≠ .stopped) :
    s.fansFollowRun = s := by
  simp [State.fansFollowRun, hg, hs]

/-- R135: fans whose FAN_RUN latch is set fail at their start. -/
theorem State.fansStart_of_latched (h : (s.input .fanRun).latch = true) :
    s.fansStart =
      ({ s with fans := { s.fans with reversalTimer := 0, direction := .fwd } } : State).fansEnterFailed := if_pos h

theorem State.fansStart_of_clear (h : (s.input .fanRun).latch = false) :
    s.fansStart =
      ({ s with fans := { s.fans with reversalTimer := 0, direction := .fwd } } : State).fansEnterStarting :=
  if_neg (Bool.eq_false_iff.1 h)

/-- R140, R145, log 9: of fans that were STOPPED, an input that reads running trips at the entry to FAILED, before
FAN_FAILED. -/
theorem State.fansEnterFailed_notices (hs : s.fans.state = .stopped) (hc : s.fans.compareActive = false) :
    s.fansEnterFailed.notices =
      noticesAfter s
        ((if (s.input .fanRun).live = true ∧ 1 ≤ s.inputLevel .fanRun then
          [(.interlockTripped, 2, s.inputLevel .fanRun)]
        else []) ++ [(.fanFailed, s.fans.direction.code, 0)]) := by
  have hunjudged : s.fanRunJudged = false := by simp [State.fanRunJudged, hc]
  obtain ⟨u, hu⟩ : ∃ u : State, u =
      { s with
        fans :=
          { s.fans with
            state := .failed, expectRunning := false, compareActive := true, confirmTimer := 0, coastTimer := 0 } } :=
    ⟨_, rfl⟩
  have htrips : (u.fanRunJudged && !u.fanRunConforms && (s.fanRunConforms || !s.fanRunJudged)) = true ↔
      (s.input .fanRun).live = true ∧ 1 ≤ s.inputLevel .fanRun := by
    have hlive : u.fanRunConforms = ((s.input .fanRun).live == false) := by rw [hu]; rfl
    have hlevel : u.fanRunJudged = decide (1 ≤ s.inputLevel .fanRun) := by rw [hu]; rfl
    rw [hlive, hlevel, hunjudged]
    simp [and_comm]
  have hqueue : s.fansEnterFailed.notices =
      ((if u.fanRunJudged && !u.fanRunConforms && (s.fanRunConforms || !s.fanRunJudged) then
          u.queueNotice .interlockTripped Input.fanRun.number (s.inputLevel .fanRun)
        else u).queueNotice .fanFailed s.fans.direction.code s.fans.state.leftCode).notices := by
    rw [hu]; rfl
  rw [hqueue, hs]
  by_cases h : (s.input .fanRun).live = true ∧ 1 ≤ s.inputLevel .fanRun
  · rw [if_pos (htrips.2 h), if_pos h, hu]; rfl
  · rw [if_neg (fun ht => h (htrips.1 ht)), if_neg h, hu]; rfl

/-- R135, R140: the notices of a start. -/
theorem State.fansStart_notices (hs : s.fans.state = .stopped) (hc : s.fans.compareActive = false) :
    s.fansStart.notices = noticesAfter s (fanStartNotices s) := by
  cases hl : (s.input .fanRun).latch with
  | true =>
    have hfailed : fanStartNotices s =
        (if (s.input .fanRun).live = true ∧ 1 ≤ s.inputLevel .fanRun then
          [(.interlockTripped, 2, s.inputLevel .fanRun)]
        else []) ++ [(.fanFailed, 0, 0)] := if_pos ⟨hs, hl⟩
    rw [State.fansStart_of_latched hl, State.fansEnterFailed_notices (by exact hs) (by exact hc), hfailed]
    rfl
  | false => rw [State.fansStart_of_clear hl]; simp [fanStartNotices, hl, noticesAfter]

/-- R135: a run that goes starts STOPPED fans, and leaves all others. -/
theorem State.fansFollowRun_notices (hg : s.run.state.going = true) (hr : s.ready = true) (h : s.fans.Agrees) :
    s.fansFollowRun.notices = noticesAfter s (fanStartNotices s) := by
  by_cases hs : s.fans.state = .stopped
  · rw [State.fansFollowRun_of_stopped hg hr hs, State.fansStart_notices hs (h.of_stopped hs).2]
  · rw [State.fansFollowRun_of_going hg hs, fanStartNotices, if_neg fun hstart => hs hstart.1]
    rfl

/-- R135, R136: with the latch clear and the input reading stopped the fans are STARTING. -/
theorem State.fansStart_starting (hl : (s.input .fanRun).latch = false) (hlive : (s.input .fanRun).live = false) :
    s.fansStart.fans =
      { s.fans with
        state := .starting, direction := .fwd, reversalTimer := 0, confirmTimer := 0, confirmed := false
        compareActive := false } := by
  have hinput (t : State) (hi : t.interlocks = s.interlocks) : ¬ (t.input .fanRun).live = true := by
    rw [State.input, hi]; exact Bool.eq_false_iff.1 hlive
  rw [State.fansStart_of_clear hl]
  simp only [State.fansEnterStarting]
  rw [if_neg (hinput _ (by simp))]
  rfl

theorem State.fansStart_failed (hl : (s.input .fanRun).latch = true) : s.fansStart.fans.state = .failed := by
  rw [State.fansStart_of_latched hl, State.fansEnterFailed_fans]

end

/-- The notices of a start depend on the fans' state, FAN_RUN and its level alone. -/
theorem fanStartNotices_congr {s t : State} (hf : t.fans.state = .stopped ↔ s.fans.state = .stopped)
    (hi : t.interlocks = s.interlocks) (hs : t.settings = s.settings) : fanStartNotices t = fanStartNotices s := by
  have hinput : t.input .fanRun = s.input .fanRun := by rw [State.input, State.input, hi]
  have hlevel : t.inputLevel .fanRun = s.inputLevel .fanRun := by rw [State.inputLevel, State.inputLevel, hs]
  unfold fanStartNotices
  rw [hinput, hlevel]
  exact if_congr (and_congr_left' hf) rfl rfl

end Sys2Proof.Machine
end

section
/-! RestartHoldsAndAbortEndsTheRun. -/

namespace Sys2Proof.Machine

/-- R102: a SAFE run brought back HELD by HOST, before the fans follow. -/
def State.broughtBack (s : State) : State :=
  (({ s with run := { s.run with state := .held, reasons := { s.run.reasons with host := true } } }.queueNotice .runHeld 1
    { s.run.reasons with host := true }.count).wantCheckpoint).refreshOutputs

theorem State.restartRun_eq (s : State) : s.restartRun = s.broughtBack.fansFollowRun := rfl

theorem runRestart_served {s : State} (h : s.Receptive) (ha : s.fans.Agrees) (tag : Byte) (hs : s.run.state = .safe)
    (ht : s.anyLatchOfLevel 3 = false) :
    ∃ t, Served (.runRestart tag []) s t (.of .ok t.runPart) ∧
      t =
        { s with
          run := { s.run with state := .held, reasons := { s.run.reasons with host := true } }
          notices := noticesAfter s ((.runHeld, 1, t.run.reasons.count) :: fanStartNotices s)
          outputs := t.outputs, fans := t.fans, memory := t.memory, link := t.link } ∧
      AsksCheckpoint s t ∧
      (s.fans.state = .stopped → (s.input .fanRun).latch = false → (s.input .fanRun).live = false →
        t.fans.state = .starting ∧ t.fans.direction = .fwd ∧ t.fans.reversalTimer = 0) := by
  have hready : s.broughtBack.ready = true := h.2.1
  have hgoing : s.broughtBack.run.state.going = true := rfl
  have hnotices : s.broughtBack.fansFollowRun.notices =
      noticesAfter s ((.runHeld, 1, { s.run.reasons with host := true }.count) :: fanStartNotices s) := by
    rw [State.fansFollowRun_notices hgoing hready ha]; rfl
  obtain ⟨link, t, ht, hserved, hasks⟩ := run_served (c := .runRestart tag []) h rfl (by simp) rfl
    (handleRunRestart_safe hs ht) (u := s.restartRun) (by simp) (by simp) (by rw [State.restartRun_eq]; simp; rfl)
  have hrun : t.run = { s.run with state := .held, reasons := { s.run.reasons with host := true } } := by
    rw [ht, State.restartRun_eq]; simp; rfl
  refine ⟨t, hserved, State.eq_of_blocks ?_, hasks, fun hstopped hlatch hlive => ?_⟩
  · rw [hrun]
    simp [ht, State.restartRun_eq, hnotices]
    simp [State.broughtBack]
  · have hfans : t.fans = s.broughtBack.fansStart.fans := by
      rw [ht, State.restartRun_eq, State.fansFollowRun_of_stopped hgoing hready hstopped]
    rw [hfans, State.fansStart_starting (s := s.broughtBack) hlatch hlive]
    exact ⟨rfl, rfl, rfl⟩

/-- R103, R79, R83: RUN_ABORT of a run in progress. -/
theorem runAbort_served {s : State} (h : s.Receptive) (tag : Byte) {i : Nat} (hp : s.run.state.inProgress = true)
    (hi : s.run.stepIndex = some i) :
    ∃ t, Served (.runAbort tag []) s t (.of .ok t.runPart) ∧ RunEnded t ∧
      t =
        { s with
          run := { s.run with state := .aborted, reasons := .empty, inBand := false }
          schedule := { s.schedule with adoption := none }
          notices := noticesAfter s [(.runAborted, i, 0)], zones := t.zones, outputs := t.outputs, fans := t.fans,
          memory := t.memory, link := t.link } ∧
      t.memory = s.memory.requestCheckpoint .noRun := by
  obtain ⟨u, hu⟩ : ∃ u, u =
      ({ s with schedule := { s.schedule with adoption := none } } : State).endRun .aborted := ⟨_, rfl⟩
  obtain ⟨hrun, hnotices⟩ : u.run = { s.run with state := .aborted, reasons := .empty, inBand := false } ∧
      u.notices = s.notices := by
    rw [hu]; exact State.endRun_kept { s with schedule := _ } rfl
  have hended : RunEnded u := by rw [hu]; exact State.endRun_ended _ rfl
  have haborted : s.abortRun = (u.queueNotice .runAborted i 0).wantCheckpoint := by
    rw [hu, State.abortRun, hi]; rfl
  obtain ⟨link, t, ht, hserved, -⟩ := run_served (c := .runAbort tag []) h rfl (by simp) rfl
    (handleRunAbort_inProgress hp) (u := s.abortRun) (by simp) (by simp) (by rw [haborted, hu]; simp)
  have hnone : s.abortRun.checkpointNow = .noRun := by
    simp [State.checkpointNow, haborted, hrun, RunState.inProgress]
  refine ⟨t, hserved, ?_, State.eq_of_blocks ?_, by rw [ht, hnone]⟩
  · rw [ht, haborted]; exact hended
  · rw [ht, haborted]
    simp [hrun, hnotices, noticesAfter]
    simp [hu]

/-- Settles O34: RUN_RESTART and RUN_ABORT served, and their refusals. -/
theorem restartHoldsAndAbortEndsTheRun : Obligations.RestartHoldsAndAbortEndsTheRun := by
  unfold Obligations.RestartHoldsAndAbortEndsTheRun
  intro s tag h ha
  refine ⟨fun hs hclear => runRestart_served h ha tag hs (Bool.eq_false_iff.2 fun hset => ?_), fun hs hset => ?_,
    fun hs => runRestart_refused h (handleRunRestart_wrongState hs), fun i hp hi => runAbort_served h tag hp hi,
    fun hover => runAbort_refused h (handleRunAbort_wrongState hover), fun p hp =>
      ⟨runRestart_refused h (handleRunRestart_badLength hp), runAbort_refused h (handleRunAbort_badLength hp)⟩⟩
  · obtain ⟨j, hlatch, hlevel⟩ := (s.anyLatchOfLevel_iff 3).1 hset
    exact hclear j hlatch hlevel
  · exact runRestart_refused h (handleRunRestart_tripped hs ((s.anyLatchOfLevel_iff 3).2 hset))

end Sys2Proof.Machine
end

section
/-! RunHourRequestsACheckpoint and MinuteJudgementsEndOrHoldTheStep. -/

namespace Sys2Proof.Machine

/-! ### The hourly checkpoint (R106) -/

theorem Memory.requestCheckpoint_of_idle {m : Memory} (h : m.op = .none) (c : Checkpoint) :
    m.requestCheckpoint c = m.startCheckpoint c := by simp only [Memory.requestCheckpoint, h]

theorem Memory.requestCheckpoint_of_busy {m : Memory} (h : m.op ≠ .none) (c : Checkpoint) :
    m.requestCheckpoint c = { m with pendingCheckpoint := some c } := by
  cases hop : m.op with
  | none => exact absurd hop h
  | load | checkpointWrite | saveWrite => simp only [Memory.requestCheckpoint, hop]

theorem State.dueEvent_of_powered {s : State} (h : s.powered = true) (f : State → State) :
    s.dueEvent f = (f s).finishEvent := if_pos h

/-- R87, R106: with the minute's judgements over, the hourly checkpoint is requested and nothing is due. -/
theorem State.takeHourCheckpoint_finishes {s : State} (h : s.due.hourCheckpoint = true) (hh : s.due.hours = false)
    (hs : s.due.settle = false) (ht : s.due.timeout = false) :
    s.takeHourCheckpoint.finishEvent =
      { s with memory := s.memory.requestCheckpoint s.checkpointNow, due := .none } := by
  have hdue : s.takeHourCheckpoint.due = { Due.none with checkpoint := true } := by
    simp [State.takeHourCheckpoint, h, hh, hs, ht, State.wantCheckpoint, Due.none]
  rw [State.finishEvent_of_asked hdue, State.takeHourCheckpoint, if_pos h]
  rfl

/-- Settles O24: the one request of the event, with the run record as it stands. -/
theorem runHourRequestsACheckpoint : Obligations.RunHourRequestsACheckpoint := by
  unfold Obligations.RunHourRequestsACheckpoint
  intro s i hp hhour hhours hsettle htimeout hrun hi
  have hexec : exec .runHourCheckpoint s =
      .next { s with memory := s.memory.requestCheckpoint s.checkpointNow, due := .none } := by
    show Host.Outcome.next (s.dueEvent State.takeHourCheckpoint) = _
    rw [State.dueEvent_of_powered hp, State.takeHourCheckpoint_finishes hhour hhours hsettle htimeout]
  refine ⟨_, s.checkpointNow, hexec, rfl, ?_, fun hop => Memory.requestCheckpoint_of_idle hop _,
    fun hop => Memory.requestCheckpoint_of_busy hop _⟩
  simp only [State.checkpointNow, hrun, hi]

/-! ### The judgements of a minute event (R88 to R93) -/

section
variable {s : State}

theorem State.evaluatedStep_eq_some_iff {x : StepRecord} :
    s.evaluatedStep = some x ↔
      s.run.state = .running ∧ s.currentStep = some x ∧ 60 * x.minHours.getD 0 ≤ s.run.stepMinutes := by
  simp [State.evaluatedStep, State.minimumMet, Option.filter_eq_some_iff]

/-- R89, R90: HOURS_TEST_PASS finds its judgement due and passing. -/
theorem State.hoursJudged_iff :
    (s.due.hours && s.hoursTestPasses) = true ↔ ∃ x, MinuteTestPasses .hoursTestPass s x := by
  have htest (x : StepRecord) :
      (match x.test with
        | .hours | .mcOrHours => s.hoursMet x
        | .mcAndHours => s.run.mcMet && s.hoursMet x
        | .settled | .cooled | .mc => false) = true ↔
        s.hoursMet x = true ∧ (x.test = .hours ∨ x.test = .mcOrHours ∨ x.test = .mcAndHours ∧ s.run.mcMet = true) := by
    cases x.test <;> simp [and_comm]
  have hpasses : s.hoursTestPasses = true ↔ ∃ x, s.evaluatedStep = some x ∧ s.hoursMet x = true ∧
      (x.test = .hours ∨ x.test = .mcOrHours ∨ x.test = .mcAndHours ∧ s.run.mcMet = true) := by
    simp only [← htest]
    exact Option.any_eq_true ..
  rw [Bool.and_eq_true, hpasses]
  simp only [MinuteTestPasses, State.evaluatedStep_eq_some_iff, State.hoursMet_iff]
  constructor
  · rintro ⟨hdue, x, ⟨hrun, hx, hmin⟩, hmet, htests⟩
    exact ⟨x, hrun, hx, hmin, .inl ⟨trivial, hdue, hmet, htests⟩⟩
  · rintro ⟨x, hrun, hx, hmin, ⟨-, hdue, hmet, htests⟩ | ⟨hc, -⟩⟩
    · exact ⟨hdue, x, ⟨hrun, hx, hmin⟩, hmet, htests⟩
    · cases hc

/-- R91, R123: SETTLE_TIMER_PASS finds its judgement due and passing. -/
theorem State.settleJudged_iff :
    (s.due.settle && s.settleTestPasses) = true ↔ ∃ x, MinuteTestPasses .settleTimerPass s x := by
  have hzones : s.activeZones.isEmpty = false ↔ ∃ z, s.zoneActive z = true := by
    rw [Bool.eq_false_iff, ne_eq, List.isEmpty_iff, s.activeZones_eq_nil_iff]
    simp
  have hpasses : s.settleTestPasses = true ↔
      s.run.inBand = true ∧ (∃ z, s.zoneActive z = true) ∧
        ∃ x, s.evaluatedStep = some x ∧ x.test = .settled ∧ ∃ n, x.settleMinutes = some n ∧ n ≤ s.run.settleTimer := by
    simp only [State.settleTestPasses, Bool.and_eq_true, Bool.not_eq_true', hzones, Option.any_eq_true,
      decide_eq_true_eq, and_assoc]
  rw [Bool.and_eq_true, hpasses]
  simp only [MinuteTestPasses, State.evaluatedStep_eq_some_iff]
  constructor
  · rintro ⟨hdue, hband, hz, x, ⟨hrun, hx, hmin⟩, htest, htimer⟩
    exact ⟨x, hrun, hx, hmin, .inr ⟨trivial, hdue, hband, htest, hz, htimer⟩⟩
  · rintro ⟨x, hrun, hx, hmin, ⟨hc, -⟩ | ⟨-, hdue, hband, htest, hz, htimer⟩⟩
    · cases hc
    · exact ⟨hdue, hband, hz, x, ⟨hrun, hx, hmin⟩, htest, htimer⟩

/-! ### What the judgements leave -/

theorem State.takeHours_of_pass (h : (s.due.hours && s.hoursTestPasses) = true) :
    s.takeHours = s.judgementsOver.stepEnd := by
  obtain ⟨hdue, hpass⟩ := Bool.and_eq_true_iff.1 h
  rw [State.takeHours, if_pos hdue, if_pos hpass]

theorem State.takeSettle_of_pass (h : (s.due.settle && s.settleTestPasses) = true) :
    s.takeSettle = s.judgementsOver.stepEnd := by
  obtain ⟨hdue, hpass⟩ := Bool.and_eq_true_iff.1 h
  rw [State.takeSettle, if_pos hdue, if_pos hpass]

theorem State.takeHours_of_fail (h : (s.due.hours && s.hoursTestPasses) = false) :
    s.takeHours = { s with due := { s.due with hours := false } } := by
  cases hdue : s.due.hours with
  | false => rw [State.takeHours, if_neg (by simp [hdue]), ← hdue]
  | true =>
    rw [hdue, Bool.true_and] at h
    simp [State.takeHours, hdue, h]

theorem State.takeSettle_of_fail (h : (s.due.settle && s.settleTestPasses) = false) :
    s.takeSettle = { s with due := { s.due with settle := false } } := by
  cases hdue : s.due.settle with
  | false => rw [State.takeSettle, if_neg (by simp [hdue]), ← hdue]
  | true =>
    rw [hdue, Bool.true_and] at h
    simp [State.takeSettle, hdue, h]

theorem State.takeTimeout_of_judged {u : State} {x : StepRecord} (hu : s.takeHours.takeSettle = u)
    (hd : u.due.timeout = true) (hx : u.timedOutStep = some x) :
    s.takeTimeout = ({ u with due := { u.due with timeout := false } } : State).timeOut x := by
  simp only [State.takeTimeout, hu, hd, hx, if_true]

/-- R93: STEP_TIMEOUT of a step whose other judgements do not pass. -/
theorem State.takeTimeout_of_timedOut {x : StepRecord} (hh : (s.due.hours && s.hoursTestPasses) = false)
    (hs : (s.due.settle && s.settleTestPasses) = false) (hd : s.due.timeout = true) (hx : s.timedOutStep = some x) :
    s.takeTimeout = s.judgementsOver.timeOut x ∧
      (s.takeHours.takeSettle.due.timeout && s.takeHours.takeSettle.timedOutStep.isSome) = true := by
  have hjudged : s.takeHours.takeSettle = { s with due := { s.due with hours := false, settle := false } } := by
    rw [State.takeHours_of_fail hh, State.takeSettle_of_fail (by exact hs)]
  have htimed : ({ s with due := { s.due with hours := false, settle := false } } : State).timedOutStep = some x := hx
  exact ⟨State.takeTimeout_of_judged hjudged hd htimed, by rw [hjudged, htimed, hd]; rfl⟩

theorem State.stepEnd_timeout (s : State) : s.judgementsOver.stepEnd.due.timeout = false := by
  obtain hdue | hdue := s.judgementsOver.stepEnd_asksAtMost <;> rw [hdue] <;> rfl

theorem State.takeHours_timeout (h : s.due.timeout = false) : s.takeHours.due.timeout = false := by
  unfold State.takeHours
  split
  · split
    · exact s.stepEnd_timeout
    · exact h
  · exact h

theorem State.takeSettle_timeout (h : s.due.timeout = false) : s.takeSettle.due.timeout = false := by
  unfold State.takeSettle
  split
  · split
    · exact s.stepEnd_timeout
    · exact h
  · exact h

/-- R106: the end of an event takes no mark of the minute's work. -/
theorem State.finishEvent_keepsMarks (s : State) :
    s.finishEvent.due = s.due ∨ s.finishEvent.due = { s.due with checkpoint := false } := by
  obtain heq | ⟨-, -, heq⟩ := s.finishEvent_cases <;> rw [heq]
  · exact .inl rfl
  · exact .inr rfl

/-- The judgements of the minute event are over, and its hourly checkpoint is due as before. -/
def State.Judged (s t : State) : Prop :=
  t.due.hours = false ∧ t.due.settle = false ∧ t.due.timeout = false ∧ t.due.hourCheckpoint = s.due.hourCheckpoint

theorem State.Judged.of_asksAtMost {t : State} (h : State.AsksAtMost s.judgementsOver t) : s.Judged t := by
  obtain h | h := h <;> rw [State.Judged, h] <;> exact ⟨rfl, rfl, rfl, rfl⟩

theorem State.Judged.finishEvent {t : State} (h : s.Judged t) : s.Judged t.finishEvent := by
  obtain hdue | hdue := t.finishEvent_keepsMarks <;> rw [State.Judged, hdue] <;> exact h

/-- A step end after notices that its event has queued, the work due apart. -/
theorem StepEnds.of_queued {t : State} {d : Due} {before : List (NoticeKind × Nat × Nat)}
    (h : StepEnds { s with due := d, notices := noticesAfter s before } t []) : StepEnds s t before := by
  obtain ⟨hadoption, hnext, hlast⟩ := h
  have hqueue (xs : List (NoticeKind × Nat × Nat)) :
      noticesAfter { s with due := d, notices := noticesAfter s before } xs = noticesAfter s (before ++ xs) :=
    noticesAfter_append (s := s) (t := { s with due := d, notices := noticesAfter s before }) rfl rfl xs
  simp only [List.nil_append, hqueue] at hadoption hnext hlast
  exact ⟨hadoption, hnext, hlast⟩

/-- R93, R95, R96: a step end in a minute event, after the notices the event has queued. -/
theorem State.stepEnd_inMinute {u : State} (before : List (NoticeKind × Nat × Nat))
    (hu : u = { s.judgementsOver with notices := noticesAfter s before }) :
    let t := u.stepEnd.finishEvent
    StepEnds s t before ∧
      t =
        { s with
          run := t.run, zones := t.zones, outputs := t.outputs, fans := t.fans, schedule := t.schedule,
          notices := t.notices, memory := t.memory, due := t.due } ∧
      s.Judged t := by
  have hends : StepEnds s u.stepEnd before := StepEnds.of_queued (d := s.judgementsOver.due) (by
    have hfrom := u.stepEnd_ends
    rw [hu] at hfrom ⊢
    exact hfrom)
  have hmemory : u.stepEnd.memory = s.memory := by simp [hu, State.judgementsOver]
  have hasks : State.AsksAtMost s.judgementsOver u.stepEnd := by
    have hfrom := u.stepEnd_asksAtMost
    rw [hu] at hfrom ⊢
    exact hfrom
  refine ⟨hends.congr (.refl s) (State.RunAgrees.refl _).finishEvent fun h => h.finishEvent hmemory,
    State.eq_of_blocks ?_, (State.Judged.of_asksAtMost hasks).finishEvent⟩
  simp [hu, State.judgementsOver]

/-- R93, R97: a timeout with HOLD in a minute event. -/
theorem State.timeOut_holds {x : StepRecord} (ha : x.timeoutAction = some .hold) (hr : s.run.reasons.timeout = false)
    (hs : s.run.state = .running) :
    let t := (s.judgementsOver.timeOut x).finishEvent
    t = { s with run := t.run, notices := t.notices, memory := t.memory, due := t.due } ∧
      t.run =
        { s.run with
          state := .held, reasons := { s.run.reasons with timeout := true }, timeoutTaken := true, inBand := false } ∧
      t.notices = noticesAfter s [(.runHeld, 2, t.run.reasons.count)] ∧ AsksCheckpoint s t ∧ s.Judged t := by
  obtain ⟨u, hu⟩ : ∃ u, u = s.judgementsOver.timeOut x := ⟨_, rfl⟩
  have hheld : u =
      { s.judgementsOver with
        run :=
          { s.run with
            state := .held, reasons := { s.run.reasons with timeout := true }, timeoutTaken := true, inBand := false }
        notices := noticesAfter s [(.runHeld, 2, { s.run.reasons with timeout := true }.count)]
        due := { s.judgementsOver.due with checkpoint := true } } := by
    have hadd := State.addReason_of_running (s := s.judgementsOver) (r := .timeout) (by exact hr) (by exact hs)
    simp only [hu, State.timeOut, ha, hadd]
    rfl
  have hasks : AsksCheckpoint s u := asksCheckpoint_of_due (d := s.judgementsOver.due) (by rw [hheld])
  have hjudged : s.Judged u := .of_asksAtMost (.inr (by rw [hheld]))
  rw [← hu]
  refine ⟨State.eq_of_blocks ?_, ?_, ?_, hasks.finishEvent (by rw [hheld]; rfl), hjudged.finishEvent⟩
  · simp [hheld, State.judgementsOver]
  · simp [hheld]
  · simp [hheld]

end

/-! ### The events of the judgements -/

section
variable {s : State} (h : s.powered = true)
include h

theorem exec_hoursTestPass_of_pass (hp : (s.due.hours && s.hoursTestPasses) = true) :
    exec .hoursTestPass s = .next s.judgementsOver.stepEnd.finishEvent := by
  show Host.Outcome.next (s.dueEvent fun t => if t.due.hours && t.hoursTestPasses then t.takeHours else t) = _
  rw [State.dueEvent_of_powered h, if_pos hp, State.takeHours_of_pass hp]

theorem exec_settleTimerPass_of_pass (hp : (s.due.settle && s.settleTestPasses) = true) :
    exec .settleTimerPass s = .next s.judgementsOver.stepEnd.finishEvent := by
  show Host.Outcome.next (s.dueEvent fun t => if t.due.settle && t.settleTestPasses then t.takeSettle else t) = _
  rw [State.dueEvent_of_powered h, if_pos hp, State.takeSettle_of_pass hp]

theorem exec_stepTimeout_of_timedOut {x : StepRecord} (hh : (s.due.hours && s.hoursTestPasses) = false)
    (hs : (s.due.settle && s.settleTestPasses) = false) (hd : s.due.timeout = true) (hx : s.timedOutStep = some x) :
    exec .stepTimeout s = .next (s.judgementsOver.timeOut x).finishEvent := by
  obtain ⟨htake, hguard⟩ := State.takeTimeout_of_timedOut hh hs hd hx
  show Host.Outcome.next (s.dueEvent fun t =>
    if t.takeHours.takeSettle.due.timeout && t.takeHours.takeSettle.timedOutStep.isSome then t.takeTimeout else t) = _
  rw [State.dueEvent_of_powered h, if_pos hguard, htake]

section
variable (hc : s.due.checkpoint = false)
include hc

/-- Log 1: a row whose condition does not hold changes nothing. -/
theorem State.dueEvent_of_unmet {b : State → Bool} {f : State → State} (hb : b s = false) :
    (s.dueEvent fun t => if b t then f t else t) = s := by
  rw [State.dueEvent_of_powered h, hb]
  exact s.finishEvent_of_no_request hc

theorem exec_hoursTestPass_of_fail (hf : (s.due.hours && s.hoursTestPasses) = false) : exec .hoursTestPass s = .next s :=
  congrArg Host.Outcome.next (State.dueEvent_of_unmet h hc (b := fun t => t.due.hours && t.hoursTestPasses) hf)

theorem exec_settleTimerPass_of_fail (hf : (s.due.settle && s.settleTestPasses) = false) :
    exec .settleTimerPass s = .next s :=
  congrArg Host.Outcome.next (State.dueEvent_of_unmet h hc (b := fun t => t.due.settle && t.settleTestPasses) hf)

theorem exec_stepTimeout_of_notDue (hd : s.due.timeout = false) : exec .stepTimeout s = .next s := by
  have hnot : s.takeHours.takeSettle.due.timeout = false := State.takeSettle_timeout (State.takeHours_timeout hd)
  exact congrArg Host.Outcome.next (State.dueEvent_of_unmet h hc
    (b := fun t => t.takeHours.takeSettle.due.timeout && t.takeHours.takeSettle.timedOutStep.isSome)
    (by rw [hnot]; rfl))

end
end

theorem hoursJudged_eq_false {s : State} (h : ∀ y, ¬ MinuteTestPasses .hoursTestPass s y) :
    (s.due.hours && s.hoursTestPasses) = false :=
  Bool.eq_false_iff.2 fun hpass => (State.hoursJudged_iff.1 hpass).elim h

theorem settleJudged_eq_false {s : State} (h : ∀ y, ¬ MinuteTestPasses .settleTimerPass s y) :
    (s.due.settle && s.settleTestPasses) = false :=
  Bool.eq_false_iff.2 fun hpass => (State.settleJudged_iff.1 hpass).elim h

theorem MinuteTestPasses.row {s : State} {c : Instr} {x : StepRecord} (h : MinuteTestPasses c s x) :
    c = .hoursTestPass ∨ c = .settleTimerPass := by
  obtain ⟨-, -, -, ⟨hc, -⟩ | ⟨hc, -⟩⟩ := h
  · exact .inl hc
  · exact .inr hc

/-- R89 to R91: an event whose judgement passes ends the step. -/
theorem exec_of_minuteTestPasses {s : State} {c : Instr} {x : StepRecord} (hp : s.powered = true)
    (h : MinuteTestPasses c s x) : exec c s = .next s.judgementsOver.stepEnd.finishEvent := by
  obtain rfl | rfl := h.row
  · exact exec_hoursTestPass_of_pass hp (State.hoursJudged_iff.2 ⟨x, h⟩)
  · exact exec_settleTimerPass_of_pass hp (State.settleJudged_iff.2 ⟨x, h⟩)

/-- Settles O23: the step ended by a passing test or by ADVANCE, the run held by HOLD, and the rows that do nothing. -/
theorem minuteJudgementsEndOrHoldTheStep : Obligations.MinuteJudgementsEndOrHoldTheStep := by
  unfold Obligations.MinuteJudgementsEndOrHoldTheStep
  refine ⟨fun s c x hp hpass => ?_, fun s x h i hp hhours hsettle hdue hrun htaken hx hi hmax hover => ?_,
    fun s hp hc => ⟨fun hf => exec_hoursTestPass_of_fail hp hc (hoursJudged_eq_false hf),
      fun hf => exec_settleTimerPass_of_fail hp hc (settleJudged_eq_false hf), exec_stepTimeout_of_notDue hp hc⟩⟩
  · obtain ⟨hends, hkept, hjudged⟩ := State.stepEnd_inMinute (s := s) (u := s.judgementsOver) [] rfl
    exact ⟨_, exec_of_minuteTestPasses hp hpass, hends, hkept, hjudged⟩
  · have htimed : s.timedOutStep = some x := by
      simp [State.timedOutStep, hrun, htaken, hx, Option.filter_some, hmax, hover]
    have hexec := exec_stepTimeout_of_timedOut hp (hoursJudged_eq_false hhours) (settleJudged_eq_false hsettle) hdue htimed
    refine ⟨fun ha => ?_, fun ha hr => ?_⟩
    · have hadvance : s.judgementsOver.timeOut x = (s.judgementsOver.queueNotice .stepTimedOut i 0).stepEnd := by
        have hindex : s.judgementsOver.run.stepIndex = some i := hi
        simp only [State.timeOut, ha, hindex, Option.getD_some]
      obtain ⟨hends, hkept, hjudged⟩ := State.stepEnd_inMinute (s := s)
        (u := s.judgementsOver.queueNotice .stepTimedOut i 0) [(.stepTimedOut, i, 0)] rfl
      exact ⟨_, hadvance ▸ hexec, hends, hkept, hjudged⟩
    · exact ⟨_, hexec, State.timeOut_holds ha hr hrun⟩

end Sys2Proof.Machine
end

section
/-! RunStartEntersTheFirstStep. -/

namespace Sys2Proof.Machine

/-! ### The first step entered (R85, R86) -/

/-- R135: STOPPED fans take a step's interval and speed, and stay STOPPED. -/
theorem State.handFans_of_stopped {s : State} (h : s.fans.state = .stopped) (x : StepRecord) :
    (s.handFans x).fans = { s.fans with reversalInterval := x.reversalInterval, speed := x.speed } := by
  rw [State.handFans, State.checkReversal, if_neg (by simp [State.reversalIsDue, h, FanState.isRunning])]

theorem State.handFans_stopped_iff (s : State) (x : StepRecord) :
    (s.handFans x).fans.state = .stopped ↔ s.fans.state = .stopped := by
  refine ⟨fun h => ?_, fun h => by rw [State.handFans_of_stopped h]; exact h⟩
  rw [State.handFans, State.checkReversal] at h
  split at h
  · cases h
  · exact h

theorem State.handFans_congr {s t : State} (h : t.fans = s.fans) (x : StepRecord) :
    (t.handFans x).fans = (s.handFans x).fans := by
  have hdue : ({ t with
        fans := { t.fans with reversalInterval := x.reversalInterval, speed := x.speed } } : State).reversalIsDue =
      ({ s with
        fans := { s.fans with reversalInterval := x.reversalInterval, speed := x.speed } } : State).reversalIsDue := by
    simp only [State.reversalIsDue, h]
  rw [State.handFans, State.checkReversal, State.handFans, State.checkReversal, hdue]
  split <;> simp [State.fansEnterCoasting, h]

/-- R85: the run record of a start that has entered its first step. -/
def Run.started (figures : Option McFigures) (i : Nat) (x : StepRecord) : Run :=
  { state := .running, reasons := .empty, stepIndex := some i, stepMinutes := 0, totalMinutes := 0,
    mcMet := false, timeoutTaken := false, settleTimer := 0, inBand := false
    equalizeEntered := decide (x.kind = .equalize)
    spread := if x.kind = .equalize then figures.map fun f => f.wettest - f.driest else none
    completion := none, restored := false }

/-- R104: a start latches the spread with a first step of kind EQUALIZE. -/
theorem State.latchSpread_started {u : State} {r : Run} {i : Nat} (h : u.run = r.starting.entering i) (x : StepRecord) :
    (u.latchSpread x).run = Run.started u.latestFigures i x := by
  by_cases hk : x.kind = .equalize
  · rw [State.latchSpread_first hk (by rw [h]; rfl), h, Run.started, if_pos hk, hk]
    rfl
  · rw [State.latchSpread_kept (.inl hk), h, Run.started, if_neg hk, decide_eq_false hk]
    rfl

/-- R85, R86: the part with its first step entered, before the reasons of the start are looked at. -/
def State.startEntered (s : State) (i : Nat) : State :=
  (({ s with run := s.run.starting } : State).queueNotice .runStarted i s.schedule.activeSteps.length).enterStepFrom i
    fun x z => s.startOrigin z x

section
variable {s : State} {i : Nat} {x : StepRecord} (hx : s.schedule.activeSteps[i]? = some x)
include hx

theorem State.startEntered_eq :
    ∃ u : State, s.startEntered i = ((u.latchSpread x).queueNotice .stepEntered i x.kind.code).wantCheckpoint ∧
      u = (({ s with run := s.run.starting.entering i }.queueNotice .runStarted i
        s.schedule.activeSteps.length).zonesTakeStep x fun z => s.startOrigin z x).handFans x := by
  have hentered := State.enterStepFrom_of_step (x := x)
    (s := ({ s with run := s.run.starting } : State).queueNotice .runStarted i s.schedule.activeSteps.length) hx
    fun y z => s.startOrigin z y
  exact ⟨_, hentered, rfl⟩

theorem State.startEntered_run : (s.startEntered i).run = .started s.latestFigures i x := by
  obtain ⟨u, heq, hu⟩ := State.startEntered_eq hx
  have hrun : u.run = s.run.starting.entering i := by simp [hu, State.zonesTakeStep]
  have hfigures : u.latestFigures = s.latestFigures := by simp [State.latestFigures, hu]
  rw [heq, ← hfigures, ← State.latchSpread_started hrun]
  rfl

theorem State.startEntered_notices :
    (s.startEntered i).notices =
      noticesAfter s [(.runStarted, i, s.schedule.activeSteps.length), (.stepEntered, i, x.kind.code)] := by
  obtain ⟨u, heq, hu⟩ := State.startEntered_eq hx
  rw [heq, hu]
  simp [noticesAfter]

theorem State.startEntered_due : (s.startEntered i).due = { s.due with checkpoint := true } := by
  obtain ⟨u, heq, hu⟩ := State.startEntered_eq hx
  rw [heq, hu]
  simp

theorem State.startEntered_zone {z : ZoneId} (h : s.zoneActive z = true) :
    (s.startEntered i).zone z = { s.zone z with ramp := some (rampFrom x (s.startOrigin z x)) } := by
  obtain ⟨u, heq, hu⟩ := State.startEntered_eq hx
  have hzones : (s.startEntered i).zones = u.zones := by rw [heq]; simp
  have htaken : u.zones =
      s.zones.map fun z y => if s.zoneActive z then { y with ramp := some (rampFrom x (s.startOrigin z x)) } else y := by
    rw [hu]; simp [State.zonesTakeStep]; rfl
  simp only [State.zone, hzones, htaken, zones_get_map, h, if_true]

theorem State.startEntered_fans : (s.startEntered i).fans = (s.handFans x).fans := by
  obtain ⟨u, heq, hu⟩ := State.startEntered_eq hx
  have hfans : (s.startEntered i).fans = u.fans := by rw [heq]; simp
  rw [hfans, hu]
  exact State.handFans_congr (s := s) (by rfl) x

theorem State.startEntered_agrees (h : s.fans.Agrees) : (s.startEntered i).fans.Agrees := by
  rw [State.startEntered_fans hx]
  exact (s.handFans_follows x).fans.agrees h

end

@[simp] theorem State.startEntered_frame (s : State) (i : Nat) :
    (s.startEntered i).powered = s.powered ∧ (s.startEntered i).ready = s.ready ∧
      (s.startEntered i).straps = s.straps ∧ (s.startEntered i).clock = s.clock ∧
      (s.startEntered i).settings = s.settings ∧ (s.startEntered i).scanner = s.scanner ∧
      (s.startEntered i).probes = s.probes ∧ (s.startEntered i).statistics = s.statistics ∧
      (s.startEntered i).schedule = s.schedule ∧ (s.startEntered i).sampler = s.sampler ∧
      (s.startEntered i).interlocks = s.interlocks ∧ (s.startEntered i).history = s.history ∧
      (s.startEntered i).link = s.link ∧ (s.startEntered i).memory = s.memory ∧
      (s.startEntered i).draws = s.draws ∧ (s.startEntered i).pending = s.pending := by
  unfold State.startEntered
  simp

/-! ### The reasons of a start (R85, R98) -/

/-- R85: SENSOR and then QUORUM, each when its source is there. -/
def State.withStartReasons (s : State) (sensor lost : Bool) : State :=
  let t := if sensor then s.addReason .sensor else s
  if lost then t.addReason .quorum else t

def startReasons (sensor lost : Bool) : HoldSet := { HoldSet.empty with sensor := sensor, quorum := lost }

def startHeldNotices (sensor lost : Bool) : List (NoticeKind × Nat × Nat) :=
  (if sensor then [(.runHeld, 4, 1)] else []) ++ if lost then [(.runHeld, 3, (startReasons sensor lost).count)] else []

def Run.heldAtStart (r : Run) (sensor lost : Bool) : Run :=
  { r with state := if sensor || lost then .held else .running, reasons := startReasons sensor lost }

/-- R97: a RUNNING run with no reason is HELD by those that the start adds. -/
theorem State.withStartReasons_eq {s : State} {d : Due} (hd : s.due = { d with checkpoint := true })
    (hs : s.run.state = .running) (hr : s.run.reasons = .empty) (hb : s.run.inBand = false) (sensor lost : Bool) :
    s.withStartReasons sensor lost =
      { s with
        run := s.run.heldAtStart sensor lost, notices := noticesAfter s (startHeldNotices sensor lost) } := by
  have hnone (r : HoldReason) : s.run.reasons.has r = false := by rw [hr]; cases r <;> rfl
  have hadd (r : HoldReason) :
      s.addReason r =
        { s with
          run := { s.run with state := .held, reasons := HoldSet.empty.put r true }
          notices := noticesAfter s [(.runHeld, r.code, (HoldSet.empty.put r true).count)] } := by
    rw [State.addReason_of_running (hnone r) hs]
    refine State.eq_of_blocks ?_
    simp [noticesAfter, hd, hr, ← hb]
  cases sensor with
  | false =>
    cases lost with
    | false =>
      have hrun : s.run.heldAtStart false false = s.run := by
        rw [Run.heldAtStart, show startReasons false false = s.run.reasons from hr.symm]
        simp [← hs]
      rw [hrun]; rfl
    | true => exact hadd .quorum
  | true =>
    cases lost with
    | false => exact hadd .sensor
    | true =>
      show (s.addReason .sensor).addReason .quorum = _
      rw [State.addReason_of_held (by rw [hadd]; rfl) (by rw [hadd]), hadd]
      rfl

/-- R58, R94: the latest publication is without quorum, under HOLD. -/
def State.startsWithoutQuorum (s : State) : Bool :=
  s.statistics.latest.any (fun p => decide (p.quorum = .lost)) && decide (s.settings.quorumAction = .hold)

theorem State.startsWithoutQuorum_iff (s : State) :
    s.startsWithoutQuorum = true ↔
      s.settings.quorumAction = .hold ∧ ∃ p, s.statistics.latest = some p ∧ p.quorum = .lost := by
  simp [State.startsWithoutQuorum, Option.any_eq_true, and_comm]

theorem State.sensorFault_iff (s : State) :
    s.sensorFault = true ↔ ∃ z, s.zoneActive z = true ∧ (s.channels z).db.state = .fault := by
  simp [State.sensorFault, List.any_eq_true, State.mem_activeZones]

theorem State.sensorFault_congr {s t : State} (hz : t.settings = s.settings) (hc : t.sampler = s.sampler) :
    t.sensorFault = s.sensorFault := by
  have hactive : t.zoneActive = s.zoneActive := State.zoneActive_congr (congrArg Settings.zones hz)
  rw [Bool.eq_iff_iff]
  simp only [State.sensorFault_iff, State.channels, hactive, hc]

/-! ### The start (R85) -/

/-- R85: the part before the fans follow. -/
def State.startJudged (s : State) (i : Nat) : State :=
  (s.startEntered i).withStartReasons s.sensorFault s.startsWithoutQuorum

theorem State.startRun_eq (s : State) (i : Nat) : s.startRun i = (s.startJudged i).fansFollowRun := by
  have hsensor : (s.startEntered i).sensorFault = s.sensorFault := State.sensorFault_congr (by simp) (by simp)
  have hlost (t : State) (hs : t.statistics = s.statistics) (hset : t.settings = s.settings) :
      t.startsWithoutQuorum = s.startsWithoutQuorum := by
    rw [State.startsWithoutQuorum, hs, hset]; rfl
  have hstart : s.startRun i =
      (let t := if (s.startEntered i).sensorFault then (s.startEntered i).addReason .sensor else s.startEntered i
       if t.startsWithoutQuorum then t.addReason .quorum else t).fansFollowRun := rfl
  rw [hstart, hsensor]
  simp only
  rw [hlost _ (by split <;> simp) (by split <;> simp)]
  rfl

section
variable {s : State} {i : Nat} {x : StepRecord} (hx : s.schedule.activeSteps[i]? = some x)
include hx

theorem State.startJudged_eq :
    s.startJudged i =
      { s.startEntered i with
        run := (Run.started s.latestFigures i x).heldAtStart s.sensorFault s.startsWithoutQuorum
        notices :=
          noticesAfter s
            ([(.runStarted, i, s.schedule.activeSteps.length), (.stepEntered, i, x.kind.code)] ++
              startHeldNotices s.sensorFault s.startsWithoutQuorum) } := by
  have hrun := State.startEntered_run hx
  rw [State.startJudged, State.withStartReasons_eq (State.startEntered_due hx) (by rw [hrun]; rfl) (by rw [hrun]; rfl)
    (by rw [hrun]; rfl), hrun, noticesAfter_append (s := s) (by simp) (State.startEntered_notices hx)]

theorem State.startJudged_going : (s.startJudged i).run.state.going = true := by
  rw [State.startJudged_eq hx]
  simp only [Run.heldAtStart]
  split <;> rfl

theorem State.startJudged_fans : (s.startJudged i).fans = (s.handFans x).fans := by
  rw [State.startJudged_eq hx]; exact State.startEntered_fans hx

/-- R85, log 9, log 11: the notices of a start. -/
theorem State.startRun_notices (hr : s.ready = true) (h : s.fans.Agrees) :
    (s.startRun i).notices =
      noticesAfter s
        ([(.runStarted, i, s.schedule.activeSteps.length), (.stepEntered, i, x.kind.code)] ++
          startHeldNotices s.sensorFault s.startsWithoutQuorum ++ fanStartNotices s) := by
  have heq := State.startJudged_eq hx
  have hready : (s.startJudged i).ready = true := by rw [heq]; simp [hr]
  have hagrees : (s.startJudged i).fans.Agrees := by rw [heq]; exact State.startEntered_agrees hx h
  have hfans : fanStartNotices (s.startJudged i) = fanStartNotices s :=
    fanStartNotices_congr (by rw [State.startJudged_fans hx]; exact s.handFans_stopped_iff x) (by rw [heq]; simp)
      (by rw [heq]; simp)
  rw [State.startRun_eq, State.fansFollowRun_notices (State.startJudged_going hx) hready hagrees, hfans,
    noticesAfter_append (s := s) (by rw [heq]; simp) (by rw [heq])]

theorem State.startRun_fansStart (hr : s.ready = true) (hs : s.fans.state = .stopped) :
    s.startRun i = (s.startJudged i).fansStart := by
  have hready : (s.startJudged i).ready = true := by rw [State.startJudged_eq hx]; simp [hr]
  rw [State.startRun_eq, State.fansFollowRun_of_stopped (State.startJudged_going hx) hready
    (by rw [State.startJudged_fans hx]; exact (s.handFans_stopped_iff x).2 hs)]

/-- R135, R136: STOPPED fans whose input reads stopped are STARTING with the step's settings. -/
theorem State.startRun_fans (hr : s.ready = true) (hs : s.fans.state = .stopped) (hl : (s.input .fanRun).latch = false)
    (hlive : (s.input .fanRun).live = false) :
    (s.startRun i).fans =
      { s.fans with
        state := .starting, direction := .fwd, speed := x.speed, reversalInterval := x.reversalInterval,
        reversalTimer := 0, confirmTimer := 0, confirmed := false, compareActive := false } := by
  have hinput : (s.startJudged i).input .fanRun = s.input .fanRun := by
    rw [State.startJudged_eq hx]; simp [State.input]
  rw [State.startRun_fansStart hx hr hs, State.fansStart_starting (by rw [hinput, hl]) (by rw [hinput, hlive]),
    State.startJudged_fans hx, State.handFans_of_stopped hs]

theorem State.startRun_fansFailed (hr : s.ready = true) (hs : s.fans.state = .stopped)
    (hl : (s.input .fanRun).latch = true) : (s.startRun i).fans.state = .failed := by
  have hinput : (s.startJudged i).input .fanRun = s.input .fanRun := by
    rw [State.startJudged_eq hx]; simp [State.input]
  rw [State.startRun_fansStart hx hr hs, State.fansStart_failed (by rw [hinput, hl])]

end

/-- Settles O31: the start served, its run record by the two sources of a hold, and its fans. -/
theorem runStartEntersTheFirstStep : Obligations.RunStartEntersTheFirstStep := by
  unfold Obligations.RunStartEntersTheFirstStep
  intro s tag i x h hidle ha hx hclear hz sensor lost entry fans started
  have hindex : i.toNat < s.schedule.activeSteps.length := (List.getElem?_eq_some_iff.1 hx).1
  have huntripped : s.startTripped = false := Bool.eq_false_iff.2 fun hset => by
    obtain ⟨j, hlatch, hlevel⟩ := s.startTripped_iff.1 hset
    exact hlevel.elim (hclear j hlatch).1 (hclear j hlatch).2
  have hzones : s.activeZones ≠ [] := fun hnone => by
    obtain ⟨z, hactive⟩ := hz
    exact absurd hactive (Bool.eq_false_iff.1 (s.activeZones_eq_nil_iff.1 hnone z))
  have hready : s.ready = true := h.2.1
  have heq := State.startJudged_eq hx
  obtain ⟨link, t, ht, hserved, hasks⟩ := run_served (c := .runStart tag [i]) h rfl (by simp) rfl
    (handleRunStart_accept hidle hindex huntripped hzones) (u := s.startRun i.toNat)
    (by rw [State.startRun_eq, heq]; simp) (by rw [State.startRun_eq, heq]; simp)
    (by rw [State.startRun_eq, heq]; simp [State.startEntered_due hx])
  have hjudged (b c : Bool) (hb : s.sensorFault = b) (hc : s.startsWithoutQuorum = c) :
      t.run = started.heldAtStart b c ∧ t.notices = noticesAfter s (entry ++ startHeldNotices b c ++ fans) := by
    rw [← hb, ← hc, ht]
    refine ⟨?_, State.startRun_notices hx hready ha⟩
    rw [State.startRun_eq, heq]
    simp
    rfl
  have hfault (hs : sensor) : s.sensorFault = true := s.sensorFault_iff.2 hs
  have hsound (hs : ¬ sensor) : s.sensorFault = false := Bool.eq_false_iff.2 fun hset => hs (s.sensorFault_iff.1 hset)
  have hlost (hl : lost) : s.startsWithoutQuorum = true := s.startsWithoutQuorum_iff.2 hl
  have hheld (hl : ¬ lost) : s.startsWithoutQuorum = false :=
    Bool.eq_false_iff.2 fun hset => hl (s.startsWithoutQuorum_iff.1 hset)
  refine ⟨t, hserved, State.eq_of_blocks ?_, fun hs hl => hjudged false false (hsound hs) (hheld hl),
    fun hs hl => hjudged true false (hfault hs) (hheld hl), fun hs hl => hjudged false true (hsound hs) (hlost hl),
    fun hs hl => hjudged true true (hfault hs) (hlost hl), hasks, fun z hactive => ?_, fun hs hl hlive => ?_,
    fun hs hl => ?_⟩
  · rw [ht, State.startRun_eq, heq]
    simp
  · have hzones : t.zones = (s.startEntered i.toNat).zones := by rw [ht, State.startRun_eq, heq]; simp
    rw [State.zone, hzones]
    exact State.startEntered_zone hx hactive
  · rw [ht]; exact State.startRun_fans hx hready hs hl hlive
  · rw [ht]; exact State.startRun_fansFailed hx hready hs hl

end Sys2Proof.Machine
end

section
/-! SUPPORT. Forcing sets, cycles and vents agree with their sources (R127 to R132), and no zone sprays and vents at once
(R117): what the agreement looks at, and what brings it about. -/

namespace Sys2Proof.Machine

/-! ### Sources and demands -/

/-- R128, R132: what forcing sets and vents are judged by: the released zones, whether the run is SAFE and the fans run, the
DBs in FAULT, and the vents' safe position. -/
def State.outputSources (s : State) : (ZoneId → Bool) × Bool × Bool × (ZoneId → Bool) × Nat :=
  (s.outputsReleased, decide (s.run.state = .safe), s.fans.state.isRunning, fun z => (s.channels z).db.usable.isNone,
    s.settings.ventSafePosition)

theorem State.forcingFor_congr {s t : State} (h : t.outputSources = s.outputSources) (z : ZoneId) (k : ValveKind) :
    t.forcingFor z k = s.forcingFor z k := by
  simp only [State.outputSources, Prod.mk.injEq] at h
  obtain ⟨hreleased, hsafe, hfans, hdb, -⟩ := h
  simp only [State.forcingFor, hreleased, hsafe, hfans, congrFun hdb z]

theorem State.ventConditionFor_congr {s t : State} (h : t.outputSources = s.outputSources) (z : ZoneId) :
    t.ventConditionFor z = s.ventConditionFor z := by
  simp only [State.outputSources, Prod.mk.injEq, decide_eq_decide] at h
  obtain ⟨hreleased, hsafe, -⟩ := h
  simp only [State.ventConditionFor, hreleased, hsafe]

/-- A zone's spray and vent demands. -/
def State.zoneDemands (s : State) (z : ZoneId) : Nat × Nat := ((s.zone z).sprayDemand, (s.zone z).ventDemand)

theorem State.NoSprayWithVent.congr {s t : State} (h : s.NoSprayWithVent) (hd : t.zoneDemands = s.zoneDemands) :
    t.NoSprayWithVent := by
  intro z
  have hz := congrFun hd z
  simp only [State.zoneDemands, Prod.mk.injEq] at hz
  rw [hz.1, hz.2]
  exact h z

/-- What an operation leaves that moves neither the outputs, nor their sources, nor a demand. -/
structure State.OutputsStand (s t : State) : Prop where
  sources : t.outputSources = s.outputSources
  demands : t.zoneDemands = s.zoneDemands
  outputs : t.outputs = s.outputs

/-- The parts of a state that sources, demands and outputs are read from, but for the run. -/
def State.outputBlocks (s : State) :
    Bool × Zones ZoneSettings × Nat × Zones ZoneChannels × FanState × Zones ZoneLoops × Zones ZoneOutputs :=
  (s.ready, s.settings.zones, s.settings.ventSafePosition, s.sampler.channels, s.fans.state, s.zones, s.outputs)

theorem State.outputSources_congr {s t : State} (hready : t.ready = s.ready) (hactive : t.zoneActive = s.zoneActive)
    (hrun : t.run.state = .safe ↔ s.run.state = .safe) (hfans : t.fans.state = s.fans.state)
    (hchannels : t.sampler.channels = s.sampler.channels)
    (hposition : t.settings.ventSafePosition = s.settings.ventSafePosition) : t.outputSources = s.outputSources := by
  have hreleased : t.outputsReleased = s.outputsReleased := by
    funext z
    simp only [State.outputsReleased, hready, hactive]
  simp only [State.outputSources, State.channels, hreleased, hrun, hfans, hchannels, hposition]

theorem State.OutputsStand.of_blocks {s t : State} (h : t.outputBlocks = s.outputBlocks)
    (hr : t.run.state = .safe ↔ s.run.state = .safe) : s.OutputsStand t := by
  simp only [State.outputBlocks, Prod.mk.injEq] at h
  obtain ⟨hready, hsettings, hposition, hchannels, hfans, hzones, houtputs⟩ := h
  have hactive : t.zoneActive = s.zoneActive := State.zoneActive_congr hsettings
  refine ⟨State.outputSources_congr hready hactive hr hfans hchannels hposition, ?_, houtputs⟩
  funext z
  simp only [State.zoneDemands, State.zone, hzones]

theorem State.OutputsSound.of_stand {s t : State} (h : s.OutputsSound) (hst : s.OutputsStand t) : t.OutputsSound := by
  obtain ⟨hsources, hdemands, houtputs⟩ := hst
  obtain ⟨hforcing, hvalves, hvents, hspray⟩ := h
  have hposition : t.settings.ventSafePosition = s.settings.ventSafePosition := congrArg (·.2.2.2.2) hsources
  refine ⟨fun z k => ?_, fun z k => houtputs ▸ hvalves z k, fun z => ?_, hspray.congr hdemands⟩
  · rw [houtputs, State.forcingFor_congr hsources]; exact hforcing z k
  · rw [houtputs, State.ventConditionFor_congr hsources, hposition]; exact hvents z

/-- An operation on other parts of the state. -/
theorem State.OutputsSound.congr {s t : State} (h : s.OutputsSound) (hb : t.outputBlocks = s.outputBlocks)
    (hr : t.run.state = .safe ↔ s.run.state = .safe) : t.OutputsSound := h.of_stand (.of_blocks hb hr)

/-! ### Outputs refreshed (R128, R130, R132) -/

/-- R127, R117: all that a refresh of the outputs asks for: sound valves, and no zone that sprays and vents. -/
def State.Refreshable (s : State) : Prop := s.ValvesSound ∧ s.NoSprayWithVent

theorem State.OutputsSound.refreshable {s : State} (h : s.OutputsSound) : s.Refreshable := by
  obtain ⟨-, hvalves, -, hspray⟩ := h
  exact ⟨hvalves, hspray⟩

theorem State.Refreshable.congr {s t : State} (h : s.Refreshable) (ho : t.outputs = s.outputs)
    (hd : t.zoneDemands = s.zoneDemands) : t.Refreshable := ⟨fun z k => ho ▸ h.1 z k, h.2.congr hd⟩

/-- R128, R130, R132: a source has changed, and the outputs follow. -/
theorem State.Refreshable.refresh {s : State} (h : s.Refreshable) : s.refreshOutputs.OutputsSound := by
  refine ⟨s.refreshOutputs_forcing, fun z k => ?_, fun z => ?_, h.2⟩
  · have hvalve : (s.refreshOutputs.outputs.get z).valve k =
        ((s.outputs.get z).valve k).refresh (s.settings.period k) (s.forcingFor z k) := by
      simp only [State.refreshOutputs, zones_get_map]
      cases k <;> rfl
    rw [hvalve]
    exact Valve.refresh_sound _ _ _ (h.1 z k)
  · rw [s.refreshOutputs_vent]
    exact ⟨rfl, rfl⟩

/-! ### Valves and vents that move by themselves -/

/-- R129, R130: what a cycle does to its valve. -/
def Valve.Moves (v v' : Valve) : Prop := v.Sound → v'.Sound ∧ v'.forcing = v.forcing

/-- A zone's outputs move while the sources stand: each valve keeps its forcing set, and the vent its condition. -/
structure ZoneOutputs.Moves (position : Nat) (o o' : ZoneOutputs) : Prop where
  valve : ∀ k, (o.valve k).Moves (o'.valve k)
  condition : o'.vent.condition = o.vent.condition
  current : o.vent.current = commandedCurrent o.vent.condition o.vent.demand position →
    o'.vent.current = commandedCurrent o.vent.condition o'.vent.demand position

theorem Valve.Moves.refl (v : Valve) : v.Moves v := fun h => ⟨h, rfl⟩

theorem ZoneOutputs.Moves.refl (position : Nat) (o : ZoneOutputs) : o.Moves position o := ⟨fun _ => .refl _, rfl, id⟩

theorem ZoneOutputs.Moves.of_valves {position : Nat} {o o' : ZoneOutputs} (h : ∀ k, (o.valve k).Moves (o'.valve k))
    (hv : o'.vent = o.vent) : o.Moves position o' := ⟨h, by rw [hv], by rw [hv]; exact id⟩

theorem ZoneOutputs.Moves.setValve {position : Nat} {o : ZoneOutputs} {k : ValveKind} {v : Valve}
    (h : (o.valve k).Moves v) : o.Moves position (o.setValve k v) := by
  cases k
  case heat => exact .of_valves (fun j => by cases j; exacts [h, .refl _]) rfl
  case spray => exact .of_valves (fun j => by cases j; exacts [.refl _, h]) rfl

/-- R122: demands handed over; the vent follows at once. -/
theorem ZoneOutputs.Moves.handedOver (loops : ZoneLoops) (position : Nat) (o : ZoneOutputs) :
    o.Moves position (handedOver loops position o) :=
  ⟨fun k => by cases k <;> exact Valve.Moves.refl _, rfl, fun _ => rfl⟩

theorem Valve.startCycle_moves {v : Valve} {c : Cycle} (hc : v.cycle = some c) (p : Nat) : v.Moves (v.startCycle p) := by
  intro h
  have hfree : v.forcing.any = false := by simpa [hc] using h.1
  exact ⟨⟨by simp [Valve.startCycle, hfree], by simp [Valve.startCycle, hfree]⟩, rfl⟩

theorem Valve.reachPeriod_moves (v : Valve) (p : Nat) : v.Moves (v.reachPeriod p) := by
  unfold Valve.reachPeriod
  split
  · exact Valve.startCycle_moves ‹_› p
  · exact .refl v

theorem Valve.restartCycle_moves (v : Valve) (p : Nat) : v.Moves (v.restartCycle p) := v.reachPeriod_moves p

theorem Valve.reachOnTime_moves (v : Valve) : v.Moves v.reachOnTime := by
  unfold Valve.reachOnTime
  split
  · rename_i c hc
    split
    · exact fun h => ⟨⟨by simpa [hc] using h.1, fun _ => rfl⟩, rfl⟩
    · exact .refl v
  · exact .refl v

theorem Valve.tick_moves (v : Valve) : v.Moves v.tick := by
  cases hc : v.cycle with
  | none => simp only [Valve.tick, hc]; exact .refl v
  | some c =>
    have hcounts (x : Cycle) : v.Moves { v with cycle := some x } := fun h => ⟨⟨by simpa [hc] using h.1, h.2⟩, rfl⟩
    simp only [Valve.tick, hc]
    generalize (if c.elapsed < c.onTime then c.onTime else 10 * c.period) = bound
    split
    · exact hcounts _
    · exact .refl v

theorem zones_forall_set {α : Type} {P : ZoneId → α → Prop} {x : Zones α} (h : ∀ y, P y (x.get y)) {z : ZoneId} {a : α}
    (ha : P z a) (y : ZoneId) : P y ((x.set z a).get y) := by
  by_cases hy : y = z
  · subst hy; rw [zones_get_set_self]; exact ha
  · rw [zones_get_set_ne _ _ _ _ hy]; exact h y

/-- The outputs of a part move while their sources and the demands of the zones stand. -/
def State.OutputsMove (s : State) (x : Zones ZoneOutputs) : Prop :=
  ∀ z, (s.outputs.get z).Moves s.settings.ventSafePosition (x.get z)

/-- The outputs of one zone move. -/
theorem State.OutputsMove.set (s : State) {z : ZoneId} {o : ZoneOutputs}
    (h : (s.outputs.get z).Moves s.settings.ventSafePosition o) : s.OutputsMove (s.outputs.set z o) :=
  zones_forall_set (P := fun y o' => (s.outputs.get y).Moves s.settings.ventSafePosition o') (fun _ => .refl _ _) h

theorem State.Refreshable.of_moves {s : State} (h : s.Refreshable) {x : Zones ZoneOutputs} (hx : s.OutputsMove x) :
    ({ s with outputs := x } : State).Refreshable := ⟨fun z k => ((hx z).valve k (h.1 z k)).1, h.2⟩

theorem State.OutputsSound.of_moves {s : State} (h : s.OutputsSound) {x : Zones ZoneOutputs} (hx : s.OutputsMove x) :
    ({ s with outputs := x } : State).OutputsSound := by
  obtain ⟨hforcing, hvalves, hvents, hspray⟩ := h
  refine ⟨fun z k => ?_, fun z k => ((hx z).valve k (hvalves z k)).1, fun z => ?_, hspray⟩
  · exact ((hx z).valve k (hvalves z k)).2.trans (hforcing z k)
  · obtain ⟨hcondition, hcurrent⟩ := hvents z
    rw [← hcondition] at hcurrent
    have hmoved := (hx z).current hcurrent
    rw [hcondition] at hmoved
    exact ⟨(hx z).condition.trans hcondition, hmoved⟩

section
variable (s : State)

theorem State.mapValve_moves (z : ZoneId) (k : ValveKind) {f : Valve → Valve} (hf : ∀ v : Valve, v.Moves (f v)) :
    s.OutputsMove (s.mapValve z k f).outputs := .set s (.setValve (hf _))

theorem State.tickValves_moves : s.OutputsMove s.tickValves.outputs := by
  intro z
  simp only [State.tickValves, zones_get_map]
  exact .of_valves (fun k => by cases k <;> exact Valve.tick_moves _) rfl

theorem State.handDemands_moves (z : ZoneId) : s.OutputsMove (s.handDemands z).outputs := .set s (.handedOver _ _ _)

theorem State.handAllDemands_moves : s.OutputsMove s.handAllDemands.outputs := by
  intro z
  simp only [State.handAllDemands, zones_get_map]
  exact .handedOver _ _ _

theorem State.restartCycles_moves (z : ZoneId) : s.OutputsMove (s.restartCycles z).outputs :=
  .set s (.of_valves (fun k => by cases k <;> exact Valve.restartCycle_moves _ _) rfl)

end

end Sys2Proof.Machine
end

section
/-! SUPPORT. The operations of the fans, the zones, the run and the interlocks keep the agreement of the outputs
(EveryStepKeepsTheOutputsSafe). -/

namespace Sys2Proof.Machine

/-! ### The fans (R134 to R140) -/

section
variable (s : State) (h : s.Refreshable)
include h

theorem State.fansEnterStopped_outputs : s.fansEnterStopped.OutputsSound :=
  State.Refreshable.refresh (s := { s with fans := _ }) h

theorem State.fansEnterCoasting_outputs : s.fansEnterCoasting.OutputsSound :=
  State.Refreshable.refresh (s := { s with fans := _ }) h

theorem State.fansEnterFailed_outputs : s.fansEnterFailed.OutputsSound := by
  simp only [State.fansEnterFailed]
  split <;> exact State.Refreshable.refresh h

end

section
variable (s : State) (h : s.OutputsSound)
include h

theorem State.checkReversal_outputs : s.checkReversal.OutputsSound := by
  unfold State.checkReversal
  split
  · exact s.fansEnterCoasting_outputs h.refreshable
  · exact h

omit h in
theorem State.fansEnterRunning_outputs (h : s.Refreshable) : s.fansEnterRunning.OutputsSound :=
  State.checkReversal_outputs _ (State.Refreshable.refresh (s := { s with fans := _ }) h)

omit h in
theorem State.fansEnterStarting_outputs (h : s.Refreshable) : s.fansEnterStarting.OutputsSound := by
  have hstarting : ({ s with fans :=
      { s.fans with state := .starting, compareActive := false, confirmTimer := 0, confirmed := false } } :
      State).refreshOutputs.OutputsSound := State.Refreshable.refresh h
  simp only [State.fansEnterStarting]
  split
  · exact State.fansEnterRunning_outputs _ hstarting.refreshable
  · exact hstarting

theorem State.fansFollowRun_outputs : s.fansFollowRun.OutputsSound := by
  unfold State.fansFollowRun
  split
  · split
    · simp only [State.fansStart]
      split
      · exact State.fansEnterFailed_outputs { s with fans := _ } h.refreshable
      · exact State.fansEnterStarting_outputs { s with fans := _ } h.refreshable
    · exact h
  · exact s.fansEnterStopped_outputs h.refreshable

theorem State.fansOnLatchSet_outputs : s.fansOnLatchSet.OutputsSound := by
  unfold State.fansOnLatchSet
  cases s.fans.state with
  | starting | runningFwd | runningRev => exact s.fansEnterFailed_outputs h.refreshable
  | stopped | coasting | failed => exact h

omit h in
theorem State.Refreshable.fansOnLatchSet {s : State} (h : s.Refreshable) : s.fansOnLatchSet.Refreshable := by
  unfold State.fansOnLatchSet
  cases s.fans.state with
  | starting | runningFwd | runningRev => exact (s.fansEnterFailed_outputs h).refreshable
  | stopped | coasting | failed => exact h

theorem State.fansOnLatchClear_outputs : s.fansOnLatchClear.OutputsSound := by
  unfold State.fansOnLatchClear
  split
  · split
    · exact s.fansEnterStarting_outputs h.refreshable
    · exact s.fansEnterStopped_outputs h.refreshable
  all_goals exact h

theorem State.fansOnInput_outputs : s.fansOnInput.OutputsSound := by
  unfold State.fansOnInput
  split
  · split
    · exact State.fansEnterRunning_outputs { s with fans := _ } h.refreshable
    all_goals exact h
  · exact h

theorem State.handFans_outputs (x : StepRecord) : (s.handFans x).OutputsSound :=
  State.checkReversal_outputs _ (h.congr rfl .rfl)

theorem State.takeCoastEnd_outputs : s.takeCoastEnd.OutputsSound := by
  unfold State.takeCoastEnd
  split
  · exact State.fansEnterStarting_outputs { s with fans := _ } h.refreshable
  · exact h

/-! ### Hold reasons (R97, R98) -/

theorem State.queueNotice_outputs (k : NoticeKind) (a b : Nat) : (s.queueNotice k a b).OutputsSound := h.congr rfl .rfl

theorem State.wantCheckpoint_outputs : s.wantCheckpoint.OutputsSound := h.congr rfl .rfl

/-- R97: a reason puts a run in HELD or back in RUNNING, never in SAFE. -/
theorem State.addReason_outputs (r : HoldReason) : (s.addReason r).OutputsSound := by
  refine h.congr (by simp [State.outputBlocks]) ?_
  obtain ⟨-, heq⟩ | ⟨-, -, hstate⟩ := s.addReason_cases r
  · rw [heq]
  · rw [hstate]
    split
    · rename_i hs; simp [hs]
    · rfl

theorem State.resumeIfEmpty_outputs : s.resumeIfEmpty.OutputsSound := by
  unfold State.resumeIfEmpty
  split
  · rename_i hresumes
    simp only [Bool.and_eq_true, decide_eq_true_eq] at hresumes
    exact h.congr rfl (by simp [hresumes.2])
  · exact h

theorem State.removeReason_outputs (r : HoldReason) : (s.removeReason r).OutputsSound := by
  unfold State.removeReason
  split
  · exact State.resumeIfEmpty_outputs _ (h.congr rfl .rfl)
  · exact h

theorem State.judgeReason_outputs (r : HoldReason) (present : Bool) : (s.judgeReason r present).OutputsSound := by
  unfold State.judgeReason
  split
  · split
    · exact s.addReason_outputs h r
    · exact s.removeReason_outputs h r
  · exact h

theorem State.resumeRun_outputs : s.resumeRun.OutputsSound :=
  State.wantCheckpoint_outputs _ (State.resumeIfEmpty_outputs _ (h.congr rfl .rfl))

/-! ### SAFE and the latches (R101, R140, R147) -/

theorem State.runOnLatchSignal_outputs (i : Input) : (s.runOnLatchSignal i).OutputsSound := by
  unfold State.runOnLatchSignal
  refine State.judgeReason_outputs _ ?_ _ _
  split
  · rw [State.enterSafe_eq]
    exact State.fansEnterStopped_outputs _ h.refreshable
  · exact h

/-- R101, R140: the outputs follow with the fans, which a SAFE run stops. -/
theorem State.safeThenFanLatch_outputs : s.safeThenFanLatch.OutputsSound := by
  unfold State.safeThenFanLatch
  rw [State.fansFollowRun_of_over (by simp [State.runEntersSafe_going])]
  have hsafe : (s.runEntersSafe .fanRun).Refreshable := h.refreshable
  exact State.judgeReason_outputs _ (State.fansEnterStopped_outputs _ hsafe.fansOnLatchSet) _ _

theorem State.signalLatchSet_outputs (i : Input) : (s.signalLatchSet i).OutputsSound := by
  have hdrawn : s.drawn.OutputsSound := h.congr rfl .rfl
  unfold State.signalLatchSet
  split
  · split
    · exact State.runOnLatchSignal_outputs _ (s.drawn.fansOnLatchSet_outputs hdrawn) i
    · split
      · exact s.drawn.safeThenFanLatch_outputs hdrawn
      · exact State.fansOnLatchSet_outputs _ (s.drawn.runOnLatchSignal_outputs hdrawn i)
    · exact State.fansOnLatchSet_outputs _ (s.drawn.runOnLatchSignal_outputs hdrawn i)
  · exact s.runOnLatchSignal_outputs h i

theorem State.trip_outputs (i : Input) : (s.trip i).OutputsSound := by
  simp only [State.trip]
  split
  · exact s.queueNotice_outputs h _ _ _
  · refine State.signalLatchSet_outputs _ ?_ i
    exact h.congr rfl .rfl

theorem State.judgeTrip_outputs (i : Input) (conformed wasJudged : Bool) :
    (s.judgeTrip i conformed wasJudged).OutputsSound := by
  unfold State.judgeTrip
  split
  · exact s.trip_outputs h i
  · exact h

theorem State.changeLive_outputs (i : Input) (closed : Bool) : (s.changeLive i closed).OutputsSound := by
  have hset : (s.setInput i { s.input i with live := closed }).OutputsSound := h.congr rfl .rfl
  simp only [State.changeLive]
  split
  · exact h
  · split
    · exact State.fansOnInput_outputs _ (State.judgeTrip_outputs _ hset _ _ _)
    · exact State.judgeTrip_outputs _ hset _ _ _

theorem State.configureInput_outputs (i : Input) (x : InputSettings) : (s.configureInput i x).OutputsSound := by
  have hjudged := State.judgeTrip_outputs
    { s with settings := { s.settings with interlocks := s.settings.interlocks.set i x } } (h.congr rfl .rfl) i
    (s.conforms i) (s.judged i)
  simp only [State.configureInput]
  split
  · exact State.runOnLatchSignal_outputs _ hjudged i
  · exact hjudged

theorem State.clearLatch_outputs (i : Input) : (s.clearLatch i).OutputsSound := by
  have hsignalled := State.runOnLatchSignal_outputs
    (s.setInput i { s.input i with latch := false, trippedAt := none }) (h.congr rfl .rfl) i
  simp only [State.clearLatch, State.signalLatchClear]
  split
  · exact State.fansOnLatchClear_outputs _ hsignalled
  · exact hsignalled

theorem State.takeConfirmExpiry_outputs : s.takeConfirmExpiry.OutputsSound := by
  have hexpects : ({ s with fans := { s.fans with expectRunning := true, compareActive := true } } : State).OutputsSound :=
    h.congr rfl .rfl
  unfold State.takeConfirmExpiry
  split
  · simp only [State.expireConfirm]
    split
    · exact State.fansEnterRunning_outputs _ hexpects.refreshable
    · exact State.judgeTrip_outputs _ hexpects _ _ _
  · exact h

/-! ### Steps (R83, R86, R95, R96) -/

omit h in
/-- R116: a zone that takes targets keeps its demands. -/
theorem State.zonesTakeStep_demands (x : StepRecord) (origin : ZoneId → Int) :
    (s.zonesTakeStep x origin).zoneDemands = s.zoneDemands := by
  funext z
  simp only [State.zonesTakeStep, State.zoneDemands, State.zone, zones_get_map]
  split <;> rfl

omit h in
theorem State.zonesRetarget_demands (x : StepRecord) : (s.zonesRetarget x).zoneDemands = s.zoneDemands := by
  funext z
  simp only [State.zonesRetarget, State.zoneDemands, State.zone, zones_get_map]
  split <;> rfl

theorem State.zonesTakeStep_outputs (x : StepRecord) (origin : ZoneId → Int) :
    (s.zonesTakeStep x origin).OutputsSound :=
  h.of_stand ⟨rfl, s.zonesTakeStep_demands x origin, rfl⟩

theorem State.zonesRetarget_outputs (x : StepRecord) : (s.zonesRetarget x).OutputsSound :=
  h.of_stand ⟨rfl, s.zonesRetarget_demands x, rfl⟩

theorem State.latchSpread_outputs (x : StepRecord) : (s.latchSpread x).OutputsSound := by
  unfold State.latchSpread
  split
  · exact h.congr rfl .rfl
  · exact h

theorem State.enterStepFrom_outputs (i : Nat) (origin : StepRecord → ZoneId → Int) :
    (s.enterStepFrom i origin).OutputsSound := by
  unfold State.enterStepFrom
  split
  · exact h
  · have hentering : ({ s with run := s.run.entering i } : State).OutputsSound := h.congr rfl .rfl
    exact State.wantCheckpoint_outputs _ <| State.queueNotice_outputs _
      (State.latchSpread_outputs _ (State.handFans_outputs _ (State.zonesTakeStep_outputs _ hentering _ _) _) _) _ _ _

/-- R83, R122: at a run end no zone sprays or vents, and the fans stop. -/
theorem State.endRun_outputs {final : RunState} (hf : final.going = false) : (s.endRun final).OutputsSound := by
  rw [State.endRun, State.fansFollowRun_of_over (by simpa using hf)]
  refine State.fansEnterStopped_outputs _ (State.Refreshable.of_moves (s := { s with run := _, zones := _ }) ?_
    (State.handAllDemands_moves _))
  exact ⟨h.2.1, fun z => .inl (by simp [State.zone, ZoneLoops.zeroDemands])⟩

theorem State.completeRun_outputs : s.completeRun.OutputsSound := by
  have hcompletion : ({ s with run := { s.run with completion := some s.completionNow } } : State).OutputsSound :=
    h.congr rfl .rfl
  exact State.wantCheckpoint_outputs _ (State.queueNotice_outputs _ (State.endRun_outputs _ hcompletion rfl) _ _ _)

theorem State.stepEnd_outputs : s.stepEnd.OutputsSound := by
  simp only [State.stepEnd]
  split
  · rename_i a _
    have htaken : (s.adoptionTaken a).OutputsSound := h.congr rfl .rfl
    exact State.enterStepFrom_outputs _ htaken _ _
  · split
    · exact s.completeRun_outputs h
    · exact s.enterStepFrom_outputs h _ _

theorem State.abortRun_outputs : s.abortRun.OutputsSound := by
  have hdropped : ({ s with schedule := { s.schedule with adoption := none } } : State).OutputsSound := h.congr rfl .rfl
  exact State.wantCheckpoint_outputs _ (State.queueNotice_outputs _ (State.endRun_outputs _ hdropped rfl) _ _ _)

theorem State.adoptNow_outputs (target : Nat) (restart : Bool) : (s.adoptNow target restart).OutputsSound := by
  have hindex : ({ s with schedule := s.schedule.exchange, run := { s.run with stepIndex := some target } } :
      State).OutputsSound := h.congr rfl .rfl
  simp only [State.adoptNow]
  refine State.wantCheckpoint_outputs _ (State.queueNotice_outputs _ ?_ _ _ _)
  split
  · exact hindex
  · refine State.handFans_outputs _ ?_ _
    split
    · exact State.zonesTakeStep_outputs _ (hindex.congr rfl .rfl) _ _
    · exact State.zonesRetarget_outputs _ hindex _

theorem State.adopt_outputs (atStepEnd : Bool) (target : Nat) (restart : Bool) :
    (s.adopt atStepEnd target restart).OutputsSound := by
  unfold State.adopt
  split
  · exact h.congr rfl .rfl
  · split
    · exact s.adoptNow_outputs h target restart
    · exact h.congr rfl .rfl

/-- R84, R85: a run that starts has not been SAFE. -/
theorem State.startRun_outputs (hr : s.run.state.inProgress = false) (i : Nat) : (s.startRun i).OutputsSound := by
  have hreason (b : Bool) (r : HoldReason) (t : State) (ht : t.OutputsSound) :
      (if b then t.addReason r else t).OutputsSound := by
    split
    · exact t.addReason_outputs ht r
    · exact ht
  have hstarting : ({ s with run := s.run.starting } : State).OutputsSound :=
    h.congr rfl (iff_of_false (by simp [Run.starting]) fun hs => by simp [hs, RunState.inProgress] at hr)
  exact State.fansFollowRun_outputs _ <| hreason _ _ _ <| hreason _ _ _ <|
    State.enterStepFrom_outputs _ (State.queueNotice_outputs _ hstarting _ _ _) i _

theorem State.restartRun_outputs : s.restartRun.OutputsSound :=
  State.fansFollowRun_outputs _ (State.Refreshable.refresh h.refreshable)

/-! ### Advance tests (R88 to R93) -/

theorem State.testAtPublication_outputs (f : Option McFigures) : (s.testAtPublication f).OutputsSound := by
  have hmet : ({ s with run := { s.run with mcMet := true } } : State).OutputsSound := h.congr rfl .rfl
  simp only [State.testAtPublication]
  split
  · exact h
  · split
    case h_1 | h_2 =>
      split
      · exact s.stepEnd_outputs h
      · exact h
    case h_3 =>
      split <;> split
      · exact State.stepEnd_outputs _ hmet
      · exact hmet
      · exact s.stepEnd_outputs h
      · exact h
    all_goals exact h

theorem State.testAtSet_outputs : s.testAtSet.OutputsSound := by
  unfold State.testAtSet
  split
  · exact h
  · split
    · unfold State.judgeSettle
      split
      · exact h.congr rfl .rfl
      · split <;> exact h.congr rfl .rfl
    · split
      · exact s.stepEnd_outputs h
      · exact h
    all_goals exact h

theorem State.takeHours_outputs : s.takeHours.OutputsSound := by
  unfold State.takeHours
  split
  · split
    · exact State.stepEnd_outputs s.judgementsOver (h.congr rfl .rfl)
    · exact h.congr rfl .rfl
  · exact h

theorem State.takeSettle_outputs : s.takeSettle.OutputsSound := by
  unfold State.takeSettle
  split
  · split
    · exact State.stepEnd_outputs s.judgementsOver (h.congr rfl .rfl)
    · exact h.congr rfl .rfl
  · exact h

theorem State.timeOut_outputs (x : StepRecord) : (s.timeOut x).OutputsSound := by
  unfold State.timeOut
  split
  · exact State.stepEnd_outputs _ (s.queueNotice_outputs h _ _ _)
  · exact (s.addReason_outputs h _).congr rfl .rfl
  · exact h

theorem State.takeTimeout_outputs : s.takeTimeout.OutputsSound := by
  have hbefore := s.takeHours.takeSettle_outputs (s.takeHours_outputs h)
  simp only [State.takeTimeout]
  split
  · split
    · refine State.timeOut_outputs _ ?_ _
      exact hbefore.congr rfl .rfl
    · exact hbefore.congr rfl .rfl
  · exact hbefore

theorem State.countSecond_outputs : s.countSecond.OutputsSound := by
  have hseconds (f : Fans) : f.countSecond.state = f.state := by
    unfold Fans.countSecond; split <;> rfl
  have hminutes (f : Fans) : f.countMinute.state = f.state := by
    unfold Fans.countMinute; split <;> rfl
  have hsampler (x : Sampler) : x.countSecond.channels = x.channels := by
    unfold Sampler.countSecond; split <;> rfl
  have hchannels : (if s.ready then s.sampler.countSecond else s.sampler).channels = s.sampler.channels := by
    split
    · exact hsampler _
    · rfl
  simp only [State.countSecond]
  split
  · exact h.congr (by simp only [State.outputBlocks, hchannels, hseconds]) .rfl
  · refine h.congr ?_ .rfl
    simp [State.outputBlocks, State.countMinute, State.runCountMinute, hchannels, hseconds, hminutes]

end

end Sys2Proof.Machine
end

section
/-! EveryStepKeepsTheOutputsSafe: scans, sample sets, the requests and the load keep the agreement of the outputs, so every
operation of the commands does; and what the agreement says of a valve that is ON. -/

namespace Sys2Proof.Machine

/-! ### Publications and scans (R9 to R11, R56, R155) -/

section
variable (s : State) (h : s.OutputsSound)
include h

theorem State.setScanner_outputs (x : Scanner) : (s.setScanner x).OutputsSound := h.congr rfl .rfl

theorem State.publish_outputs (n : Nat) : (s.publish n).OutputsSound := by
  have hkept : ((s.noticeQuorum (s.publicationNow n)).keepPublication (s.publicationNow n)).OutputsSound :=
    h.congr (by simp [State.outputBlocks]) (by simp)
  exact (State.testAtPublication_outputs _ (State.judgeReason_outputs _ hkept _ _) _).congr rfl .rfl

theorem State.publishScan_outputs : s.publishScan.OutputsSound :=
  State.publish_outputs _ (s.setScanner_outputs h _) _

theorem State.startScan_outputs : s.startScan.OutputsSound := by
  cases hn : s.nextProbe 0 with
  | some p => rw [s.startScan_of_next hn]; exact s.setScanner_outputs h _
  | none =>
    rw [s.startScan_of_none hn]
    exact State.setScanner_outputs _ (State.publishScan_outputs _ (s.setScanner_outputs h _)) _

theorem State.completeScan_outputs : s.completeScan.OutputsSound := by
  have hpublished := s.publishScan_outputs h
  cases hd : s.scanner.startDue with
  | true => rw [s.completeScan_of_due hd]; exact State.startScan_outputs _ hpublished
  | false => rw [s.completeScan_of_not_due hd]; exact State.setScanner_outputs _ hpublished _

theorem State.advanceScan_outputs (after : Fin 48) : (s.advanceScan after).OutputsSound := by
  cases hn : s.nextProbe (probeNumber after) with
  | some p => rw [State.advanceScan_of_next hn]; exact s.setScanner_outputs h _
  | none => rw [State.advanceScan_of_none hn]; exact s.completeScan_outputs h

theorem State.discardFor_outputs (p : Fin 48) : (s.discardFor p).OutputsSound := by
  unfold State.discardFor
  split
  · exact s.advanceScan_outputs h p
  · exact h

theorem State.discardAny_outputs : s.discardAny.OutputsSound := by
  unfold State.discardAny
  split
  · exact s.advanceScan_outputs h _
  · exact h

theorem State.endMeasurement_outputs (m : Measurement) (outcome : Outcome) (nPlus : Nat) (nMinus : Option Nat) :
    (s.endMeasurement m outcome nPlus nMinus).OutputsSound := by
  refine State.advanceScan_outputs _ ?_ _
  exact h.congr (by simp [State.outputBlocks]) (by simp)

theorem State.countEnds_outputs (n : Nat) : (s.countEnds n).OutputsSound := by
  unfold State.countEnds
  split
  · split
    · unfold State.positiveCount
      split
      · exact s.endMeasurement_outputs h _ _ _ _
      · exact s.setScanner_outputs h _
      · exact s.setScanner_outputs h _
    · exact s.endMeasurement_outputs h _ _ _ _
    · exact h
  · exact h

theorem State.takeScanExpiry_outputs : s.takeScanExpiry.OutputsSound := by
  unfold State.takeScanExpiry
  split
  · split
    · exact s.startScan_outputs h
    · exact s.setScanner_outputs h _
    · exact h
  · exact h

theorem State.scanEnabled_outputs : s.scanEnabled.OutputsSound := by
  unfold State.scanEnabled
  split
  · exact s.startScan_outputs h
  · exact s.setScanner_outputs h _
  · exact h

theorem State.scanDisabled_outputs : s.scanDisabled.OutputsSound := h.congr (by simp [State.outputBlocks]) (by simp)

theorem State.intervalChanged_outputs : s.intervalChanged.OutputsSound := by
  unfold State.intervalChanged
  split
  · split
    · exact s.startScan_outputs h
    · exact h
  · split
    · exact s.setScanner_outputs h _
    · exact h
  · exact h

theorem State.writeScanConfig_outputs (interval : Nat) (enable : Bool) (tolerance : Nat) :
    (s.writeScanConfig interval enable tolerance).OutputsSound := by
  have hset : (s.withScan interval enable tolerance).OutputsSound := h.congr rfl .rfl
  simp only [State.writeScanConfig]
  split
  · split
    · exact State.scanEnabled_outputs _ hset
    · exact State.scanDisabled_outputs _ hset
    all_goals exact hset
  · refine State.intervalChanged_outputs _ ?_
    split
    · exact State.scanEnabled_outputs _ hset
    · exact State.scanDisabled_outputs _ hset
    all_goals exact hset

end

/-! ### Sample sets (R109 to R119) -/

/-- R117: a zone's demand of u is a spray or a vent demand, not both. -/
theorem sprayVent_either {before : ZoneLoops} (h : before.sprayDemand = 0 ∨ before.ventDemand = 0) (humidity : Loop) :
    (sprayVent before humidity).1 = 0 ∨ (sprayVent before humidity).2 = 0 := by
  unfold sprayVent
  split
  · exact .inl rfl
  · exact h
  all_goals simp only [Int.toNat_eq_zero]; omega

theorem State.NoSprayWithVent.setZone {s : State} (h : s.NoSprayWithVent) (z : ZoneId) {x : ZoneLoops}
    (hx : x.sprayDemand = 0 ∨ x.ventDemand = 0) : (s.setZone z x).NoSprayWithVent :=
  zones_forall_set (P := fun _ (x : ZoneLoops) => x.sprayDemand = 0 ∨ x.ventDemand = 0) h hx

theorem State.Refreshable.setZone {s : State} (h : s.Refreshable) (z : ZoneId) {x : ZoneLoops}
    (hx : x.sprayDemand = 0 ∨ x.ventDemand = 0) : (s.setZone z x).Refreshable := ⟨h.1, h.2.setZone z hx⟩

theorem State.Refreshable.recomputeSetpoint {s : State} (h : s.Refreshable) (z : ZoneId) :
    (s.recomputeSetpoint z).Refreshable := by
  simp only [State.recomputeSetpoint]
  split
  · exact h.setZone z (h.2 z)
  · exact h

/-- R113 to R119: the zones take a sample set. -/
theorem State.Refreshable.zonesTakeSet {s : State} (h : s.Refreshable) : s.zonesTakeSet.Refreshable := by
  refine State.Refreshable.of_moves ?_ (State.handAllDemands_moves _)
  refine List.foldlRecOn (motive := State.Refreshable) _ _ h fun t ht z _ => ?_
  have hset := ht.recomputeSetpoint z
  exact hset.setZone z (sprayVent_either (hset.2 z) _)

theorem State.takeSet_outputs (s : State) (h : s.OutputsSound) (x : Zones ZoneSamples) : (s.takeSet x).OutputsSound := by
  have hsampled : (({ s with sampler := s.sampler.takeMark } : State).sampleChannels x).Refreshable :=
    h.refreshable.congr (by simp) (by funext z; simp [State.zoneDemands, State.zone])
  exact State.testAtSet_outputs _ (State.judgeReason_outputs _ hsampled.zonesTakeSet.refresh _ _)

/-! ### The zones' requests (R121 to R125, R141) -/

section
variable (s : State) (h : s.OutputsSound)
include h

theorem State.OutputsSound.setZone (z : ZoneId) {x : ZoneLoops} (hx : x.sprayDemand = 0 ∨ x.ventDemand = 0) :
    (s.setZone z x).OutputsSound := by
  obtain ⟨hforcing, hvalves, hvents, hspray⟩ := h
  exact ⟨hforcing, hvalves, hvents, hspray.setZone z hx⟩

/-- A zone's settings replaced by others with its active flag. -/
theorem State.setZoneSettings_outputs (z : ZoneId) {g : ZoneSettings} (hg : g.active = s.zoneActive z) :
    (s.setZoneSettings z g).OutputsSound := by
  have hactive : (s.setZoneSettings z g).zoneActive = s.zoneActive :=
    funext (zones_forall_set (P := fun y (x : ZoneSettings) => x.active = s.zoneActive y) (fun _ => rfl) hg)
  exact h.of_stand ⟨State.outputSources_congr rfl hactive .rfl rfl rfl rfl, rfl, rfl⟩

theorem State.switchHeat_outputs (z : ZoneId) (toManual : Bool) (value : Int) :
    (s.switchHeat z toManual value).OutputsSound := by
  refine State.OutputsSound.setZone _ (s.setZoneSettings_outputs h z ?_) z (h.2.2.2 z)
  rfl

theorem State.switchHumidity_outputs (z : ZoneId) (toManual : Bool) (value : Int) :
    (s.switchHumidity z toManual value).OutputsSound := by
  refine State.OutputsSound.setZone _ (s.setZoneSettings_outputs h z ?_) z (h.2.2.2 z)
  rfl

/-- R125, R131: a zone's demands at 0, handed over, and its cycles started again. -/
theorem State.resetZone_outputs (z : ZoneId) : (s.resetZone z).OutputsSound := by
  have hzero := State.OutputsSound.setZone s h z (x := (s.zone z).zeroDemands) (.inl rfl)
  exact (hzero.of_moves (State.handDemands_moves _ z)).of_moves (State.restartCycles_moves _ z)

theorem State.writeZone_outputs (z : ZoneId) (g : ZoneSettings) (band : Nat) : (s.writeZone z g band).OutputsSound := by
  obtain ⟨u, hu⟩ : ∃ u : State, u =
      { s.setZoneSettings z g with settings := { (s.setZoneSettings z g).settings with settleBand := band } } := ⟨_, rfl⟩
  have hset : u.Refreshable := hu ▸ h.refreshable
  have hfitted : (if (s.zoneSettings z).woodFitted && !g.woodFitted then u.clearWood z else u).Refreshable := by
    split <;> exact hset
  simp only [State.writeZone, ← hu]
  generalize (if (s.zoneSettings z).woodFitted && !g.woodFitted then u.clearWood z else u) = v at hfitted ⊢
  refine State.Refreshable.refresh ?_
  split
  · unfold State.activateZone
    split
    · split
      · exact hfitted.setZone z (hfitted.2 z)
      · exact hfitted
    · exact hfitted
  · exact (hfitted.setZone z (.inl rfl)).of_moves (State.handDemands_moves _ z)
  all_goals exact hfitted

theorem State.writeFanConfig_outputs (window coast heat spray position : Nat) :
    (s.writeFanConfig window coast heat spray position).OutputsSound :=
  State.takeCoastEnd_outputs _ (State.takeConfirmExpiry_outputs _ (State.Refreshable.refresh h.refreshable))

end

/-! ### The load, the supply and the restart (R171, R174, R177) -/

/-- R127, R132: before READY every valve is forced, and every vent released. -/
theorem State.outputsSound_of_powerOn {s : State} (hready : s.ready = false) (hrun : s.run = .cleared)
    (hfans : s.fans = .powerOn) (hsampler : s.sampler = .powerOn) (hzones : s.zones = .replicate .powerOn)
    (houtputs : s.outputs = .replicate .powerOn) : s.OutputsSound := by
  have hchannels (z : ZoneId) : s.channels z = { db := .cleared, wb := .cleared, wood := .cleared } := by
    rw [State.channels, hsampler]; exact zones_get_replicate _ z
  have hreleased (z : ZoneId) : s.outputsReleased z = true := by simp [State.outputsReleased, hready]
  refine ⟨fun z k => ?_, fun z k => ?_, fun z => ?_, fun z => ?_⟩
  · rw [houtputs, zones_get_replicate, State.forcingFor, hreleased, hchannels, hrun, hfans]
    cases k <;> decide
  · rw [houtputs, zones_get_replicate]
    cases k <;> simp [Valve.Sound, ZoneOutputs.powerOn, ZoneOutputs.valve, Forcing.any]
  · rw [houtputs, zones_get_replicate, State.ventConditionFor, hreleased]
    exact ⟨rfl, rfl⟩
  · rw [State.zone, hzones, zones_get_replicate]
    exact .inl rfl

theorem State.Refreshable.restoreRun {s : State} (h : s.Refreshable) (b : CheckpointBody) :
    (s.restoreRun b).Refreshable := by
  obtain ⟨u, hu⟩ : ∃ u : State, u =
      { s with schedule := { bufferA := b.schedule, bufferB := [], active := .a, adoption := none }, run := b.run } :=
    ⟨_, rfl⟩
  have hloaded : u.Refreshable := hu ▸ h
  simp only [State.restoreRun, ← hu]
  refine State.Refreshable.congr ?_ (t := State.queueNotice _ _ _ _) rfl rfl
  split
  · exact hloaded
  · rename_i x _
    have hstep : (u.zonesTakeStep x fun z => (b.origins.get z).getD x.dbTarget).Refreshable :=
      hloaded.congr rfl (u.zonesTakeStep_demands x _)
    unfold State.handFans State.checkReversal
    split
    · exact (State.fansEnterCoasting_outputs _ hstep).refreshable
    · exact hstep

theorem State.Refreshable.applyRun {s : State} (h : s.Refreshable) (x : RunLoad) : (s.applyRun x).Refreshable := by
  cases x with
  | idle => exact h
  | lost => exact h
  | restored b => exact h.restoreRun b

theorem State.takeReadyAction_outputs (s : State) (h : s.OutputsSound) (a : ReadyAction) :
    (s.takeReadyAction a).OutputsSound := by
  cases a with
  | scanStart => exact s.startScan_outputs h
  | trip i => exact s.trip_outputs h i
  | fanStart => exact s.fansFollowRun_outputs h

/-- R133, R171: at READY the outputs become driven. -/
theorem State.Refreshable.reachReady {s : State} (h : s.Refreshable) : s.reachReady.OutputsSound := by
  refine State.reachReady_keeps s (fun n => ?_) fun t a ht => t.takeReadyAction_outputs ht a
  have hdriven : ({ s with ready := true, sampler := { s.sampler with timer := 0, mark := .none } } :
      State).refreshOutputs.OutputsSound := State.Refreshable.refresh h
  exact hdriven.congr rfl .rfl

theorem State.endLoad_outputs {s : State} (h : s.OutputsSound) (settingsReads checkpointReads : Bool) :
    (s.endLoad settingsReads checkpointReads).OutputsSound := by
  have hsettings (x : SettingsLoad) : (s.applySettings x).Refreshable :=
    h.refreshable.congr (by simp) (by funext z; simp [State.zoneDemands, State.zone])
  refine State.Refreshable.reachReady ?_
  exact (hsettings _).applyRun _

/-! ### Commands and steps -/

/-- R117, R127 to R132: every operation of the commands keeps the agreement of the outputs. -/
theorem outputsSound_kept : CommandsKeep State.OutputsSound := by
  constructor
  case toRequestsKeep =>
    constructor
    case replaceRecord =>
      refine fun s h _ p r _ => State.discardFor_outputs (s.setProbe p r) ?_ p
      exact h.congr rfl .rfl
    case resetProbes =>
      refine fun s h _ => State.discardAny_outputs _ ?_
      exact h.congr rfl .rfl
    case scanConfig => exact fun s h _ => s.writeScanConfig_outputs h
    case scanNow => exact fun s h _ _ => s.startScan_outputs h
    case adopt => exact fun s h _ b n r _ _ _ _ => s.adopt_outputs h b n r
    case runStart => exact fun s h _ i hidle _ _ _ => s.startRun_outputs h hidle i
    case runHold => exact fun s h _ _ => State.wantCheckpoint_outputs _ (s.addReason_outputs h _)
    case runResume => exact fun s h _ _ => s.resumeRun_outputs h
    case runRestart => exact fun s h _ _ _ => s.restartRun_outputs h
    case runAbort => exact fun s h _ _ => s.abortRun_outputs h
    case writeZone => exact fun s h _ z _ _ _ _ _ _ band => s.writeZone_outputs h z _ band
    case switchHeat => exact fun s h _ z b v _ => s.switchHeat_outputs h z b v
    case switchHumidity => exact fun s h _ z b v _ => s.switchHumidity_outputs h z b v
    case resetZone => exact fun s h _ z => s.resetZone_outputs h z
    case fanConfig => exact fun s h _ a b c d e _ _ _ _ _ => s.writeFanConfig_outputs h a b c d e
    case interlockConfig => exact fun s h _ i _ _ _ _ => s.configureInput_outputs h i _
    case clearLatch => exact fun s h _ i _ _ => s.clearLatch_outputs h i
    all_goals
      intro s h
      intros
      exact h.congr rfl .rfl
  case tickValves => exact fun s h => h.of_moves s.tickValves_moves
  case reachOnTime => exact fun s h z k => h.of_moves (s.mapValve_moves z k Valve.reachOnTime_moves)
  case reachPeriod => exact fun s h z k => h.of_moves (s.mapValve_moves z k fun v => v.reachPeriod_moves _)
  case takeHours => exact fun s h => s.takeHours_outputs h
  case takeSettle => exact fun s h => s.takeSettle_outputs h
  case takeTimeout => exact fun s h => s.takeTimeout_outputs h
  case takeCoastEnd => exact fun s h => s.takeCoastEnd_outputs h
  case takeConfirmExpiry => exact fun s h => s.takeConfirmExpiry_outputs h
  case takeScanExpiry => exact fun s h => s.takeScanExpiry_outputs h
  case checkReversal => exact fun s h => s.checkReversal_outputs h
  case restartNow => exact fun s _ _ => State.outputsSound_of_powerOn rfl rfl rfl rfl rfl rfl
  case powerOn => exact fun s _ _ _ => State.outputsSound_of_powerOn rfl rfl rfl rfl rfl rfl
  case powerLoss => exact fun s _ _ => State.outputsSound_of_powerOn rfl rfl rfl rfl rfl rfl
  case loadEnd => exact fun s h _ _ a b => State.endLoad_outputs h a b
  case countSecond => exact fun s h => s.countSecond_outputs h
  case takeSet => exact fun s h _ _ x => s.takeSet_outputs h x
  case countEnds => exact fun s h n => s.countEnds_outputs h n
  case changeLive => exact fun s h i closed => s.changeLive_outputs h i closed
  case checkpointWriteEnd =>
    refine fun s h r => h.congr ?_ ?_ <;> unfold State.endCheckpointWrite <;> split <;> rfl
  case saveWriteEnd =>
    refine fun s h r => h.congr ?_ ?_ <;> simp only [State.endSaveWrite] <;> (repeat' split) <;> rfl
  all_goals
    intro s h
    intros
    exact h.congr (by simp [State.outputBlocks]) (by simp)

/-- R127, R128, R130: a valve that is ON is not forced, so no cause is present. -/
theorem State.OutputsSound.valvesSafe {s : State} (h : s.OutputsSound) : s.ValvesSafe := by
  obtain ⟨hforcing, hvalves, -, -⟩ := h
  intro z k hon
  have hfree : (s.forcingFor z k).any = false := by
    rw [← hforcing z k]
    exact Bool.eq_false_iff.2 fun hforced => by simp [(hvalves z k).2 hforced] at hon
  simp only [Forcing.any, State.forcingFor, State.outputsReleased, Bool.or_eq_false_iff, Bool.not_eq_false',
    decide_eq_false_iff_not] at hfree
  obtain ⟨⟨⟨⟨hready, hactive⟩, hsafe⟩, hfans⟩, -⟩ := hfree
  exact ⟨hfans, hsafe, hready, hactive⟩

/-- Settles O56: every operation of the commands keeps the agreement of the outputs, so every step does; and in agreement a
valve that is ON is forced by nothing. -/
theorem everyStepKeepsTheOutputsSafe : Obligations.EveryStepKeepsTheOutputsSafe := by
  unfold Obligations.EveryStepKeepsTheOutputsSafe
  exact ⟨fun s t hs ht => outputsSound_kept.step hs ht, fun s hs => hs.valvesSafe⟩

end Sys2Proof.Machine
end

section
/-! SUPPORT. A PI evaluation (R118, R119), and LOOP_MODE (R121): the handler's answers, and what a switch of a mode comes
to. -/

namespace Sys2Proof.Machine

/-! ### Clamps and truncation (5.2) -/

theorem clampInt_eq {lo hi : Int} (h : lo ≤ hi) (x : Int) : clampInt lo hi x = max lo (min hi x) := by
  unfold clampInt
  split <;> (try split) <;> omega

/-- R118: a quotient truncated toward zero. -/
theorem truncDiv_eq (n : Int) : truncDiv n 60 = if 0 ≤ n then n / 60 else -(-n / 60) := by
  unfold truncDiv
  split
  · exact Int.tdiv_eq_ediv_of_nonneg ‹_›
  · rw [← Int.tdiv_eq_ediv_of_nonneg (by omega : 0 ≤ -n), Int.neg_tdiv, neg_neg]

/-- Settles O12: the four steps of an evaluation, the windup test by its two outcomes. -/
theorem loopEvaluationFollowsTheFourSteps : Obligations.LoopEvaluationFollowsTheFourSteps := by
  unfold Obligations.LoopEvaluationFollowsTheFourSteps
  intro x lo hi kp ki error h e p i' y
  have he : clampInt (-500) 500 error = e := clampInt_eq (by decide) error
  have hstep : x.integrator + truncDiv (ki * e) 60 = i' := by rw [truncDiv_eq]
  have hy : y.integrator =
      if (hi < p + i' ∧ 0 < e) ∨ (p + i' < lo ∧ e < 0) then x.integrator else clampInt lo hi i' := by
    simp only [y, Loop.evaluate, nextIntegrator, he, hstep, p]
  refine ⟨rfl, fun hwindup => ?_, fun hfree => ?_, ?_⟩
  · rw [hy, if_pos hwindup]
  · rw [hy, if_neg hfree, clampInt_eq h]
  · rw [← clampInt_eq h]
    simp only [y, Loop.evaluate, he, p]

/-! ### LOOP_MODE: what the bytes name, and the checks -/

theorem zoneOfNumber_byte_eq_none {b : Byte} (h : b = 0 ∨ 4 < b.toNat) : zoneOfNumber b.toNat = none := by
  obtain rfl | h := h
  · rfl
  · exact zoneOfNumber_eq_none h

/-- Log 12: a refused length carries the record that the first byte names. -/
theorem refusedLength_of_named {α : Type} {named : Nat → Option α} {b : Byte} {x : α} (h : named b.toNat = some x)
    (part : α → List Byte) (rest : List Byte) : refusedLength named part (b :: rest) = .of .badLength (part x) := by
  simp [refusedLength, h]

theorem refusedLength_noZone (s : State) {p : List Byte} (h : ∀ b, p.head? = some b → b = 0 ∨ 4 < b.toNat) :
    refusedLength zoneOfNumber s.zonePart p = .of .badLength [] := by
  cases p with
  | nil => rfl
  | cons b rest => simp [refusedLength, zoneOfNumber_byte_eq_none (h b rfl)]

theorem inRangeInt_iff (lo hi n : Int) : inRangeInt lo hi n = true ↔ lo ≤ n ∧ n ≤ hi := by simp [inRangeInt]

/-- R121: the checks of fields 2 to 4. -/
def loopModeChecks (loop mode v0 v1 : Byte) : List (Nat × Bool) :=
  [(2, inRange 0 1 loop.toNat), (3, inRange 0 1 mode.toNat),
    (4, !decide (mode.toNat = 1) || manualFits loop.toNat (readSigned2 v0 v1))]

section
variable (s : State) (z : ZoneId) {loop mode v0 v1 : Byte}

theorem handleLoopMode_badField {field : Nat} (h : firstBad (loopModeChecks loop mode v0 v1) = some field) :
    handleLoopMode [BitVec.ofNat 8 z.number, loop, mode, v0, v1] s = (s, .badField field (s.zonePart z)) := by
  unfold loopModeChecks at h
  simp only [handleLoopMode, zoneOfNumber_byte, h]

theorem handleLoopMode_heat (h : firstBad (loopModeChecks 0 mode v0 v1) = none) :
    handleLoopMode [BitVec.ofNat 8 z.number, 0, mode, v0, v1] s =
      zoneReply .ok z (s.switchHeat z (decide (mode.toNat = 1)) (readSigned2 v0 v1)) := by
  unfold loopModeChecks at h
  simp only [handleLoopMode, zoneOfNumber_byte, h]
  rfl

theorem handleLoopMode_humidity (h : firstBad (loopModeChecks 1 mode v0 v1) = none) :
    handleLoopMode [BitVec.ofNat 8 z.number, 1, mode, v0, v1] s =
      zoneReply .ok z (s.switchHumidity z (decide (mode.toNat = 1)) (readSigned2 v0 v1)) := by
  unfold loopModeChecks at h
  simp only [handleLoopMode, zoneOfNumber_byte, h]
  rfl

theorem handleLoopMode_badLength {rest : List Byte} (h : rest.length ≠ 4) :
    handleLoopMode (BitVec.ofNat 8 z.number :: rest) s = (s, .of .badLength (s.zonePart z)) := by
  rw [← refusedLength_of_named (zoneOfNumber_byte z) s.zonePart rest]
  match rest with
  | [] | [_] | [_, _] | [_, _, _] | _ :: _ :: _ :: _ :: _ :: _ => rfl
  | [_, _, _, _] => exact absurd rfl h

theorem handleLoopMode_noZone {p : List Byte} (h : ∀ b, p.head? = some b → b = 0 ∨ 4 < b.toNat) :
    handleLoopMode p s =
      (s, if p.length = 5 then { status := .badValue, detail := [1], body := [] } else .of .badLength []) := by
  have hrefused := refusedLength_noZone s h
  match p with
  | [] | [_] | [_, _] | [_, _, _] | [_, _, _, _] | _ :: _ :: _ :: _ :: _ :: _ :: _ =>
    simp [handleLoopMode, hrefused]
  | [b, _, _, _, _] =>
    simp only [handleLoopMode, zoneOfNumber_byte_eq_none (h b rfl)]
    rfl

end

/-! ### A request served with a zone (R121, R123) -/

theorem State.zonePart_congr {s t : State} (hg : t.settings = s.settings) (hc : t.sampler = s.sampler)
    (hz : t.zones = s.zones) (z : ZoneId) : t.zonePart z = s.zonePart z := by
  simp only [State.zonePart, State.zoneSettings, State.channels, State.zone, hg, hc, hz]

/-- A request that leaves the link and the work due to the reply is served with the zone as it then stands. -/
theorem zoneReply_served {c : Instr} {s u : State} {kind tag : Byte} {payload : List Byte} {z : ZoneId}
    {f : List Byte → State → State × Reply} (h : s.Receptive) (hc : requestOf c = some (kind, tag, payload))
    (hk : ∀ k t p, c ≠ .unknownRequest k t p) (hf : handlerOf kind.toNat = some f)
    (hu : f payload s = zoneReply .ok z u) (hl : u.link = s.link) (hd : u.due = s.due) :
    ∃ t, Served c s t (.of .ok (t.zonePart z)) ∧ t = { u with link := t.link } := by
  have hserved := served_of_handled h hc hk hf hu hl
  rw [State.finishEvent_answer (hd.trans h.1.due_none)] at hserved
  refine ⟨u.answer kind tag (.of .ok (u.zonePart z)), ?_, rfl⟩
  have hpart : (u.answer kind tag (.of .ok (u.zonePart z))).zonePart z = u.zonePart z :=
    State.zonePart_congr rfl rfl rfl z
  rw [hpart]
  exact hserved

/-! ### The rows of LOOP_MODE (R121) -/

/-- R121: a zone's settings and loops, as a request leaves them. -/
def State.withLoops (s : State) (z : ZoneId) (after : ZoneSettings) (loops : ZoneLoops) : State :=
  { s with settings := { s.settings with zones := s.settings.zones.set z after }, zones := s.zones.set z loops }

section
variable (s : State) (z : ZoneId) (value : Int)

theorem State.switchHeat_manual :
    s.switchHeat z true value =
      s.withLoops z { s.zoneSettings z with heatMode := .manual, heatManual := value } (s.zone z) := by
  cases hm : (s.zoneSettings z).heatMode <;> simp only [State.switchHeat, switchLoop] <;> rfl

theorem State.switchHumidity_manual :
    s.switchHumidity z true value =
      s.withLoops z { s.zoneSettings z with humidityMode := .manual, humidityManual := value } (s.zone z) := by
  cases hm : (s.zoneSettings z).humidityMode <;> simp only [State.switchHumidity, switchLoop] <;> rfl

/-- R121: back in AUTO, the integrator takes the manual value. -/
theorem State.switchHeat_auto (hm : (s.zoneSettings z).heatMode = .manual) :
    s.switchHeat z false value =
      s.withLoops z { s.zoneSettings z with heatMode := .auto }
        { s.zone z with
          heat := { (s.zone z).heat with integrator := max 0 (min 1000 (s.zoneSettings z).heatManual) } } := by
  rw [← clampInt_eq (by decide)]
  simp only [State.switchHeat, switchLoop, hm]
  rfl

theorem State.switchHumidity_auto (hm : (s.zoneSettings z).humidityMode = .manual) :
    s.switchHumidity z false value =
      s.withLoops z { s.zoneSettings z with humidityMode := .auto }
        { s.zone z with
          humidity :=
            { (s.zone z).humidity with integrator := max (-1000) (min 1000 (s.zoneSettings z).humidityManual) } } := by
  rw [← clampInt_eq (by decide)]
  simp only [State.switchHumidity, switchLoop, hm]
  rfl

/-- R121: AUTO asked of a loop in AUTO. -/
theorem State.switchHeat_kept (hm : (s.zoneSettings z).heatMode = .auto) :
    s.switchHeat z false value = s.withLoops z (s.zoneSettings z) (s.zone z) := by
  have hsame : ({ s.zoneSettings z with heatMode := .auto } : ZoneSettings) = s.zoneSettings z := by rw [← hm]
  simp only [State.switchHeat, switchLoop, hm, hsame]
  rfl

theorem State.switchHumidity_kept (hm : (s.zoneSettings z).humidityMode = .auto) :
    s.switchHumidity z false value = s.withLoops z (s.zoneSettings z) (s.zone z) := by
  have hsame : ({ s.zoneSettings z with humidityMode := .auto } : ZoneSettings) = s.zoneSettings z := by rw [← hm]
  simp only [State.switchHumidity, switchLoop, hm, hsame]
  rfl

end

section
variable {s : State} {tag mode v0 v1 : Byte} {z : ZoneId} {after : ZoneSettings} {loops : ZoneLoops} (h : s.Receptive)
include h

theorem loopMode_heat (hok : firstBad (loopModeChecks 0 mode v0 v1) = none)
    (hs : s.switchHeat z (decide (mode.toNat = 1)) (readSigned2 v0 v1) = s.withLoops z after loops) :
    ∃ t, Served (.loopMode tag [BitVec.ofNat 8 z.number, 0, mode, v0, v1]) s t (.of .ok (t.zonePart z)) ∧
      t = { s.withLoops z after loops with link := t.link } :=
  zoneReply_served (c := .loopMode tag _) h rfl (by simp) rfl (hs ▸ handleLoopMode_heat s z hok) rfl rfl

theorem loopMode_humidity (hok : firstBad (loopModeChecks 1 mode v0 v1) = none)
    (hs : s.switchHumidity z (decide (mode.toNat = 1)) (readSigned2 v0 v1) = s.withLoops z after loops) :
    ∃ t, Served (.loopMode tag [BitVec.ofNat 8 z.number, 1, mode, v0, v1]) s t (.of .ok (t.zonePart z)) ∧
      t = { s.withLoops z after loops with link := t.link } :=
  zoneReply_served (c := .loopMode tag _) h rfl (by simp) rfl (hs ▸ handleLoopMode_humidity s z hok) rfl rfl

theorem loopMode_refused {loop : Byte} {field : Nat} (hf : firstBad (loopModeChecks loop mode v0 v1) = some field) :
    ServedUnchanged (.loopMode tag [BitVec.ofNat 8 z.number, loop, mode, v0, v1]) s (.badField field (s.zonePart z)) :=
  servedUnchanged_of_handled h rfl (by simp) rfl (handleLoopMode_badField s z hf)

end

/-! ### Which field is refused (R121) -/

section
variable {loop mode v0 v1 : Byte}

theorem loopModeChecks_auto (hl : loop.toNat ≤ 1) : firstBad (loopModeChecks loop 0 v0 v1) = none := by
  simp [firstBad_eq_none_iff, loopModeChecks, inRange, hl]

theorem loopModeChecks_manual (hl : loop.toNat ≤ 1) (hv : manualFits loop.toNat (readSigned2 v0 v1) = true) :
    firstBad (loopModeChecks loop 1 v0 v1) = none := by
  simp [firstBad_eq_none_iff, loopModeChecks, inRange, hl, hv]

theorem loopModeChecks_badValue (hl : loop.toNat ≤ 1) (hv : manualFits loop.toNat (readSigned2 v0 v1) = false) :
    firstBad (loopModeChecks loop 1 v0 v1) = some 4 := by
  simp [firstBad, loopModeChecks, inRange, hl, hv]

theorem loopModeChecks_badMode (hl : loop.toNat ≤ 1) (hm : 1 < mode.toNat) :
    firstBad (loopModeChecks loop mode v0 v1) = some 3 := by
  simp [firstBad, loopModeChecks, inRange, hl, Nat.not_le.2 hm]

theorem loopModeChecks_badLoop (hl : 1 < loop.toNat) : firstBad (loopModeChecks loop mode v0 v1) = some 2 := by
  simp [firstBad, loopModeChecks, inRange, Nat.not_le.2 hl]

end

/-- Settles O49: the rows of the table and the checks, for the one loop and for the other. -/
theorem loopModeFollowsItsTable : Obligations.LoopModeFollowsItsTable := by
  unfold Obligations.LoopModeFollowsItsTable
  intro s tag z mode v0 v1 h n raw value g x becomes heat humidity refuses
  refine ⟨fun hm hlo hhi => ?_, fun hm hlo hhi => ?_, fun hm hg => ?_, fun hm hg => ?_, fun hm hg => ?_, fun hm hg => ?_,
    fun hm hv => ?_, fun hm hv => ?_, fun hm => ⟨?_, ?_⟩, fun loop hl => ?_, fun rest hr => ?_, fun p hp => ?_⟩
  · subst hm
    exact loopMode_heat h (loopModeChecks_manual (by decide) ((inRangeInt_iff _ _ _).2 ⟨hlo, hhi⟩))
      (s.switchHeat_manual z value)
  · subst hm
    exact loopMode_humidity h (loopModeChecks_manual (by decide) ((inRangeInt_iff _ _ _).2 ⟨hlo, hhi⟩))
      (s.switchHumidity_manual z value)
  · subst hm
    exact loopMode_heat h (loopModeChecks_auto (by decide)) (s.switchHeat_auto z value hg)
  · subst hm
    exact loopMode_humidity h (loopModeChecks_auto (by decide)) (s.switchHumidity_auto z value hg)
  · subst hm
    exact loopMode_heat h (loopModeChecks_auto (by decide)) (s.switchHeat_kept z value hg)
  · subst hm
    exact loopMode_humidity h (loopModeChecks_auto (by decide)) (s.switchHumidity_kept z value hg)
  · subst hm
    refine loopMode_refused h (loopModeChecks_badValue (by decide) (Bool.eq_false_iff.2 fun hfits => ?_))
    have := (inRangeInt_iff 0 1000 value).1 hfits
    omega
  · subst hm
    refine loopMode_refused h (loopModeChecks_badValue (by decide) (Bool.eq_false_iff.2 fun hfits => ?_))
    have := (inRangeInt_iff (-1000) 1000 value).1 hfits
    omega
  · exact loopMode_refused h (loopModeChecks_badMode (by decide) hm)
  · exact loopMode_refused h (loopModeChecks_badMode (by decide) hm)
  · exact loopMode_refused h (loopModeChecks_badLoop hl)
  · exact servedUnchanged_of_handled (c := .loopMode tag _) h rfl (by simp) rfl (handleLoopMode_badLength s z hr)
  · exact servedUnchanged_of_handled (c := .loopMode tag _) h rfl (by simp) rfl (handleLoopMode_noZone s hp)

end Sys2Proof.Machine
end

section
/-! SUPPORT. ZONE_CONFIG (R123): the handler's answers, and what a write leaves of the part. -/

namespace Sys2Proof.Machine

/-! ### The checks -/

/-- R123: the checks of fields 2 to 8. -/
def zoneConfigChecks (active wood hp hi up ui band : Byte) : List (Nat × Bool) :=
  [(2, inRange 0 1 active.toNat), (3, inRange 0 1 wood.toNat), (4, inRange 0 100 hp.toNat),
    (5, inRange 0 100 hi.toNat), (6, inRange 0 100 up.toNat), (7, inRange 0 100 ui.toNat),
    (8, inRange 5 50 band.toNat)]

/-- R123: what fields 2 to 8 must meet. -/
def zoneConfigConditions (active wood hp hi up ui band : Byte) : List Prop :=
  [active.toNat ≤ 1, wood.toNat ≤ 1, hp.toNat ≤ 100, hi.toNat ≤ 100, up.toNat ≤ 100, ui.toNat ≤ 100,
    5 ≤ band.toNat ∧ band.toNat ≤ 50]

/-- R123: the settings that a write gives a zone in place of its own. -/
def ZoneSettings.written (g : ZoneSettings) (active wood hp hi up ui : Byte) : ZoneSettings :=
  { g with
    active := decide (active = 1), woodFitted := decide (wood = 1), heatKp := hp.toNat, heatKi := hi.toNat
    humidityKp := up.toNat, humidityKi := ui.toNat }

theorem toNat_eq_one_iff (b : Byte) : b.toNat = 1 ↔ b = 1 := by bv_omega

section
variable {active wood hp hi up ui band : Byte}

theorem zoneConfigChecks_conditions :
    List.Forall₂ (fun (c : Nat × Bool) p => c.2 = true ↔ p) (zoneConfigChecks active wood hp hi up ui band)
      (zoneConfigConditions active wood hp hi up ui band) := by
  simp [zoneConfigChecks, zoneConfigConditions, inRange]

theorem zoneConfigChecks_firstBad {i : Nat} (h : FirstFailing (zoneConfigConditions active wood hp hi up ui band) i)
    (hi7 : i < 7) : firstBad (zoneConfigChecks active wood hp hi up ui band) = some (i + 2) := by
  have hnumbers : (zoneConfigChecks active wood hp hi up ui band).map (·.1) = List.range' 2 7 := rfl
  rw [firstBad_of_firstFailing zoneConfigChecks_conditions h, hnumbers, List.getElem?_range' hi7, Nat.one_mul, Nat.add_comm]

/-! ### The handler -/

variable (s : State) (z : ZoneId)

theorem handleZoneConfig_badField {field : Nat}
    (h : firstBad (zoneConfigChecks active wood hp hi up ui band) = some field) :
    handleZoneConfig [BitVec.ofNat 8 z.number, active, wood, hp, hi, up, ui, band] s =
      (s, .badField field (s.zonePart z)) := by
  unfold zoneConfigChecks at h
  simp only [handleZoneConfig, zoneOfNumber_byte, h]

theorem handleZoneConfig_write (h : firstBad (zoneConfigChecks active wood hp hi up ui band) = none) :
    handleZoneConfig [BitVec.ofNat 8 z.number, active, wood, hp, hi, up, ui, band] s =
      zoneReply .ok z (s.writeZone z ((s.zoneSettings z).written active wood hp hi up ui) band.toNat) := by
  unfold zoneConfigChecks at h
  simp only [handleZoneConfig, zoneOfNumber_byte, h, toNat_eq_one_iff]
  rfl

theorem handleZoneConfig_badLength {rest : List Byte} (h0 : rest.length ≠ 0) (h7 : rest.length ≠ 7) :
    handleZoneConfig (BitVec.ofNat 8 z.number :: rest) s = (s, .of .badLength (s.zonePart z)) := by
  rw [← refusedLength_of_named (zoneOfNumber_byte z) s.zonePart rest]
  match rest with
  | [] => exact absurd rfl h0
  | [_] | [_, _] | [_, _, _] | [_, _, _, _] | [_, _, _, _, _] | [_, _, _, _, _, _] | _ :: _ :: _ :: _ :: _ :: _ :: _ :: _ :: _ =>
    rfl
  | [_, _, _, _, _, _, _] => exact absurd rfl h7

theorem handleZoneConfig_noZone {p : List Byte} (h : ∀ b, p.head? = some b → b = 0 ∨ 4 < b.toNat) :
    handleZoneConfig p s =
      (s, if p.length = 1 ∨ p.length = 8 then { status := .badValue, detail := [1], body := [] }
        else .of .badLength []) := by
  have hrefused := refusedLength_noZone s h
  match p with
  | [b] => simp only [handleZoneConfig, zoneOfNumber_byte_eq_none (h b rfl)]; rfl
  | [b, _, _, _, _, _, _, _] => simp only [handleZoneConfig, zoneOfNumber_byte_eq_none (h b rfl)]; rfl
  | [] | [_, _] | [_, _, _] | [_, _, _, _] | [_, _, _, _, _] | [_, _, _, _, _, _] | [_, _, _, _, _, _, _]
  | _ :: _ :: _ :: _ :: _ :: _ :: _ :: _ :: _ :: _ => simp [handleZoneConfig, hrefused]

end

/-! ### What a write leaves -/

section
variable (s : State) (z : ZoneId) (g : ZoneSettings) (band : Nat)

/-- R112, R123: the part with the settings that a write brings, and a WOOD channel that is no longer fitted cleared. -/
def State.zoneWritten : State :=
  { s with
    settings := { s.settings with settleBand := band, zones := s.settings.zones.set z g }
    sampler :=
      if (s.zoneSettings z).woodFitted = true ∧ g.woodFitted = false then (s.clearWood z).sampler else s.sampler }

/-- R116, R122: the zone made active or inactive. -/
def State.zoneSwitched (t : State) (before : Bool) : State :=
  match before, g.active with
  | false, true => t.activateZone z
  | true, false => t.deactivateZone z
  | true, true | false, false => t

theorem State.zoneSwitched_kept : s.zoneSwitched z g g.active = s := by
  cases h : g.active <;> simp [State.zoneSwitched, h]

theorem State.zoneSwitched_on (h : g.active = true) : s.zoneSwitched z g false = s.activateZone z := by
  simp [State.zoneSwitched, h]

theorem State.zoneSwitched_off (h : g.active = false) : s.zoneSwitched z g true = s.deactivateZone z := by
  simp [State.zoneSwitched, h]

theorem State.writeZone_eq :
    s.writeZone z g band = ((s.zoneWritten z g band).zoneSwitched z g (s.zoneActive z)).refreshOutputs := by
  have hwritten : (if (s.zoneSettings z).woodFitted && !g.woodFitted then
      ({ s.setZoneSettings z g with settings := { (s.setZoneSettings z g).settings with settleBand := band } } :
        State).clearWood z
      else { s.setZoneSettings z g with settings := { (s.setZoneSettings z g).settings with settleBand := band } }) =
      s.zoneWritten z g band := by
    unfold State.zoneWritten
    by_cases h : (s.zoneSettings z).woodFitted = true ∧ g.woodFitted = false
    · rw [if_pos (by simpa using h), if_pos h]; rfl
    · rw [if_neg (by simpa using h), if_neg h]; rfl
  simp only [State.writeZone, hwritten]
  rfl

@[simp] theorem State.zoneSwitched_frame (before : Bool) :
    (s.zoneSwitched z g before).settings = s.settings ∧ (s.zoneSwitched z g before).sampler = s.sampler := by
  unfold State.zoneSwitched
  split <;> simp

/-- R123: only the zone named may take or let go of targets. -/
theorem State.zoneSwitched_zone_ne (before : Bool) {y : ZoneId} (hy : y ≠ z) :
    (s.zoneSwitched z g before).zone y = s.zone y := by
  have hset (x : ZoneLoops) : (s.setZone z x).zone y = s.zone y := zones_get_set_ne _ _ _ _ hy
  unfold State.zoneSwitched
  split
  · unfold State.activateZone
    split
    · split
      · exact hset _
      · rfl
    · rfl
  · exact hset _
  · rfl
  · rfl

theorem State.writeZone_settings :
    (s.writeZone z g band).settings =
      { s.settings with settleBand := band, zones := s.settings.zones.set z g } := by
  simp [State.writeZone_eq, State.zoneWritten]

theorem State.writeZone_channels (y : ZoneId) :
    (s.writeZone z g band).channels y =
      if y = z ∧ (s.zoneSettings z).woodFitted = true ∧ g.woodFitted = false then
        { s.channels z with wood := .cleared }
      else s.channels y := by
  have hsampler : (s.writeZone z g band).sampler = (s.zoneWritten z g band).sampler := by simp [State.writeZone_eq]
  rw [State.channels, hsampler, State.zoneWritten]
  by_cases hw : (s.zoneSettings z).woodFitted = true ∧ g.woodFitted = false
  · by_cases hy : y = z
    · subst hy; simp [hw, State.clearWood]
    · simp [hw, hy, State.clearWood, zones_get_set_ne _ _ _ _ hy, State.channels]
  · rw [if_neg hw, if_neg fun h => hw h.2]
    rfl

theorem State.writeZone_others :
    s.writeZone z g band =
      { s with
        settings := (s.writeZone z g band).settings, sampler := (s.writeZone z g band).sampler
        zones := (s.writeZone z g band).zones, outputs := (s.writeZone z g band).outputs } :=
  State.eq_of_blocks (by simp)

theorem State.writeZone_zone (y : ZoneId) :
    (s.writeZone z g band).zone y = ((s.zoneWritten z g band).zoneSwitched z g (s.zoneActive z)).zone y := by
  simp [State.writeZone_eq, State.zone]

theorem State.writeZone_zone_ne {y : ZoneId} (hy : y ≠ z) : (s.writeZone z g band).zone y = s.zone y := by
  rw [State.writeZone_zone, State.zoneSwitched_zone_ne _ _ _ _ hy]
  rfl

/-- R123: a write that leaves the active flag leaves the loops. -/
theorem State.writeZone_zone_kept (h : g.active = s.zoneActive z) : (s.writeZone z g band).zone z = s.zone z := by
  rw [State.writeZone_zone, ← h, State.zoneSwitched_kept]
  rfl

theorem State.writeZone_zone_activated (hb : s.zoneActive z = false) (ha : g.active = true) :
    (s.writeZone z g band).zone z = ((s.zoneWritten z g band).activateZone z).zone z := by
  rw [State.writeZone_zone, hb, State.zoneSwitched_on _ _ _ ha]

/-- R116: with no run in progress there is no step to take targets from. -/
theorem State.writeZone_activated_idle (hb : s.zoneActive z = false) (ha : g.active = true)
    (hr : s.run.state.inProgress = false) : (s.writeZone z g band).zone z = s.zone z := by
  rw [State.writeZone_zone_activated s z g band hb ha, State.activateZone, if_neg (by simp [State.zoneWritten, hr])]
  rfl

/-- R116: a zone made active during a run ramps from its published DB, or stands at the target. -/
theorem State.writeZone_activated_run {step : StepRecord} (hb : s.zoneActive z = false) (ha : g.active = true)
    (hr : s.run.state.inProgress = true) (hs : s.currentStep = some step) :
    (s.writeZone z g band).zone z =
      { s.zone z with
        ramp :=
          some
            { dbTarget := step.dbTarget, depression := step.depression, rampRate := step.rampRate
              kind := step.kind, origin := (s.channels z).db.usable.getD step.dbTarget
              setpoint := (s.channels z).db.usable.getD step.dbTarget } } := by
  obtain ⟨v, hv⟩ : ∃ v, v = s.zoneWritten z g band := ⟨_, rfl⟩
  have hrun : v.run.state.inProgress = true := by rw [hv]; exact hr
  have hstep : v.currentStep = some step := by rw [hv]; exact hs
  have hdb : (v.channels z).db = (s.channels z).db := by
    rw [hv, State.channels, State.zoneWritten]
    split
    · simp [State.clearWood]
    · rfl
  have hzone : v.zone z = s.zone z := by rw [hv]; rfl
  rw [State.writeZone_zone_activated s z g band hb ha, ← hv, State.activateZone, if_pos hrun, hstep, State.setZone_zone,
    State.startOrigin, hdb, hzone]
  rfl

/-- R116, R122, R132: a zone made inactive lets go of its targets, its demands are 0, and its vent is released. -/
theorem State.writeZone_deactivated (hb : s.zoneActive z = true) (ha : g.active = false) :
    let t := s.writeZone z g band
    t.zone z =
        { ramp := none, heat := { (s.zone z).heat with demand := 0 }
          humidity := { (s.zone z).humidity with demand := 0 }, sprayDemand := 0, ventDemand := 0 } ∧
      (t.outputs.get z).heat.demand = 0 ∧ (t.outputs.get z).spray.demand = 0 ∧ (t.outputs.get z).vent.demand = 0 ∧
      (t.outputs.get z).vent.condition = .released ∧ (t.outputs.get z).vent.current = 0 := by
  obtain ⟨v, hv⟩ : ∃ v, v = (s.zoneWritten z g band).deactivateZone z := ⟨_, rfl⟩
  have hwritten : s.writeZone z g band = v.refreshOutputs := by
    rw [State.writeZone_eq, hb, State.zoneSwitched_off _ _ _ ha, hv]
  have hzone : v.zone z = (s.zone z).deactivate := by
    rw [hv]; exact State.setZone_zone _ _ _
  have hreleased : v.ventConditionFor z = .released := by
    have hinactive : v.zoneActive z = false := by
      rw [State.zoneActive, State.zoneSettings, hv]
      simp [State.zoneWritten, ha]
    simp [State.ventConditionFor, State.outputsReleased, hinactive]
  have houtputs : v.outputs.get z =
      handedOver (s.zone z).deactivate v.settings.ventSafePosition (s.outputs.get z) := by
    rw [hv]
    simp [State.deactivateZone, State.handDemands, State.zoneWritten, State.zone]
  obtain ⟨hheat, hspray, hvent⟩ := v.refreshOutputs_demands z
  rw [houtputs] at hheat hspray hvent
  rw [hwritten]
  refine ⟨hzone, hheat, hspray, hvent, ?_, ?_⟩
  · rw [v.refreshOutputs_vent, hreleased]
  · rw [v.refreshOutputs_vent, hreleased]; rfl

end

/-- Settles O48: the refusals by the first field, the write by what becomes of the active flag, and the wrong lengths. -/
theorem zoneConfigActsOnTheZone : Obligations.ZoneConfigActsOnTheZone := by
  unfold Obligations.ZoneConfigActsOnTheZone
  intro s tag z active wood hp hi up ui band h c g legal
  have hconditions : legal = zoneConfigConditions active wood hp hi up ui band := rfl
  refine ⟨fun i hfails hbefore hi7 => ?_, fun hlegal => ?_, fun rest h0 h7 => ?_, fun p hpayload => ?_⟩
  · have hfirst : FirstFailing (zoneConfigConditions active wood hp hi up ui band) i := by
      obtain ⟨x, hx⟩ : ∃ x, legal[i]? = some x := ⟨legal[i], List.getElem?_eq_getElem (by simpa [legal] using hi7)⟩
      exact ⟨⟨x, hx, hfails x hx⟩, hbefore⟩
    exact servedUnchanged_of_handled h rfl (by simp [c]) rfl
      (handleZoneConfig_badField s z (zoneConfigChecks_firstBad hfirst hi7))
  · have hok := firstBad_of_conditions zoneConfigChecks_conditions (hconditions ▸ hlegal)
    obtain ⟨g', hg'⟩ : ∃ g', g' = g.written active wood hp hi up ui := ⟨_, rfl⟩
    obtain ⟨t, hserved, ht⟩ := zoneReply_served (c := c) h rfl (by simp [c]) rfl
      (handleZoneConfig_write s z hok) (by simp) (by simp)
    rw [← hg'] at ht
    have hactive : g'.active = decide (active = 1) := by rw [hg']; rfl
    have hsettings : t.settings = (s.writeZone z g' band.toNat).settings := by rw [ht]
    have houtputs : t.outputs = (s.writeZone z g' band.toNat).outputs := by rw [ht]
    have hzone (y : ZoneId) : t.zone y = (s.writeZone z g' band.toNat).zone y := by rw [ht]; rfl
    have hchannels (y : ZoneId) : t.channels y = (s.writeZone z g' band.toNat).channels y := by rw [ht]; rfl
    have hwood : g'.woodFitted = false ↔ wood = 0 := by
      have hw : wood.toNat ≤ 1 := hlegal _ (by simp [legal])
      have hwritten : g'.woodFitted = decide (wood = 1) := by rw [hg']; rfl
      rw [hwritten, decide_eq_false_iff_not]
      bv_omega
    refine ⟨t, hserved, ?_, ?_, fun y hy => ⟨?_, ?_⟩, ?_, fun hsame => ?_, fun hoff hon => ⟨fun hidle => ?_,
      fun step hrun hstep => ?_⟩, fun hon hoff => ?_⟩
    · rw [ht, s.writeZone_others z g' band.toNat]
    · rw [hsettings, s.writeZone_settings, hg']; rfl
    · rw [hzone, s.writeZone_zone_ne _ _ _ hy]
    · rw [hchannels, s.writeZone_channels, if_neg fun h => hy h.1]
    · rw [hchannels, s.writeZone_channels]
      simp only [true_and, hwood]
      rfl
    · rw [hzone, s.writeZone_zone_kept _ _ _ (hactive.trans hsame.symm)]
    · rw [hzone, s.writeZone_activated_idle z g' band.toNat hoff (by simp [hactive, hon]) hidle]
    · rw [hzone, s.writeZone_activated_run z g' band.toNat hoff (by simp [hactive, hon]) hrun hstep]
    · rw [hzone, houtputs]
      exact s.writeZone_deactivated z g' band.toNat hon (by simp [hactive, hoff])
  · exact servedUnchanged_of_handled (c := .zoneConfig tag _) h rfl (by simp) rfl (handleZoneConfig_badLength s z h0 h7)
  · exact servedUnchanged_of_handled (c := .zoneConfig tag _) h rfl (by simp) rfl (handleZoneConfig_noZone s hpayload)

end Sys2Proof.Machine
end

section
/-! SUPPORT. The channels of a sample set (R109 to R112): a sample taken, and the notices that the set brings. -/

namespace Sys2Proof.Machine

/-! ### A channel takes a sample (R109 to R111) -/

theorem sampleCause_value (v : Int) :
    sampleCause (.value v) = if -400 ≤ v ∧ v ≤ 1500 then none else some .outOfRange := by
  simp [sampleCause, inRangeInt]

theorem sampleCause_value_good {v : Int} (hlo : -400 ≤ v) (hhi : v ≤ 1500) : sampleCause (.value v) = none := by
  rw [sampleCause_value, if_pos ⟨hlo, hhi⟩]

section
variable {c : Channel} {x : Sample}

theorem Channel.take_good (hs : c.state = .ok) (hx : sampleCause x = none) :
    c.take x =
      ({ c with last := some (sampleTenths x), published := some (sampleTenths x), badCount := 0 }, .quiet) := by
  simp only [Channel.take, hs, hx]

/-- R110: a bad sample before the third. -/
theorem Channel.take_bad {k : BadCause} (hs : c.state = .ok) (hx : sampleCause x = some k) (hc : c.badCount + 1 < 3) :
    c.take x = ({ c with badCount := c.badCount + 1, cause := some k }, .quiet) := by
  simp only [Channel.take, hs, hx, if_pos hc]

/-- R110: the third bad sample. -/
theorem Channel.take_faults {k : BadCause} (hs : c.state = .ok) (hx : sampleCause x = some k) (hc : 2 ≤ c.badCount) :
    c.take x = ({ c with badCount := 3, goodCount := 0, state := .fault, cause := some k }, .fault k) := by
  simp only [Channel.take, hs, hx, if_neg (by omega : ¬ c.badCount + 1 < 3)]

/-- R111: a good sample before the third. -/
theorem Channel.take_goodInFault (hs : c.state = .fault) (hx : sampleCause x = none) (hc : c.goodCount + 1 < 3) :
    c.take x = ({ c with last := some (sampleTenths x), goodCount := c.goodCount + 1 }, .quiet) := by
  simp only [Channel.take, hs, hx, if_pos hc]

/-- R111: the third good sample. -/
theorem Channel.take_recovers (hs : c.state = .fault) (hx : sampleCause x = none) (hc : 2 ≤ c.goodCount) :
    c.take x =
      ({ c with
          last := some (sampleTenths x), published := some (sampleTenths x), state := .ok, badCount := 0, goodCount := 0 },
        .recovered) := by
  simp only [Channel.take, hs, hx, if_neg (by omega : ¬ c.goodCount + 1 < 3)]

theorem Channel.take_badInFault {k : BadCause} (hs : c.state = .fault) (hx : sampleCause x = some k) :
    c.take x = ({ c with goodCount := 0, cause := some k }, .quiet) := by
  simp only [Channel.take, hs, hx]

end

/-! ### The channels of a zone (R108, R112) -/

/-- R109, R112: a zone's channels after its samples; the WOOD channel takes one only when it is fitted. -/
def ZoneChannels.sampled (c : ZoneChannels) (woodFitted : Bool) (x : ZoneSamples) : ZoneChannels :=
  { db := (c.db.take x.db).1, wb := (c.wb.take x.wb).1
    wood := if woodFitted then (c.wood.take x.wood).1 else c.wood }

/-- R110 to R112: the notices of a zone's samples, in ascending channel number. -/
def State.zoneNotices (s : State) (x : Zones ZoneSamples) (z : ZoneId) : List (NoticeKind × Nat × Nat) :=
  newsNotices (3 * z.number - 2) ((s.channels z).db.take (x.get z).db).2 ++
  newsNotices (3 * z.number - 1) ((s.channels z).wb.take (x.get z).wb).2 ++
  if (s.zoneSettings z).woodFitted then newsNotices (3 * z.number) ((s.channels z).wood.take (x.get z).wood).2 else []

theorem State.noticeChannel_notices (s : State) (channel : Nat) (news : ChannelNews) :
    (s.noticeChannel channel news).notices = noticesAfter s (newsNotices channel news) := by
  cases news <;> rfl

section
variable (s : State) (x : Zones ZoneSamples)

theorem State.sampleZone_channels (z : ZoneId) :
    (s.sampleZone x z).channels z = (s.channels z).sampled (s.zoneSettings z).woodFitted (x.get z) := by
  cases hw : (s.zoneSettings z).woodFitted <;> simp [State.sampleZone, State.channels, ZoneChannels.sampled, hw]

/-- R109: a zone's samples move neither the count of seconds nor the mark. -/
theorem State.sampleZone_clock (z : ZoneId) :
    (s.sampleZone x z).sampler.timer = s.sampler.timer ∧ (s.sampleZone x z).sampler.mark = s.sampler.mark := by
  simp [State.sampleZone]

theorem dbChannel_next (z : ZoneId) : dbChannel z + 1 = 3 * z.number - 1 ∧ dbChannel z + 2 = 3 * z.number := by
  cases z <;> exact ⟨rfl, rfl⟩

theorem State.sampleZone_notices (z : ZoneId) : (s.sampleZone x z).notices = noticesAfter s (s.zoneNotices x z) := by
  obtain ⟨hwb, hwood⟩ := dbChannel_next z
  obtain ⟨db, hdb⟩ : ∃ db, db = (s.channels z).db.take (x.get z).db := ⟨_, rfl⟩
  obtain ⟨wb, hwbTaken⟩ : ∃ wb, wb = (s.channels z).wb.take (x.get z).wb := ⟨_, rfl⟩
  obtain ⟨wood, hwoodTaken⟩ : ∃ wood, wood = if (s.zoneSettings z).woodFitted then
    (s.channels z).wood.take (x.get z).wood else ((s.channels z).wood, .quiet) := ⟨_, rfl⟩
  have hnews : newsNotices (3 * z.number) wood.2 =
      if (s.zoneSettings z).woodFitted then newsNotices (3 * z.number) ((s.channels z).wood.take (x.get z).wood).2
      else [] := by
    rw [hwoodTaken]; split <;> rfl
  simp only [State.sampleZone, State.zoneNotices, ← hdb, ← hwbTaken, ← hwoodTaken, ← hnews, hwb, hwood]
  rw [State.noticeChannel_notices, noticesAfter_append (s := s) (by simp), List.append_assoc]
  rw [State.noticeChannel_notices, noticesAfter_append (s := s) (by simp)]
  exact State.noticeChannel_notices _ _ _

theorem State.zoneNotices_congr {t : State} {z : ZoneId} (hc : t.channels z = s.channels z)
    (hs : t.settings = s.settings) : t.zoneNotices x z = s.zoneNotices x z := by
  have hg : t.zoneSettings z = s.zoneSettings z := by rw [State.zoneSettings, hs]; rfl
  rw [State.zoneNotices, hc, hg]
  rfl

theorem State.sampleZone_settings (z : ZoneId) :
    (s.sampleZone x z).settings = s.settings ∧ (s.sampleZone x z).clock = s.clock := by
  simp [State.sampleZone]

/-- R109: zones sampled in turn queue their notices in turn. -/
theorem State.foldl_sampleZone_notices (zs : List ZoneId) (hzs : zs.Nodup) :
    (zs.foldl (fun t z => t.sampleZone x z) s).notices = noticesAfter s (zs.flatMap (s.zoneNotices x)) := by
  induction zs generalizing s with
  | nil => rfl
  | cons z zs ih =>
    obtain ⟨hz, hrest⟩ := List.nodup_cons.1 hzs
    obtain ⟨hsettings, hclock⟩ := s.sampleZone_settings x z
    have hlater : zs.flatMap ((s.sampleZone x z).zoneNotices x) = zs.flatMap (s.zoneNotices x) :=
      List.flatMap_congr fun y hy => State.zoneNotices_congr s x
        (State.sampleZone_channels_ne s x fun h => hz (h ▸ hy)) hsettings
    rw [List.foldl_cons, ih _ hrest, hlater, List.flatMap_cons]
    exact noticesAfter_append hclock (s.sampleZone_notices x z) _

theorem State.sampleChannels_notices : (s.sampleChannels x).notices = noticesAfter s (setNotices s x) :=
  State.foldl_sampleZone_notices s x ZoneId.all (by decide)

theorem State.sampleChannels_channels (z : ZoneId) :
    (s.sampleChannels x).channels z = (s.channels z).sampled (s.zoneSettings z).woodFitted (x.get z) := by
  have hall : s.sampleChannels x = (((s.sampleZone x .z1).sampleZone x .z2).sampleZone x .z3).sampleZone x .z4 := rfl
  have hsettings (t : State) (y : ZoneId) : (t.sampleZone x y).zoneSettings z = t.zoneSettings z := by
    simp only [State.zoneSettings, (t.sampleZone_settings x y).1]
  rw [hall]
  cases z <;> simp [State.sampleZone_channels, State.sampleZone_channels_ne, hsettings]

theorem State.sampleChannels_clock :
    (s.sampleChannels x).sampler.timer = s.sampler.timer ∧ (s.sampleChannels x).sampler.mark = s.sampler.mark := by
  simp [State.sampleChannels, ZoneId.all, State.sampleZone_clock]

end

end Sys2Proof.Machine
end

section
/-! SUPPORT. The zones of a sample set (R113 to R119): setpoints recomputed, loops judged, demands handed over. -/

namespace Sys2Proof.Machine

/-! ### Setpoints (R115) -/

theorem Ramp.setpointAt_eq_after (r : Ramp) (m : Nat) : { r with setpoint := r.setpointAt m } = r.after m := by
  simp only [Ramp.setpointAt, Ramp.after, Int.natCast_natAbs]

/-- R115: a zone with its working setpoint after the step running minutes. -/
def ZoneLoops.recomputed (x : ZoneLoops) (m : Nat) : ZoneLoops := { x with ramp := x.ramp.map (·.after m) }

section
variable (s : State)

theorem State.recomputeSetpoint_zone (z : ZoneId) :
    (s.recomputeSetpoint z).zone z = (s.zone z).recomputed s.run.stepMinutes := by
  cases h : (s.zone z).ramp with
  | none =>
    have hkept : (s.zone z).recomputed s.run.stepMinutes = s.zone z := by rw [ZoneLoops.recomputed, h, Option.map_none, ← h]
    simp only [State.recomputeSetpoint, h, hkept]
  | some r => simp [State.recomputeSetpoint, h, ZoneLoops.recomputed, Ramp.setpointAt_eq_after]

theorem State.setZone_zone_ne (x : ZoneLoops) {y z : ZoneId} (h : y ≠ z) : (s.setZone z x).zone y = s.zone y :=
  zones_get_set_ne _ _ _ _ h

theorem State.recomputeSetpoint_zone_ne {y z : ZoneId} (h : y ≠ z) : (s.recomputeSetpoint z).zone y = s.zone y := by
  unfold State.recomputeSetpoint
  dsimp only
  split
  · exact s.setZone_zone_ne _ h
  · rfl

end

/-! ### The loops of one zone (R117) -/

/-- What the loops of a zone are judged from. -/
structure State.LoopsAgree (s t : State) (z : ZoneId) : Prop where
  zone : t.zone z = s.zone z
  settings : t.settings = s.settings
  run : t.run = s.run
  fans : t.fans = s.fans
  sampler : t.sampler = s.sampler

section
variable {s t : State} {z : ZoneId}

theorem State.LoopsAgree.zoneSettings (h : s.LoopsAgree t z) : t.zoneSettings z = s.zoneSettings z := by
  simp only [State.zoneSettings, h.settings]

theorem State.LoopsAgree.channels (h : s.LoopsAgree t z) : t.channels z = s.channels z := by
  simp only [State.channels, h.sampler]

theorem State.LoopsAgree.zoneCondition (h : s.LoopsAgree t z) : t.zoneCondition z = s.zoneCondition z := by
  have hactive : t.zoneActive z = s.zoneActive z := by simp only [State.zoneActive, h.zoneSettings]
  simp only [State.zoneCondition, hactive, h.zone, h.run]

theorem State.LoopsAgree.heatLoop (h : s.LoopsAgree t z) : t.heatLoop z = s.heatLoop z := by
  have hcondition : t.heatCondition z = s.heatCondition z := by
    simp only [State.heatCondition, h.zoneCondition, h.zoneSettings, h.channels, h.fans]
  simp only [State.heatLoop, State.heatError, hcondition, h.zone, h.zoneSettings, h.channels]

theorem State.LoopsAgree.humidityLoop (h : s.LoopsAgree t z) : t.humidityLoop z = s.humidityLoop z := by
  have hcondition : t.humidityCondition z = s.humidityCondition z := by
    simp only [State.humidityCondition, h.zoneCondition, h.zoneSettings, h.channels, h.fans]
  simp only [State.humidityLoop, State.humidityError, hcondition, h.zone, h.zoneSettings, h.channels]

theorem State.judgeLoops_zone (s : State) (z : ZoneId) :
    (s.judgeLoops z).zone z =
      { s.zone z with
        heat := s.heatLoop z, humidity := s.humidityLoop z
        sprayDemand := (sprayVent (s.zone z) (s.humidityLoop z)).1
        ventDemand := (sprayVent (s.zone z) (s.humidityLoop z)).2 } := by
  rw [State.judgeLoops, State.setZone_zone]

/-- R115, R117: one zone of a sample set. -/
def State.zoneTakesSet (s : State) (z : ZoneId) : State := (s.recomputeSetpoint z).judgeLoops z

theorem State.zoneTakesSet_frame (s : State) (z : ZoneId) :
    (s.zoneTakesSet z).settings = s.settings ∧ (s.zoneTakesSet z).run = s.run ∧ (s.zoneTakesSet z).fans = s.fans ∧
      (s.zoneTakesSet z).sampler = s.sampler := by
  simp [State.zoneTakesSet]

theorem State.zoneTakesSet_zone_ne (s : State) {y z : ZoneId} (h : y ≠ z) : (s.zoneTakesSet z).zone y = s.zone y :=
  (State.setZone_zone_ne _ _ h).trans (s.recomputeSetpoint_zone_ne h)

theorem State.LoopsAgree.zoneTakesSet (h : s.LoopsAgree t z) : (t.zoneTakesSet z).zone z = (s.zoneTakesSet z).zone z := by
  have hset : (s.recomputeSetpoint z).LoopsAgree (t.recomputeSetpoint z) z :=
    ⟨by rw [State.recomputeSetpoint_zone, State.recomputeSetpoint_zone, h.zone, h.run], by simp [h.settings],
      by simp [h.run], by simp [h.fans], by simp [h.sampler]⟩
  rw [State.zoneTakesSet, State.zoneTakesSet, State.judgeLoops_zone, State.judgeLoops_zone, hset.zone, hset.heatLoop,
    hset.humidityLoop]

/-- The zones before a zone leave what its loops are judged from. -/
theorem State.LoopsAgree.before {y : ZoneId} (h : s.LoopsAgree t z) (hy : z ≠ y) : s.LoopsAgree (t.zoneTakesSet y) z := by
  obtain ⟨hsettings, hrun, hfans, hsampler⟩ := t.zoneTakesSet_frame y
  exact ⟨(t.zoneTakesSet_zone_ne hy).trans h.zone, hsettings.trans h.settings, hrun.trans h.run, hfans.trans h.fans,
    hsampler.trans h.sampler⟩

theorem State.foldl_zoneTakesSet_ne (zs : List ZoneId) (hz : z ∉ zs) :
    (zs.foldl State.zoneTakesSet s).zone z = s.zone z := by
  induction zs generalizing s with
  | nil => rfl
  | cons y zs ih =>
    obtain ⟨hy, hrest⟩ := not_or.1 (List.mem_cons.not.1 hz)
    exact (ih hrest).trans (s.zoneTakesSet_zone_ne hy)

theorem State.LoopsAgree.foldl_zoneTakesSet {zs : List ZoneId} (hzs : zs.Nodup) (hz : z ∈ zs) (h : s.LoopsAgree t z) :
    (zs.foldl State.zoneTakesSet t).zone z = (s.zoneTakesSet z).zone z := by
  induction zs generalizing t with
  | nil => cases hz
  | cons y zs ih =>
    obtain ⟨hy, hrest⟩ := List.nodup_cons.1 hzs
    by_cases hyz : z = y
    · subst hyz
      exact (State.foldl_zoneTakesSet_ne zs hy).trans h.zoneTakesSet
    · exact ih hrest ((List.mem_cons.1 hz).resolve_left hyz) (h.before hyz)

/-- R113 to R119: at a sample set each zone is judged by itself. -/
theorem State.zonesTakeSet_zone (s : State) (z : ZoneId) : s.zonesTakeSet.zone z = (s.zoneTakesSet z).zone z := by
  have hzones : s.zonesTakeSet.zone z = (ZoneId.all.foldl State.zoneTakesSet s).zone z := rfl
  rw [hzones]
  exact State.LoopsAgree.foldl_zoneTakesSet (by decide) (by cases z <;> decide) ⟨rfl, rfl, rfl, rfl, rfl⟩

/-- R117, R122: every zone's demands are handed over. -/
theorem State.zonesTakeSet_demands (s : State) (z : ZoneId) :
    (s.zonesTakeSet.outputs.get z).heat.demand = (s.zonesTakeSet.zone z).heat.demand.toNat ∧
      (s.zonesTakeSet.outputs.get z).spray.demand = (s.zonesTakeSet.zone z).sprayDemand ∧
      (s.zonesTakeSet.outputs.get z).vent.demand = (s.zonesTakeSet.zone z).ventDemand := by
  simp only [State.zonesTakeSet, State.handAllDemands, zones_get_map, handedOver, Vent.refresh]
  exact ⟨rfl, rfl, rfl⟩

end

/-! ### The set up to the Run Controller -/

section
variable (s : State) (x : Zones ZoneSamples) (z : ZoneId)

theorem State.setSampled_sampler : (s.setSampled x).sampler =
    (({ s with sampler := s.sampler.takeMark } : State).sampleChannels x).sampler := by
  simp [State.setSampled]

theorem State.setSampled_channels :
    (s.setSampled x).channels z = (s.channels z).sampled (s.zoneSettings z).woodFitted (x.get z) := by
  rw [State.channels, State.setSampled_sampler]
  exact State.sampleChannels_channels _ x z

theorem State.setSampled_notices : (s.setSampled x).notices = noticesAfter s (setNotices s x) := by
  have hnotices : (s.setSampled x).notices =
      (({ s with sampler := s.sampler.takeMark } : State).sampleChannels x).notices := by
    simp [State.setSampled]
  rw [hnotices]
  exact State.sampleChannels_notices _ x

theorem State.setSampled_clock :
    (s.setSampled x).sampler.timer = s.sampler.timer ∧
      (s.setSampled x).sampler.mark = if s.sampler.mark = .due then .none else .early := by
  rw [State.setSampled_sampler]
  obtain ⟨htimer, hmark⟩ := ({ s with sampler := s.sampler.takeMark } : State).sampleChannels_clock x
  refine ⟨htimer, hmark.trans ?_⟩
  cases h : s.sampler.mark <;> simp [Sampler.takeMark, h]

/-- The state that the zones judge: its channels sampled. -/
def State.channelsSampled : State := ({ s with sampler := s.sampler.takeMark } : State).sampleChannels x

theorem State.channelsSampled_frame : (s.channelsSampled x).settings = s.settings ∧ (s.channelsSampled x).run = s.run ∧
    (s.channelsSampled x).fans = s.fans ∧ (s.channelsSampled x).zones = s.zones := by
  simp [State.channelsSampled]

theorem State.setSampled_zone : (s.setSampled x).zone z = ((s.channelsSampled x).zoneTakesSet z).zone z := by
  rw [← State.zonesTakeSet_zone]
  rfl

theorem State.setSampled_demands :
    ((s.setSampled x).outputs.get z).heat.demand = ((s.setSampled x).zone z).heat.demand.toNat ∧
      ((s.setSampled x).outputs.get z).spray.demand = ((s.setSampled x).zone z).sprayDemand ∧
      ((s.setSampled x).outputs.get z).vent.demand = ((s.setSampled x).zone z).ventDemand := by
  obtain ⟨hheat, hspray, hvent⟩ := State.refreshOutputs_demands (s.channelsSampled x).zonesTakeSet z
  obtain ⟨hheat', hspray', hvent'⟩ := (s.channelsSampled x).zonesTakeSet_demands z
  exact ⟨hheat.trans hheat', hspray.trans hspray', hvent.trans hvent'⟩

theorem State.setSampled_ramp :
    ((s.setSampled x).zone z).ramp = (s.zone z).ramp.map (·.after s.run.stepMinutes) := by
  obtain ⟨-, hrun, -, hzones⟩ := s.channelsSampled_frame x
  rw [State.setSampled_zone, State.zoneTakesSet, State.judgeLoops_zone]
  have hzone : (s.channelsSampled x).zone z = s.zone z := by rw [State.zone, hzones]; rfl
  simp only [State.recomputeSetpoint_zone, ZoneLoops.recomputed, hzone, hrun]

end

theorem exec_sampleSet {s : State} (ha : s.Awake) (hr : s.ready = true) (hd : s.sampler.setIsDue = true)
    (x : Zones ZoneSamples) : exec (.sampleSet x) s = .next ((s.setSampled x).runTakeSet).finishEvent := by
  show Host.Outcome.next (s.event fun t => if t.ready && t.sampler.setIsDue then t.takeSet x else t) = _
  rw [s.event_of_awake ha, hr, hd]
  rfl

end Sys2Proof.Machine
end

section
/-! O9: a sample set, with SENSOR and the tests that the Run Controller judges at it. -/

namespace Sys2Proof.Machine

/-! ### The judgements of a set (R91, R92, R98) -/

section
variable {s : State}

theorem Channel.usable_of_ok {c : Channel} (h : c.state = .ok) : c.usable = c.published := by simp [Channel.usable, h]

theorem Channel.usable_of_fault {c : Channel} (h : c.state = .fault) : c.usable = none := by simp [Channel.usable, h]

/-- R91, R113: the WB that a zone is judged by, its DB published. -/
theorem ZoneChannels.usableWb_of_published {c : ZoneChannels} {db : Int} (h : c.db.published = some db) :
    c.usableWb = if c.wb.state = .ok then c.wb.published.map fun wb => if c.db.state = .ok then min wb db else wb
      else none := by
  rw [ZoneChannels.usableWb_eq]
  cases hwb : c.wb.state <;> cases hdb : c.db.state <;>
    simp [Channel.usable_of_ok, Channel.usable_of_fault, hwb, hdb, h]

theorem State.zoneInBand_iff {z : ZoneId} : s.zoneInBand z = true ↔ s.ZoneWithinBand z := by
  unfold State.zoneInBand State.ZoneWithinBand
  cases hr : (s.zone z).ramp with
  | none => simp
  | some r =>
    cases hdb : (s.channels z).db.published with
    | none => simp
    | some db =>
      simp only [ZoneChannels.usableWb_of_published hdb, Ramp.wetSetpoint, Int.natCast_natAbs]
      cases hok : (s.channels z).wb.state <;> cases hwb : (s.channels z).wb.published <;> simp

theorem State.allCooled_iff {x : StepRecord} : s.allCooled x = true ↔ s.CooledTo x.dbTarget := by
  refine ⟨fun h => ?_, State.allCooled_of_cooledTo⟩
  rw [State.allCooled, Bool.and_eq_true, List.all_eq_true] at h
  obtain ⟨hsome, hall⟩ := h
  refine ⟨?_, fun z hz => ?_⟩
  · by_contra hnone
    have hempty : s.activeZones = [] := s.activeZones_eq_nil_iff.2 fun z => by simpa using fun hz => hnone ⟨z, hz⟩
    simp [hempty] at hsome
  · have hcooled := hall z ((s.mem_activeZones z).2 hz)
    unfold State.zoneCooled at hcooled
    cases hdb : (s.channels z).db.published with
    | none => simp [hdb] at hcooled
    | some v => exact ⟨v, rfl, by simpa [hdb] using hcooled⟩

theorem State.evaluates_settled_unique {x y : StepRecord} {test test' : StepTest} (hx : s.Evaluates test x)
    (hy : s.Evaluates test' y) : x = y := Option.some.inj (hx.2.1.symm.trans hy.2.1)

/-- R91: what the settle judgement makes of the run. -/
def State.settledRun (s : State) : Run :=
  if s.activeZones = [] then { s.run with inBand := false }
  else if s.activeZones.all s.zoneInBand then { s.run with inBand := true }
  else { s.run with inBand := false, settleTimer := 0 }

theorem State.judgeSettle_eq : s.judgeSettle = { s with run := s.settledRun } := by
  unfold State.judgeSettle State.settledRun
  cases h : s.activeZones with
  | nil => rfl
  | cons z zs => simp only [reduceCtorEq, if_false]; split <;> rfl

theorem State.settleJudged_settledRun {x : StepRecord} (he : s.Evaluates .settled x) : SettleJudged s s.settledRun := by
  refine ⟨fun hnot => absurd he (hnot x), fun y _ => ⟨fun hnone => ?_, fun hsome hall => ?_, fun hout => ?_⟩⟩
  · exact if_pos (s.activeZones_eq_nil_iff.2 hnone)
  · obtain ⟨z, hz⟩ := hsome
    have hne : s.activeZones ≠ [] := List.ne_nil_of_mem ((s.mem_activeZones z).2 hz)
    have hin : s.activeZones.all s.zoneInBand = true :=
      List.all_eq_true.2 fun y hy => State.zoneInBand_iff.2 (hall y ((s.mem_activeZones y).1 hy))
    rw [State.settledRun, if_neg hne, if_pos hin]
  · obtain ⟨z, hz, hzout⟩ := hout
    have hmem := (s.mem_activeZones z).2 hz
    have hnotIn : ¬ s.activeZones.all s.zoneInBand = true := fun hall =>
      hzout (State.zoneInBand_iff.1 (List.all_eq_true.1 hall z hmem))
    rw [State.settledRun, if_neg (List.ne_nil_of_mem hmem), if_neg hnotIn]

theorem State.settledRun_state : s.settledRun.state = s.run.state := by
  unfold State.settledRun
  split
  · rfl
  · split <;> rfl

theorem SettleJudged.kept (h : ∀ x, ¬ s.Evaluates .settled x) : SettleJudged s s.run :=
  ⟨fun _ => rfl, fun x hx => absurd hx (h x)⟩

/-- R91, R92: the test of a set that does not end the step. -/
theorem State.testAtSet_goesOn (h : ∀ x, s.Evaluates .cooled x → ¬ s.CooledTo x.dbTarget) :
    ∃ r, s.testAtSet = { s with run := r } ∧ SettleJudged s r ∧ r.state = s.run.state := by
  cases he : s.evaluatedStep with
  | none =>
    refine ⟨s.run, by simp only [State.testAtSet, he], .kept fun x hx => ?_, rfl⟩
    rw [State.evaluatedStep_eq_some_iff.2 ⟨hx.1, hx.2.1, hx.2.2.2⟩] at he
    cases he
  | some y =>
    obtain ⟨hrunning, hstep, hmin⟩ := State.evaluatedStep_eq_some_iff.1 he
    have hevaluates : s.Evaluates y.test y := ⟨hrunning, hstep, rfl, hmin⟩
    have hother (hne : y.test ≠ .settled) : SettleJudged s s.run :=
      .kept fun x hx => hne (by rw [State.evaluates_settled_unique hevaluates hx]; exact hx.2.2.1)
    cases htest : y.test with
    | settled =>
      exact ⟨s.settledRun, by simp only [State.testAtSet, he, htest, State.judgeSettle_eq],
        State.settleJudged_settledRun (htest ▸ hevaluates), State.settledRun_state⟩
    | cooled =>
      have hnot : ¬ s.allCooled y = true := fun hall => h y (htest ▸ hevaluates) (State.allCooled_iff.1 hall)
      exact ⟨s.run, by simp only [State.testAtSet, he, htest, if_neg hnot], hother (by rw [htest]; decide), rfl⟩
    | mc | hours | mcOrHours | mcAndHours =>
      exact ⟨s.run, by simp only [State.testAtSet, he, htest], hother (by rw [htest]; decide), rfl⟩

end

/-! ### SENSOR judged at a set (R97, R98) -/

section
variable (s : State) (x : Zones ZoneSamples)

/-- R98: the state in which the Run Controller's test is judged. -/
def State.sensorJudged : State := (s.setSampled x).judgeReason .sensor (s.setSampled x).sensorFault

theorem State.sensorJudged_due :
    ((s.sensorJudged x).run.state = s.run.state → (s.sensorJudged x).due = s.due) ∧
      ((s.sensorJudged x).run.state ≠ s.run.state → (s.sensorJudged x).due = { s.due with checkpoint := true }) := by
  obtain ⟨-, -, hrun, -, hdue⟩ := s.setSampled_frame x
  obtain ⟨-, hsame, hchanged⟩ := (s.setSampled x).judgeReason_judges .sensor (s.setSampled x).sensorFault
  rw [hrun, hdue] at hsame hchanged
  exact ⟨hsame, hchanged⟩

/-- R109 to R115, R98: the set has been taken, but for the test. -/
theorem State.sensorJudged_taken : SetTaken s x { s.sensorJudged x with due := s.due } := by
  obtain ⟨hsettings, -, hrun, -, -⟩ := s.setSampled_frame x
  obtain ⟨⟨notices, hjudged, hnotices⟩, -, -⟩ :=
    (s.setSampled x).judgeReason_judges .sensor (s.setSampled x).sensorFault
  have hsampler : (s.sensorJudged x).sampler = (s.setSampled x).sampler := by simp [State.sensorJudged]
  have hzones : (s.sensorJudged x).zones = (s.setSampled x).zones := by simp [State.sensorJudged]
  have hchannels (z : ZoneId) :
      (s.sensorJudged x).channels z = (s.channels z).sampled (s.zoneSettings z).woodFitted (x.get z) := by
    rw [State.channels, hsampler]; exact s.setSampled_channels x z
  obtain ⟨htimer, hmark⟩ := s.setSampled_clock x
  refine ⟨State.eq_of_blocks ?_, ?_, ?_, fun z => ⟨?_, ?_, ?_, ?_⟩, notices, ?_, ?_⟩
  · simp [State.sensorJudged, State.setSampled]
  · exact (congrArg Sampler.timer hsampler).trans htimer
  · exact (congrArg Sampler.mark hsampler).trans hmark
  · exact congrArg ZoneChannels.db (hchannels z)
  · exact congrArg ZoneChannels.wb (hchannels z)
  · exact congrArg ZoneChannels.wood (hchannels z)
  · have hzone : (s.sensorJudged x).zone z = (s.setSampled x).zone z := congrArg (Zones.get · z) hzones
    exact (congrArg ZoneLoops.ramp hzone).trans (s.setSampled_ramp x z)
  · have hpresent : ((s.setSampled x).sensorFault = true) =
        ∃ z, s.zoneActive z = true ∧ ((s.sensorJudged x).channels z).db.state = .fault := by
      have hactive := State.zoneActive_congr (congrArg Settings.zones hsettings)
      simp only [State.sensorFault_iff, hactive, State.channels, hsampler]
    rw [hrun, hpresent] at hjudged
    exact hjudged
  · exact hnotices.trans (noticesAfter_append (by simp [State.setSampled]) (s.setSampled_notices x) notices)

end

/-! ### The end of the set's event (R88, R95, R106) -/

section
variable {s v : State}

theorem State.AsksAtMost.finishEvent_due (h : s.AsksAtMost v) (hd : s.due = .none) : v.finishEvent.due = .none := by
  rw [State.AsksAtMost, hd] at h
  exact State.finishEvent_due h

/-- R88, R106: the set's event, its step gone on with the run `r`. -/
theorem State.finishEvent_goesOn (r : Run) (hd : s.due = .none) (hm : v.memory = s.memory)
    (hsame : v.run.state = s.run.state → v.due = s.due)
    (hchanged : v.run.state ≠ s.run.state → v.due = { s.due with checkpoint := true }) :
    let t := ({ v with run := r } : State).finishEvent
    t = { v with due := s.due, run := t.run, memory := t.memory } ∧ t.run = r ∧
      (v.run.state = s.run.state → t.memory = s.memory) ∧ (v.run.state ≠ s.run.state → AsksCheckpoint s t) := by
  obtain ⟨v', hv'⟩ : ∃ v' : State, v' = { v with run := r } := ⟨_, rfl⟩
  have hmemory : v'.memory = s.memory := by rw [← hm, hv']
  have hkept : v'.due = v.due := by rw [hv']
  have hasks : s.AsksAtMost v' := by
    rw [State.AsksAtMost, hkept]
    exact (em (v.run.state = s.run.state)).imp hsame hchanged
  have hdue := hasks.finishEvent_due hd
  rw [← hv']
  refine ⟨State.eq_of_blocks ?_, by simp [hv'], fun hstate => ?_, fun hstate => ?_⟩
  · rw [hdue]
    simp [hv', hd]
  · rw [State.finishEvent_of_due_none _ (hkept.trans ((hsame hstate).trans hd)), hmemory]
  · exact (asksCheckpoint_of_due (hkept.trans (hchanged hstate))).finishEvent hmemory

/-- R95, R106: the set's event, its step ended. -/
theorem State.finishEvent_endsStep (hd : s.due = .none) (hasks : s.AsksAtMost v) :
    let t := v.stepEnd.finishEvent
    StepEnds { v with due := s.due } t [] ∧
      t =
        { v with
          due := s.due, run := t.run, zones := t.zones, outputs := t.outputs, fans := t.fans, schedule := t.schedule
          notices := t.notices, memory := t.memory } := by
  have hdue := (hasks.trans v.stepEnd_asksAtMost).finishEvent_due hd
  have hmemory : v.stepEnd.memory = v.memory := by simp
  refine ⟨v.stepEnd_ends.congr ⟨rfl, rfl, rfl, rfl, rfl, rfl, rfl, rfl, rfl⟩ (State.RunAgrees.refl _).finishEvent
    fun hask => ?_, State.eq_of_blocks ?_⟩
  · exact (hask.finishEvent hmemory).congr rfl (State.RunAgrees.refl _) rfl rfl
  · rw [hdue]
    simp [hd]

end

/-- Settles O9: the set is taken up to SENSOR's judgement, and the test then ends the step or lets it go on. -/
theorem sampleSetTakesSamplesAndSetpoints : Obligations.SampleSetTakesSamplesAndSetpoints := by
  unfold Obligations.SampleSetTakesSamplesAndSetpoints
  intro s x ha hready hmark
  have hisDue : s.sampler.setIsDue = true := by
    obtain hmark | ⟨hmark, htimer⟩ := hmark <;> simp [Sampler.setIsDue, *]
  obtain ⟨v, hv⟩ : ∃ v, v = s.sensorJudged x := ⟨_, rfl⟩
  have hd : s.due = .none := ha.due_none
  have hm : v.memory = s.memory := by simp [hv, State.sensorJudged]
  obtain ⟨hsame, hchanged⟩ := s.sensorJudged_due x
  rw [← hv] at hsame hchanged
  refine ⟨{ v with due := s.due }, v.testAtSet.finishEvent, hv ▸ exec_sampleSet ha hready hisDue x,
    hv ▸ s.sensorJudged_taken x, fun hgoes => ?_, fun step he hc => ?_⟩
  · obtain ⟨r, htest, hsettle, -⟩ := State.testAtSet_goesOn (s := v) hgoes
    obtain ⟨hkept, hrun, hmemory, hasks⟩ := State.finishEvent_goesOn r hd hm hsame hchanged
    rw [htest]
    exact ⟨hkept, hrun.symm ▸ hsettle, hmemory, hasks⟩
  · rw [State.testAtSet_cooled (s := v) he hc]
    exact State.finishEvent_endsStep hd ((em (v.run.state = s.run.state)).imp hsame hchanged)

end Sys2Proof.Machine
end

section
/-! SUPPORT. The rows of the loop table (R117 to R119): what decides the row of a loop, and what each row leaves. -/

namespace Sys2Proof.Machine

section
variable {s : State} {z : ZoneId}

/-! ### The rows that hold for both loops -/

/-- R117: a run that is going has the zone in a COOL step. -/
def State.Cools (s : State) (z : ZoneId) : Prop :=
  s.run.state.going = true ∧ ∃ r, (s.zone z).ramp = some r ∧ r.kind = .cool

/-- R117: none of the first four rows holds. -/
def State.LoopsJudged (s : State) (z : ZoneId) : Prop :=
  (s.zoneSettings z).active = true ∧ s.run.state.going = true ∧ ∀ r, (s.zone z).ramp = some r → r.kind ≠ .cool

theorem State.zoneCondition_inactive (ha : (s.zoneSettings z).active = false) : s.zoneCondition z = some .inactive := by
  simp [State.zoneCondition, State.zoneActive, ha]

section
variable (ha : (s.zoneSettings z).active = true)
include ha

theorem State.zoneCondition_noRun (hr : s.run.state.inProgress = false) : s.zoneCondition z = some .noRun := by
  cases hs : s.run.state <;> simp [hs, RunState.inProgress] at hr <;>
    simp [State.zoneCondition, State.zoneActive, ha, hs]

theorem State.zoneCondition_safe (hs : s.run.state = .safe) : s.zoneCondition z = some .safeHold := by
  simp [State.zoneCondition, State.zoneActive, ha, hs]

theorem State.zoneCondition_going (hg : s.run.state.going = true) :
    s.zoneCondition z = if (s.zone z).ramp.any (fun r => decide (r.kind = .cool)) then some .cool else none := by
  cases hs : s.run.state <;> simp [hs, RunState.going] at hg <;>
    simp [State.zoneCondition, State.zoneActive, ha, hs]

theorem State.Cools.zoneCondition (h : s.Cools z) : s.zoneCondition z = some .cool := by
  obtain ⟨hg, r, hr, hk⟩ := h
  simp [State.zoneCondition_going ha hg, hr, hk]

end

theorem State.LoopsJudged.zoneCondition (h : s.LoopsJudged z) : s.zoneCondition z = none := by
  obtain ⟨ha, hg, hk⟩ := h
  rw [State.zoneCondition_going ha hg]
  cases hr : (s.zone z).ramp with
  | none => rfl
  | some r => simp [hk r hr]

theorem State.cools_of_zoneCondition (h : s.zoneCondition z = some .cool) : s.Cools z := by
  cases ha : (s.zoneSettings z).active with
  | false => rw [State.zoneCondition_inactive ha] at h; cases h
  | true =>
    cases hg : s.run.state.going with
    | true =>
      rw [State.zoneCondition_going ha hg] at h
      cases hr : (s.zone z).ramp with
      | none => rw [hr] at h; cases h
      | some r => exact ⟨hg, r, hr, by simpa [hr] using h⟩
    | false =>
      cases hs : s.run.state with
      | running | held => rw [hs] at hg; cases hg
      | safe => rw [State.zoneCondition_safe ha hs] at h; cases h
      | idle | complete | aborted => rw [State.zoneCondition_noRun ha (by rw [hs]; rfl)] at h; cases h

theorem State.safe_of_zoneCondition (h : s.zoneCondition z = some .safeHold) :
    (s.zoneSettings z).active = true ∧ s.run.state = .safe := by
  cases ha : (s.zoneSettings z).active with
  | false => rw [State.zoneCondition_inactive ha] at h; cases h
  | true =>
    cases hs : s.run.state with
    | safe => exact ⟨rfl, rfl⟩
    | running | held =>
      rw [State.zoneCondition_going ha (by rw [hs]; rfl)] at h
      split at h <;> cases h
    | idle | complete | aborted => rw [State.zoneCondition_noRun ha (by rw [hs]; rfl)] at h; cases h

/-! ### The row of each loop -/

section
variable {c : LoopCondition} (h : s.zoneCondition z = some c)
include h

theorem State.heatCondition_of_zone : s.heatCondition z = c := by simp only [State.heatCondition, h]

theorem State.humidityCondition_of_zone : s.humidityCondition z = c := by simp only [State.humidityCondition, h]

end

section
variable (h : s.LoopsJudged z)
include h

theorem State.LoopsJudged.heatCondition : s.heatCondition z =
    if (s.zoneSettings z).heatMode = .manual then .manual
    else if s.fans.state.isRunning = false then .fanHold
    else if (s.channels z).db.usable.isNone then .sensorHold
    else .evaluated := by
  simp [State.heatCondition, h.zoneCondition]

theorem State.LoopsJudged.humidityCondition : s.humidityCondition z =
    if (s.zoneSettings z).humidityMode = .manual then .manual
    else if s.fans.state.isRunning = false then .fanHold
    else if (s.channels z).db.usable = none ∨ (s.channels z).wb.usable = none then .sensorHold
    else .evaluated := by
  simp only [State.humidityCondition, h.zoneCondition, ZoneChannels.usableWb_eq]
  cases (s.channels z).db.usable <;> cases (s.channels z).wb.usable <;> simp

end

/-- R117: the rows COOL and SAFE_HOLD hold for both loops or for neither. -/
theorem State.zoneCondition_of_humidityCondition {c : LoopCondition} (h : s.humidityCondition z = c)
    (hc : c = .cool ∨ c = .safeHold) : s.zoneCondition z = some c := by
  unfold State.humidityCondition at h
  cases hz : s.zoneCondition z with
  | some c' => rw [hz] at h; exact congrArg some h
  | none =>
    exfalso
    simp only [hz] at h
    obtain rfl | rfl := hc <;> (repeat' split at h) <;> cases h

/-! ### What a row leaves -/

theorem State.heatLoop_noRun (h : s.heatCondition z = .noRun) :
    s.heatLoop z = { integrator := 0, demand := 0, condition := .noRun } := by
  simp only [State.heatLoop, h]

theorem State.heatLoop_dropped {c : LoopCondition} (h : s.heatCondition z = c)
    (hc : c = .inactive ∨ c = .cool ∨ c = .sensorHold) :
    s.heatLoop z = { (s.zone z).heat with demand := 0, condition := c } := by
  obtain rfl | rfl | rfl := hc <;> simp only [State.heatLoop, h]

theorem State.heatLoop_held {c : LoopCondition} (h : s.heatCondition z = c) (hc : c = .safeHold ∨ c = .fanHold) :
    s.heatLoop z = { (s.zone z).heat with condition := c } := by
  obtain rfl | rfl := hc <;> simp only [State.heatLoop, h]

theorem State.heatLoop_manual (h : s.heatCondition z = .manual) :
    s.heatLoop z = { (s.zone z).heat with demand := (s.zoneSettings z).heatManual, condition := .manual } := by
  simp only [State.heatLoop, h]

theorem State.heatLoop_evaluated (h : s.heatCondition z = .evaluated) {e : Int} (he : s.heatError z = some e) :
    s.heatLoop z =
      ({ (s.zone z).heat with condition := .evaluated } : Loop).evaluate 0 1000 (s.zoneSettings z).heatKp
        (s.zoneSettings z).heatKi e := by
  simp only [State.heatLoop, h, he]

theorem State.heatLoop_condition : (s.heatLoop z).condition = s.heatCondition z := by
  unfold State.heatLoop
  dsimp only
  split
  case h_8 => split <;> rfl
  all_goals rfl

theorem State.humidityLoop_noRun (h : s.humidityCondition z = .noRun) :
    s.humidityLoop z = { integrator := 0, demand := 0, condition := .noRun } := by
  simp only [State.humidityLoop, h]

theorem State.humidityLoop_inactive (h : s.humidityCondition z = .inactive) :
    s.humidityLoop z = { (s.zone z).humidity with demand := 0, condition := .inactive } := by
  simp only [State.humidityLoop, h]

theorem State.humidityLoop_held {c : LoopCondition} (h : s.humidityCondition z = c)
    (hc : c = .safeHold ∨ c = .cool ∨ c = .fanHold ∨ c = .sensorHold) :
    s.humidityLoop z = { (s.zone z).humidity with condition := c } := by
  obtain rfl | rfl | rfl | rfl := hc <;> simp only [State.humidityLoop, h]

theorem State.humidityLoop_manual (h : s.humidityCondition z = .manual) :
    s.humidityLoop z = { (s.zone z).humidity with demand := (s.zoneSettings z).humidityManual, condition := .manual } := by
  simp only [State.humidityLoop, h]

theorem State.humidityLoop_evaluated (h : s.humidityCondition z = .evaluated) {e : Int}
    (he : s.humidityError z = some e) :
    s.humidityLoop z =
      ({ (s.zone z).humidity with condition := .evaluated } : Loop).evaluate (-1000) 1000 (s.zoneSettings z).humidityKp
        (s.zoneSettings z).humidityKi e := by
  simp only [State.humidityLoop, h, he]

theorem State.humidityLoop_condition : (s.humidityLoop z).condition = s.humidityCondition z := by
  unfold State.humidityLoop
  dsimp only
  split
  case h_8 => split <;> rfl
  all_goals rfl

theorem State.cools_of_humidityLoop (h : (s.humidityLoop z).condition = .cool) : s.Cools z :=
  State.cools_of_zoneCondition <|
    State.zoneCondition_of_humidityCondition (State.humidityLoop_condition.symm.trans h) (.inl rfl)

theorem State.safe_of_humidityLoop (h : (s.humidityLoop z).condition = .safeHold) :
    (s.zoneSettings z).active = true ∧ s.run.state = .safe :=
  State.safe_of_zoneCondition <|
    State.zoneCondition_of_humidityCondition (State.humidityLoop_condition.symm.trans h) (.inr rfl)

/-! ### Spray and vent (R117, R120) -/

section
variable {before : ZoneLoops} {u : Loop}

theorem sprayVent_cool (h : u.condition = .cool) : sprayVent before u = (0, 1000) := by simp only [sprayVent, h]

theorem sprayVent_safe (h : u.condition = .safeHold) :
    sprayVent before u = (before.sprayDemand, before.ventDemand) := by
  simp only [sprayVent, h]

theorem sprayVent_split (hcool : u.condition ≠ .cool) (hsafe : u.condition ≠ .safeHold) :
    sprayVent before u = (u.demand.toNat, (-u.demand).toNat) := by
  unfold sprayVent
  split
  · exact absurd ‹_› hcool
  · exact absurd ‹_› hsafe
  all_goals rfl

theorem sprayVent_either_of_ne (hsafe : u.condition ≠ .safeHold) :
    (sprayVent before u).1 = 0 ∨ (sprayVent before u).2 = 0 := by
  by_cases hcool : u.condition = .cool
  · rw [sprayVent_cool hcool]; exact .inl rfl
  · rw [sprayVent_split hcool hsafe]
    simp only [Int.toNat_eq_zero]
    omega

end
end

end Sys2Proof.Machine
end

section
/-! O11: the rows of the loop table at a sample set. -/

namespace Sys2Proof.Machine

/-! ### The state in which a zone's loops are judged -/

section
variable (s : State) (x : Zones ZoneSamples) (z : ZoneId)

/-- R113, R115: the set's channels sampled and the zone's setpoint recomputed. -/
def State.rowState : State := (s.channelsSampled x).recomputeSetpoint z

theorem State.rowState_zone : (s.rowState x z).zone z = (s.zone z).recomputed s.run.stepMinutes := by
  obtain ⟨-, hrun, -, hzones⟩ := s.channelsSampled_frame x
  rw [State.rowState, State.recomputeSetpoint_zone, hrun, State.zone, hzones]
  rfl

theorem State.rowState_frame :
    (s.rowState x z).settings = s.settings ∧ (s.rowState x z).run = s.run ∧ (s.rowState x z).fans = s.fans := by
  obtain ⟨hsettings, hrun, hfans, -⟩ := s.channelsSampled_frame x
  simp [State.rowState, hsettings, hrun, hfans]

theorem State.rowState_zoneSettings : (s.rowState x z).zoneSettings z = s.zoneSettings z := by
  rw [State.zoneSettings, (s.rowState_frame x z).1]
  rfl

theorem State.rowState_channels :
    (s.rowState x z).channels z = (s.channels z).sampled (s.zoneSettings z).woodFitted (x.get z) := by
  have hsampler : (s.rowState x z).sampler = (s.channelsSampled x).sampler := by simp [State.rowState]
  rw [State.channels, hsampler]
  exact State.sampleChannels_channels _ x z

theorem State.rowState_cools : (s.rowState x z).Cools z ↔ s.Cools z := by
  simp [State.Cools, State.rowState_zone, State.rowState_frame, ZoneLoops.recomputed, Ramp.after]

theorem State.rowState_loopsJudged : (s.rowState x z).LoopsJudged z ↔ s.LoopsJudged z := by
  simp [State.LoopsJudged, State.rowState_zone, State.rowState_frame, State.rowState_zoneSettings, ZoneLoops.recomputed,
    Ramp.after]

theorem State.setSampled_zone_eq :
    (s.setSampled x).zone z =
      { (s.zone z).recomputed s.run.stepMinutes with
        heat := (s.rowState x z).heatLoop z, humidity := (s.rowState x z).humidityLoop z
        sprayDemand := (sprayVent (s.zone z) ((s.rowState x z).humidityLoop z)).1
        ventDemand := (sprayVent (s.zone z) ((s.rowState x z).humidityLoop z)).2 } := by
  have hzone := s.rowState_zone x z
  rw [State.rowState] at hzone
  rw [State.setSampled_zone, State.zoneTakesSet, State.judgeLoops_zone, hzone]
  rfl

theorem State.rowState_loops :
    ((s.rowState x z).zone z).heat = (s.zone z).heat ∧ ((s.rowState x z).zone z).humidity = (s.zone z).humidity := by
  rw [State.rowState_zone]
  exact ⟨rfl, rfl⟩

section
variable {s : State} {z : ZoneId} (h : s.LoopsJudged z)
include h

/-- R117: the row of the heat loop where none of the first four rows holds. -/
theorem State.LoopsJudged.rowState_heatCondition : (s.rowState x z).heatCondition z =
    if (s.zoneSettings z).heatMode = .manual then .manual
    else if s.fans.state.isRunning = false then .fanHold
    else if ((s.channels z).db.take (x.get z).db).1.usable.isNone then .sensorHold
    else .evaluated := by
  rw [((s.rowState_loopsJudged x z).2 h).heatCondition, State.rowState_zoneSettings, (s.rowState_frame x z).2.2,
    State.rowState_channels]
  rfl

/-- R117: the row of the humidity loop where none of the first four rows holds. -/
theorem State.LoopsJudged.rowState_humidityCondition : (s.rowState x z).humidityCondition z =
    if (s.zoneSettings z).humidityMode = .manual then .manual
    else if s.fans.state.isRunning = false then .fanHold
    else if ((s.channels z).db.take (x.get z).db).1.usable = none ∨ ((s.channels z).wb.take (x.get z).wb).1.usable = none then
      .sensorHold
    else .evaluated := by
  rw [((s.rowState_loopsJudged x z).2 h).humidityCondition, State.rowState_zoneSettings, (s.rowState_frame x z).2.2,
    State.rowState_channels]
  rfl

end

section
variable {s : State} {x : Zones ZoneSamples} {z : ZoneId} {r : Ramp} {d w : Int} (hr : (s.zone z).ramp = some r)
  (hd : ((s.channels z).db.take (x.get z).db).1.usable = some d)
include hr hd

/-- R118: the error of the heat loop. -/
theorem State.rowState_heatError :
    (s.rowState x z).heatError z = some ((r.after s.run.stepMinutes).setpoint - d) := by
  have hdb : ((s.rowState x z).channels z).db.usable = some d := by rw [State.rowState_channels]; exact hd
  have hramp : ((s.rowState x z).zone z).ramp = some (r.after s.run.stepMinutes) := by
    rw [State.rowState_zone, ZoneLoops.recomputed, hr]; rfl
  simp only [State.heatError, hramp, hdb]

/-- R119, R113: the error of the humidity loop. -/
theorem State.rowState_humidityError (hw : ((s.channels z).wb.take (x.get z).wb).1.usable = some w) :
    (s.rowState x z).humidityError z = some ((r.after s.run.stepMinutes).setpoint - r.depression - min w d) := by
  have hdb : ((s.rowState x z).channels z).db.usable = some d := by rw [State.rowState_channels]; exact hd
  have hwb : ((s.rowState x z).channels z).wb.usable = some w := by rw [State.rowState_channels]; exact hw
  have hramp : ((s.rowState x z).zone z).ramp = some (r.after s.run.stepMinutes) := by
    rw [State.rowState_zone, ZoneLoops.recomputed, hr]; rfl
  simp only [State.humidityError, hramp, ZoneChannels.usableWb_eq, hdb, hwb]
  rfl

end

/-- R92: some active zone has not cooled, where a COOLED step is in force in a run that is going. -/
def StaysAboveTarget (s : State) (x : Zones ZoneSamples) : Prop :=
  ∀ step, s.currentStep = some step → step.test = .cooled → s.run.state.going = true →
    ∃ z v, s.zoneActive z = true ∧ ((s.channels z).db.take (x.get z).db).1.published = some v ∧ step.dbTarget < v

/-- R92: the test of the set does not end the step. -/
theorem StaysAboveTarget.not_cooled (h : StaysAboveTarget s x) {step : StepRecord}
    (he : (s.sensorJudged x).Evaluates .cooled step) : ¬ (s.sensorJudged x).CooledTo step.dbTarget := by
  obtain ⟨hrunning, hstep, htest, -⟩ := he
  obtain ⟨-, hschedule, hrun, -, -⟩ := s.setSampled_frame x
  have hgoing : s.run.state.going = true := by
    rw [← hrun, ← (State.judgeReason_state _ .sensor (s.setSampled x).sensorFault).1]
    exact (congrArg RunState.going hrunning).trans rfl
  have hcurrent : (s.sensorJudged x).currentStep = s.currentStep := by
    simp only [State.currentStep, State.sensorJudged, State.judgeReason_stepIndex, State.judgeReason_frame, hschedule, hrun]
  have hactive : (s.sensorJudged x).zoneActive = s.zoneActive :=
    State.zoneActive_congr (by simp [State.sensorJudged])
  have hdb (z : ZoneId) : ((s.sensorJudged x).channels z).db = ((s.channels z).db.take (x.get z).db).1 := by
    simpa only [State.channels, State.sensorJudged, State.judgeReason_frame] using s.setSampled_db x z
  obtain ⟨z, v, hz, hv, hlt⟩ := h step (hcurrent ▸ hstep) htest hgoing
  rintro ⟨-, hall⟩
  obtain ⟨v', hv', hle⟩ := hall z (hactive ▸ hz)
  rw [hdb, hv] at hv'
  cases hv'
  omega

/-- R117: the zones and outputs of a set whose test does not end the step. -/
theorem StaysAboveTarget.kept (h : StaysAboveTarget s x) :
    ((s.setSampled x).runTakeSet).finishEvent.zones = (s.setSampled x).zones ∧
      ((s.setSampled x).runTakeSet).finishEvent.outputs = (s.setSampled x).outputs := by
  obtain ⟨r, htest, -, -⟩ := State.testAtSet_goesOn (s := s.sensorJudged x) fun step he => h.not_cooled s x he
  have htaken : (s.setSampled x).runTakeSet = { s.sensorJudged x with run := r } := htest
  rw [htaken]
  simp [State.sensorJudged]

end

/-- Settles O11: the zones of the set stand when its test does not end the step, and each zone's loops follow the row of
the state in which they are judged. -/
theorem loopRowsFollowTheTable : Obligations.LoopRowsFollowTheTable := by
  unfold Obligations.LoopRowsFollowTheTable
  intro s x z ha hready hmark habove
  have habove : StaysAboveTarget s x := habove
  obtain ⟨hzones, houtputs⟩ := habove.kept
  refine ⟨_, exec_sampleSet_of_due ha hready hmark x, ?_⟩
  obtain ⟨hheatOut, hsprayOut, hventOut⟩ := s.setSampled_demands x z
  have hzone : ((s.setSampled x).runTakeSet).finishEvent.zone z = (s.setSampled x).zone z := congrArg (Zones.get · z) hzones
  obtain ⟨q, hq⟩ : ∃ q, q = s.rowState x z := ⟨_, rfl⟩
  have heq := s.setSampled_zone_eq x z
  obtain ⟨hheat, hhumidity⟩ := s.rowState_loops x z
  have hsettings := s.rowState_zoneSettings x z
  obtain ⟨-, hrun, -⟩ := s.rowState_frame x z
  rw [← hq] at heq hheat hhumidity hsettings hrun
  have hcools : q.Cools z ↔ s.Cools z := hq ▸ s.rowState_cools x z
  dsimp only
  rw [hzone, houtputs, hheatOut, hsprayOut, hventOut, heq]
  dsimp only
  have hheatRow (hj : s.LoopsJudged z) := hq ▸ hj.rowState_heatCondition x
  have hhumidityRow (hj : s.LoopsJudged z) := hq ▸ hj.rowState_humidityCondition x
  refine ⟨fun hi => ?_, fun hi hr => ?_, fun hi hs => ?_, fun hi hc => ?_, fun hj hm => ?_, fun hj hm => ?_,
    fun hj hm hf => ?_, fun hj hm hf => ?_, fun hj hm hf hdb => ?_, fun hj hm hf hdb => ?_, fun hj hm hf hdb => ?_,
    fun r d hj hm hf hr hd => ?_, fun hj hm hf hdb hwb => ?_, fun r d w hj hm hf hr hd hw => ?_, fun hc hs => ?_, ?_,
    rfl, rfl, rfl⟩
  · have hz : q.zoneCondition z = some .inactive := State.zoneCondition_inactive (by rw [hsettings, hi])
    rw [State.heatLoop_dropped (State.heatCondition_of_zone hz) (.inl rfl),
      State.humidityLoop_inactive (State.humidityCondition_of_zone hz), hheat, hhumidity]
    exact ⟨rfl, rfl⟩
  · have hz : q.zoneCondition z = some .noRun := State.zoneCondition_noRun (by rw [hsettings, hi]) (by rw [hrun, hr])
    exact ⟨State.heatLoop_noRun (State.heatCondition_of_zone hz),
      State.humidityLoop_noRun (State.humidityCondition_of_zone hz)⟩
  · have hz : q.zoneCondition z = some .safeHold := State.zoneCondition_safe (by rw [hsettings, hi]) (by rw [hrun, hs])
    have hu := State.humidityLoop_held (State.humidityCondition_of_zone hz) (.inl rfl)
    rw [State.heatLoop_held (State.heatCondition_of_zone hz) (.inl rfl), sprayVent_safe (by rw [hu]), hu, hheat, hhumidity]
    exact ⟨rfl, rfl, rfl, rfl⟩
  · have hz : q.zoneCondition z = some .cool := (hcools.2 hc).zoneCondition (by rw [hsettings, hi])
    have hu := State.humidityLoop_held (State.humidityCondition_of_zone hz) (.inr (.inl rfl))
    rw [State.heatLoop_dropped (State.heatCondition_of_zone hz) (.inr (.inl rfl)), sprayVent_cool (by rw [hu]), hu, hheat,
      hhumidity]
    exact ⟨rfl, rfl, rfl, rfl, rfl⟩
  · rw [State.heatLoop_manual (by simp [hheatRow hj, hm]), hheat, hsettings]
  · rw [State.humidityLoop_manual (by simp [hhumidityRow hj, hm]), hhumidity, hsettings]
  · rw [State.heatLoop_held (c := .fanHold) (by simp [hheatRow hj, hm, hf]) (.inr rfl), hheat]
  · rw [State.humidityLoop_held (c := .fanHold) (by simp [hhumidityRow hj, hm, hf]) (by decide), hhumidity]
  · rw [State.heatLoop_dropped (c := .sensorHold) (by simp [hheatRow hj, hm, hf, hdb]) (by decide), hheat]
  · rw [State.humidityLoop_held (c := .sensorHold) (by simp [hhumidityRow hj, hm, hf, hdb]) (by decide), hhumidity]
  · rw [State.heatLoop_condition]
    obtain ⟨d, hd⟩ := Option.isSome_iff_exists.1 hdb
    simp [hheatRow hj, hm, hf, hd]
  · rw [State.heatLoop_evaluated (by simp [hheatRow hj, hm, hf, hd]) (hq ▸ State.rowState_heatError hr hd), hheat,
      hsettings]
  · rw [State.humidityLoop_condition]
    obtain ⟨d, hd⟩ := Option.isSome_iff_exists.1 hdb
    obtain ⟨w, hw⟩ := Option.isSome_iff_exists.1 hwb
    simp [hhumidityRow hj, hm, hf, hd, hw]
  · rw [State.humidityLoop_evaluated (by simp [hhumidityRow hj, hm, hf, hd, hw])
      (hq ▸ State.rowState_humidityError hr hd hw), hhumidity, hsettings]
  · have hcool : (q.humidityLoop z).condition ≠ .cool := fun h =>
      hc (hcools.1 (State.cools_of_humidityLoop h))
    have hsafe : (q.humidityLoop z).condition ≠ .safeHold := fun h => by
      obtain ⟨hi, hsafe⟩ := State.safe_of_humidityLoop h
      rw [hsettings] at hi
      rw [hrun] at hsafe
      simp [hi, hsafe] at hs
    rw [sprayVent_split hcool hsafe]
    dsimp only
    omega
  · by_cases h : (q.humidityLoop z).condition = .safeHold
    · rw [sprayVent_safe h]
      exact .inr (.inr ⟨hrun ▸ (State.safe_of_humidityLoop h).2, rfl, rfl⟩)
    · exact (sprayVent_either_of_ne h).imp_right .inl

end Sys2Proof.Machine
end

section
/-! O10: three bad samples fault a channel and three good ones bring it back, with the notices of a set. -/

namespace Sys2Proof.Machine

/-! ### Three samples of a channel (R110, R111) -/

section
variable {c : Channel}

theorem Channel.take_three_bad {x y w : Sample} {k k' k'' : BadCause} (hs : c.state = .ok) (hc : c.badCount = 0)
    (hx : sampleCause x = some k) (hy : sampleCause y = some k') (hw : sampleCause w = some k'') :
    (c.take x).2 = .quiet ∧ ((c.take x).1.take y).2 = .quiet ∧ ((c.take x).1.take y).1.state = .ok ∧
      ((c.take x).1.take y).1.take w =
        ({ c with state := .fault, badCount := 3, goodCount := 0, cause := some k'' }, .fault k'') := by
  have hfirst := Channel.take_bad hs hx (by omega)
  have hsecond := Channel.take_bad (c := (c.take x).1) (by rw [hfirst]; exact hs) hy (by rw [hfirst]; dsimp only; omega)
  have hthird := Channel.take_faults (c := ((c.take x).1.take y).1) (by rw [hsecond, hfirst]; exact hs) hw
    (by rw [hsecond, hfirst]; dsimp only; omega)
  exact ⟨by rw [hfirst], by rw [hsecond], by rw [hsecond, hfirst]; exact hs, by rw [hthird, hsecond, hfirst]⟩

theorem Channel.take_three_good {x y w : Sample} (hs : c.state = .fault) (hc : c.goodCount = 0)
    (hx : sampleCause x = none) (hy : sampleCause y = none) (hw : sampleCause w = none) :
    ((c.take x).1.take y).1.state = .fault ∧ ((c.take x).1.take y).1.published = c.published ∧
      ((c.take x).1.take y).1.take w =
        ({ c with
            last := some (sampleTenths w), published := some (sampleTenths w), state := .ok, badCount := 0, goodCount := 0 },
          .recovered) := by
  have hfirst := Channel.take_goodInFault hs hx (by omega)
  have hsecond := Channel.take_goodInFault (c := (c.take x).1) (by rw [hfirst]; exact hs) hy
    (by rw [hfirst]; dsimp only; omega)
  have hthird := Channel.take_recovers (c := ((c.take x).1.take y).1) (by rw [hsecond, hfirst]; exact hs) hw
    (by rw [hsecond, hfirst]; dsimp only; omega)
  exact ⟨by rw [hsecond, hfirst]; exact hs, by rw [hsecond, hfirst], by rw [hthird, hsecond, hfirst]⟩

end

/-! ### The notices of a set in which one channel is not quiet (R110 to R112) -/

/-- A channel that is OK and takes a good sample. -/
def Channel.Steady (c : Channel) (x : Sample) : Prop := c.state = .ok ∧ sampleCause x = none

theorem Channel.Steady.news {c : Channel} {x : Sample} (h : c.Steady x) (n : Nat) : newsNotices n (c.take x).2 = [] := by
  rw [Channel.take_good h.1 h.2]
  rfl

section
variable {s : State} {x : Zones ZoneSamples} {z : ZoneId}
  (hwb : ∀ y, ((s.channels y).wb).Steady (x.get y).wb) (hwood : ∀ y, ((s.channels y).wood).Steady (x.get y).wood)
include hwb hwood

theorem State.zoneNotices_db (y : ZoneId) :
    s.zoneNotices x y = newsNotices (3 * y.number - 2) ((s.channels y).db.take (x.get y).db).2 := by
  simp [State.zoneNotices, (hwb y).news, (hwood y).news]

theorem setNotices_of_one (hdb : ∀ y, y ≠ z → ((s.channels y).db).Steady (x.get y).db) :
    setNotices s x = newsNotices (3 * z.number - 2) ((s.channels z).db.take (x.get z).db).2 := by
  have hothers (y : ZoneId) (hy : y ≠ z) : s.zoneNotices x y = [] := by
    rw [State.zoneNotices_db hwb hwood, (hdb y hy).news]
  have hall : setNotices s x =
      s.zoneNotices x .z1 ++ (s.zoneNotices x .z2 ++ (s.zoneNotices x .z3 ++ (s.zoneNotices x .z4 ++ []))) := rfl
  rw [hall, ← State.zoneNotices_db hwb hwood]
  cases z <;> simp [hothers]

end

/-! ### A set outside a run -/

section
variable {s : State} (h : s.run.state.inProgress = false)
include h

theorem State.judgeReason_idle (r : HoldReason) (present : Bool) : s.judgeReason r present = s := by
  simp [State.judgeReason, h]

theorem State.testAtSet_idle : s.testAtSet = s := by
  have hnone : s.evaluatedStep = none := if_neg fun hr => by simp [hr, RunState.inProgress] at h
  simp only [State.testAtSet, hnone]

theorem exec_sampleSet_idle (ha : s.Awake) (hr : s.ready = true) (hm : s.sampler.mark = .due) (x : Zones ZoneSamples) :
    exec (.sampleSet x) s = .next (s.setSampled x) := by
  obtain ⟨-, -, hrun, -, hdue⟩ := s.setSampled_frame x
  have hidle : (s.setSampled x).run.state.inProgress = false := by rw [hrun]; exact h
  rw [exec_sampleSet_of_due ha hr hm, State.runTakeSet, State.judgeReason_idle hidle, State.testAtSet_idle hidle,
    State.finishEvent_of_due_none _ (hdue.trans ha.due_none)]

end

/-- R128: the DB-fault source of a zone's heat valve after a set. -/
theorem State.setSampled_dbFault (s : State) (x : Zones ZoneSamples) (z : ZoneId) :
    ((s.setSampled x).outputs.get z).heat.forcing.dbFault = ((s.channels z).db.take (x.get z).db).1.usable.isNone := by
  have hforcing : ((s.setSampled x).outputs.get z).heat.forcing.dbFault =
      ((s.channelsSampled x).zonesTakeSet.channels z).db.usable.isNone :=
    congrArg Forcing.dbFault ((s.channelsSampled x).zonesTakeSet.refreshOutputs_forcing z .heat)
  have hchannels : ((s.channelsSampled x).zonesTakeSet.channels z).db = ((s.setSampled x).channels z).db := by
    simp only [State.channels, State.setSampled_sampler, State.zonesTakeSet_frame]
    rfl
  rw [hforcing, hchannels, State.setSampled_db]

/-- R110, R111: a set outside a run in which one zone's DB channel is not quiet. -/
theorem exec_sampleSet_of_one {s : State} {x : Zones ZoneSamples} {z : ZoneId} {c : Channel} {news : ChannelNews}
    (ha : s.Awake) (hr : s.ready = true) (hm : s.sampler.mark = .due) (hidle : s.run.state.inProgress = false)
    (hdb : ∀ y, y ≠ z → ((s.channels y).db).Steady (x.get y).db) (hwb : ∀ y, ((s.channels y).wb).Steady (x.get y).wb)
    (hwood : ∀ y, ((s.channels y).wood).Steady (x.get y).wood) (htake : (s.channels z).db.take (x.get z).db = (c, news)) :
    ∃ t, exec (.sampleSet x) s = .next t ∧ t.notices = noticesAfter s (newsNotices (3 * z.number - 2) news) ∧
      (t.channels z).db = c ∧ (t.outputs.get z).heat.forcing.dbFault = c.usable.isNone := by
  refine ⟨_, exec_sampleSet_idle hidle ha hr hm x, ?_, ?_, ?_⟩
  · rw [State.setSampled_notices, setNotices_of_one hwb hwood hdb, htake]
  · rw [State.setSampled_db, htake]
  · rw [State.setSampled_dbFault, htake]

/-- Settles O10: a channel by its three samples, and the notices of a set by the one channel that is not quiet. -/
theorem badSamplesFaultAndGoodSamplesRecover : Obligations.BadSamplesFaultAndGoodSamplesRecover := by
  unfold Obligations.BadSamplesFaultAndGoodSamplesRecover
  refine ⟨⟨fun c x y w k k' k'' hs hc hx hy hw => Channel.take_three_bad hs hc hx hy hw,
    fun c v hs hlo hhi => Channel.take_good hs (sampleCause_value_good hlo hhi),
    fun c u v w hs hc hu hu' hv hv' hw hw' => Channel.take_three_good hs hc (sampleCause_value_good hu hu')
      (sampleCause_value_good hv hv') (sampleCause_value_good hw hw'),
    fun c x k hs hx => Channel.take_badInFault hs hx, rfl, rfl, sampleCause_value⟩, ?_⟩
  intro s x z ha hr hm hidle hdb hothers
  have hwb (y : ZoneId) : ((s.channels y).wb).Steady (x.get y).wb := by
    obtain ⟨hs, hx, -, -⟩ := hothers y
    exact ⟨hs, hx⟩
  have hwood (y : ZoneId) : ((s.channels y).wood).Steady (x.get y).wood := by
    obtain ⟨-, -, hs, hx⟩ := hothers y
    exact ⟨hs, hx⟩
  refine ⟨fun cause hs hc hx => ?_, fun hs hc hx => ?_⟩
  · obtain ⟨t, hexec, hnotices, hchannel, hforced⟩ :=
      exec_sampleSet_of_one ha hr hm hidle hdb hwb hwood (Channel.take_faults hs hx (by omega))
    exact ⟨t, hexec, hnotices, by rw [hchannel], by rw [hforced, Channel.usable_of_fault rfl]; rfl⟩
  · obtain ⟨t, hexec, hnotices, hchannel, hforced⟩ :=
      exec_sampleSet_of_one ha hr hm hidle hdb hwb hwood (Channel.take_recovers hs hx (by omega))
    exact ⟨t, hexec, hnotices, by rw [hchannel], by rw [hforced, Channel.usable_of_ok rfl]; rfl⟩

end Sys2Proof.Machine
end

section
/-! Valve cycles (R129): what the on-time, the period and a tenth of a second do to one valve, and to it alone. -/

namespace Sys2Proof.Machine

/-! ### One valve -/

/-- R129: the three clauses of the latched on-time. -/
theorem latchedOnTime_spec (p d : Nat) :
    (p * d / 100 < 10 → latchedOnTime p d = 0) ∧
    (10 ≤ p * d / 100 → 10 * p - 10 < p * d / 100 → latchedOnTime p d = 10 * p) ∧
    (10 ≤ p * d / 100 → p * d / 100 ≤ 10 * p - 10 → latchedOnTime p d = p * d / 100) := by
  unfold latchedOnTime
  refine ⟨fun h => if_pos h, fun h hover => ?_, fun h hin => ?_⟩
  · rw [if_neg (by omega), if_pos hover]
  · rw [if_neg (by omega), if_neg (by omega)]

section
variable {v : Valve} {c : Cycle}

/-- A FORCED valve has no cycle for its events to act on. -/
theorem Valve.events_of_forced (h : v.cycle = none) (p : Nat) :
    v.reachOnTime = v ∧ v.reachPeriod p = v ∧ v.tick = v := by
  simp [Valve.reachOnTime, Valve.reachPeriod, Valve.tick, h]

theorem Valve.reachOnTime_of_on (hc : v.cycle = some c) (ho : v.output = true) (hon : c.onTime < 10 * c.period) :
    v.reachOnTime = { v with output := false, cycle := some { c with elapsed := c.onTime } } := by
  simp [Valve.reachOnTime, hc, ho, hon]

theorem Valve.reachPeriod_of_cycle (hc : v.cycle = some c) (p : Nat) : v.reachPeriod p = v.startCycle p := by
  simp [Valve.reachPeriod, hc]

/-- log 3: a tenth that reaches neither the on-time nor the period. -/
theorem Valve.tick_counts (hc : v.cycle = some c)
    (h : c.elapsed + 1 < c.onTime ∨ c.onTime ≤ c.elapsed ∧ c.elapsed + 1 < 10 * c.period) :
    v.tick = { v with cycle := some { c with elapsed := c.elapsed + 1 } } := by
  have hbound : c.elapsed + 1 < if c.elapsed < c.onTime then c.onTime else 10 * c.period := by split <;> omega
  simp only [Valve.tick, hc, if_pos hbound]

/-- log 3: the tenth that would reach the on-time or the period is the command of its own row. -/
theorem Valve.tick_stays (hc : v.cycle = some c)
    (h : c.elapsed + 1 = c.onTime ∨ c.onTime ≤ c.elapsed ∧ 10 * c.period ≤ c.elapsed + 1) : v.tick = v := by
  have hbound : ¬ c.elapsed + 1 < if c.elapsed < c.onTime then c.onTime else 10 * c.period := by split <;> omega
  simp only [Valve.tick, hc, if_neg hbound]

end

/-! ### The valves of the part -/

theorem exec_valveOnTimeReached_of_awake {s : State} (h : s.Awake) (z : ZoneId) (k : ValveKind) :
    exec (.valveOnTimeReached z k) s = .next (s.mapValve z k Valve.reachOnTime) := by
  change Host.Outcome.next (s.event _) = _
  rw [s.event_of_awake h, State.finishEvent_of_due_none _ (by simpa using h.due_none)]

theorem exec_valveCycleEnd_of_awake {s : State} (h : s.Awake) (z : ZoneId) (k : ValveKind) :
    exec (.valveCycleEnd z k) s = .next (s.mapValve z k fun v => v.reachPeriod (s.settings.period k)) := by
  change Host.Outcome.next (s.event _) = _
  rw [s.event_of_awake h, State.finishEvent_of_due_none _ (by simpa using h.due_none)]

/-- A valve changed to what it is leaves the part as it is. -/
theorem State.mapValve_of_same {s : State} {z : ZoneId} {k : ValveKind} {f : Valve → Valve}
    (h : f ((s.outputs.get z).valve k) = (s.outputs.get z).valve k) : s.mapValve z k f = s := by
  have hset : s.outputs.set z ((s.outputs.get z).setValve k ((s.outputs.get z).valve k)) = s.outputs := by
    cases z <;> cases k <;> rfl
  simp only [State.mapValve, h, hset]

theorem State.tickValves_valve (s : State) (z : ZoneId) (k : ValveKind) :
    (s.tickValves.outputs.get z).valve k = ((s.outputs.get z).valve k).tick := by
  simp only [State.tickValves, zones_get_map]
  cases k <;> rfl

/-- log 3: the step of a part with no command waiting. -/
theorem step_of_idle {s : State} (h : s.pending = []) : step s = .next s.idle := by simp only [step, h]

/-- Settles O38: each event is one valve's own move, and the tick is every valve's. -/
theorem valveCyclesFollowTheOnTime : Obligations.ValveCyclesFollowTheOnTime := by
  unfold Obligations.ValveCyclesFollowTheOnTime
  refine ⟨fun s z k ha => ⟨fun hnone => ?_, fun c hc => ⟨fun ho hon => ?_, ?_⟩⟩, fun s hp hoff => ?_, fun s hp ha => ?_⟩
  · obtain ⟨hreach, hperiod, -⟩ := Valve.events_of_forced hnone (s.settings.period k)
    rw [exec_valveOnTimeReached_of_awake ha, exec_valveCycleEnd_of_awake ha, State.mapValve_of_same hreach,
      State.mapValve_of_same hperiod]
    exact ⟨rfl, rfl⟩
  · refine ⟨_, exec_valveOnTimeReached_of_awake ha z k, ?_⟩
    simp only [State.mapValve, Valve.reachOnTime_of_on hc ho hon]
  · refine ⟨_, ((s.outputs.get z).valve k).startCycle (s.settings.period k), exec_valveCycleEnd_of_awake ha z k, ?_, rfl,
      rfl, _, rfl, rfl, ?_⟩
    · simp only [State.mapValve, Valve.reachPeriod_of_cycle hc]
    · obtain ⟨hnothing, hwhole, hpart⟩ := latchedOnTime_spec (s.settings.period k) ((s.outputs.get z).valve k).demand
      exact ⟨by cases k <;> rfl, hnothing, hwhole, hpart, rfl⟩
  · rw [step_of_idle hp, State.idle, if_neg (by simp [hoff])]
  · have hidle : s.idle = s.tickValves := by
      rw [State.idle, if_pos ha.1, s.takeDue_of_quiet ha.2, s.finishEvent_of_due_none ha.due_none]
    refine ⟨s.tickValves, by rw [step_of_idle hp, hidle], rfl, fun z k => ?_⟩
    rw [s.tickValves_valve]
    exact ⟨fun hnone => (Valve.events_of_forced hnone 0).2.2,
      fun c hc => ⟨fun h => Valve.tick_counts hc h, fun h => Valve.tick_stays hc h⟩⟩

end Sys2Proof.Machine
end

section
/-! SUPPORT. The valves as the fans come to run or stop (R128, R130), and the fans' entry to RUNNING and to COASTING
(R136 to R139). -/

namespace Sys2Proof.Machine

/-! ### A valve refreshed (R128, R130) -/

theorem State.refreshOutputs_valve (s : State) (z : ZoneId) (k : ValveKind) :
    (s.refreshOutputs.outputs.get z).valve k =
      ((s.outputs.get z).valve k).refresh (s.settings.period k) (s.forcingFor z k) := by
  simp only [State.refreshOutputs, zones_get_map]
  cases k <;> rfl

/-- R128: causes that stand as they were change nothing. -/
theorem Valve.refresh_same (v : Valve) (p : Nat) : v.refresh p v.forcing = v := by
  unfold Valve.refresh
  cases v.forcing.any <;> rfl

/-- R128, R130: the cause FANS leaves: it was the only one, and a cycle starts, or the valve stays FORCED. -/
theorem Valve.refresh_fansRun {v : Valve} (h : v.forcing.fans = true) (p : Nat) :
    v.refresh p { v.forcing with fans := false } =
      if v.forcing = { released := false, safe := false, fans := true, dbFault := false } then
        { v with forcing := { released := false, safe := false, fans := false, dbFault := false } }.startCycle p
      else { v with forcing := { v.forcing with fans := false } } := by
  obtain ⟨output, ⟨released, safe, fans, dbFault⟩, demand, cycle⟩ := v
  obtain rfl : fans = true := h
  cases released <;> cases safe <;> cases dbFault <;> rfl

theorem State.ValvesSound.congr {s t : State} (h : s.ValvesSound) (ho : t.outputs = s.outputs) : t.ValvesSound :=
  fun z k => ho ▸ h z k

theorem State.ValvesSound.refresh {s : State} (h : s.ValvesSound) : s.refreshOutputs.ValvesSound := by
  intro z k
  rw [s.refreshOutputs_valve]
  exact Valve.refresh_sound _ _ _ (h z k)

theorem State.AllValvesForced.congr {s t : State} (h : s.AllValvesForced) (ho : t.outputs = s.outputs) :
    t.AllValvesForced :=
  fun z k => ho ▸ h z k

/-- R127, R128, R130: while the fans do not run, a refresh leaves every valve OFF and FORCED. -/
theorem State.ValvesSound.allForced {s : State} (h : s.ValvesSound) (hf : s.fans.state.isRunning = false) :
    s.refreshOutputs.AllValvesForced := by
  intro z k
  have hany : ((s.refreshOutputs.outputs.get z).valve k).forcing.any = true := by
    simp [s.refreshOutputs_forcing, State.forcingFor, hf, Forcing.any]
  obtain ⟨hcycle, hoff⟩ := h.refresh z k
  exact ⟨hoff hany, by simpa [hany] using hcycle, hany⟩

/-! ### The fans not running (R135, R139, R140) -/

section
variable {s : State} (h : s.ValvesSound)
include h

theorem State.ValvesSound.fansEnterStopped : s.fansEnterStopped.AllValvesForced ∧ s.fansEnterStopped.ValvesSound :=
  ⟨State.ValvesSound.allForced (s := { s with fans := _ }) h rfl, State.ValvesSound.refresh (s := { s with fans := _ }) h⟩

theorem State.ValvesSound.fansEnterCoasting : s.fansEnterCoasting.AllValvesForced :=
  State.ValvesSound.allForced (s := { s with fans := _ }) h rfl

end

/-! ### The fans running (R136 to R138) -/

section
variable {s : State}

/-- The fans as they enter RUNNING_FWD or RUNNING_REV, before the reversal is checked. -/
def Fans.running (f : Fans) : Fans :=
  { f with state := f.direction.runningState, expectRunning := true, compareActive := true }

theorem State.fansEnterRunning_eq (s : State) :
    s.fansEnterRunning = (({ s with fans := s.fans.running } : State).refreshOutputs).checkReversal := rfl

theorem Direction.runningState_isRunning (d : Direction) : d.runningState.isRunning = true := by cases d <;> rfl

theorem Fans.NoReversal.reversalIsDue (h : s.fans.NoReversal) : s.reversalIsDue = false := by
  unfold State.reversalIsDue
  obtain h | h := h
  · simp [h]
  · simp [Nat.not_le.2 h]

theorem State.checkReversal_of_none (h : s.reversalIsDue = false) : s.checkReversal = s := by
  simp [State.checkReversal, h]

theorem State.checkReversal_of_due (h : s.fans.state.isRunning = true) (hr : ¬ s.fans.NoReversal) :
    s.checkReversal = s.fansEnterCoasting := by
  obtain ⟨hset, hover⟩ := not_or.1 hr
  simp [State.checkReversal, State.reversalIsDue, h, hset, Nat.not_lt.1 hover]

theorem State.fansEnterRunning_of_noReversal (h : s.fans.NoReversal) :
    s.fansEnterRunning = ({ s with fans := s.fans.running } : State).refreshOutputs := by
  rw [s.fansEnterRunning_eq]
  exact State.checkReversal_of_none (Fans.NoReversal.reversalIsDue (s := ({ s with fans := _ } : State).refreshOutputs) h)

/-- R138: a reversal due at the entry begins at once. -/
theorem State.fansEnterRunning_of_reversal (h : ¬ s.fans.NoReversal) :
    s.fansEnterRunning = (({ s with fans := s.fans.running } : State).refreshOutputs).fansEnterCoasting := by
  rw [s.fansEnterRunning_eq]
  exact State.checkReversal_of_due (Direction.runningState_isRunning _) h

theorem Fans.running_state (f : Fans) :
    f.running.state = if f.direction = .fwd then .runningFwd else .runningRev := by
  unfold Fans.running
  cases f.direction <;> rfl

/-- R136, R137: fans that did not run enter RUNNING with no reversal due. -/
theorem State.fansEnterRunning_fansRun (hf : s.fans.state.isRunning = false) (ha : s.ForcingAgrees)
    (hn : s.fans.NoReversal) :
    FansRun s s.fansEnterRunning s.fans.confirmed ∧
      s.fansEnterRunning = { s with fans := s.fansEnterRunning.fans, outputs := s.fansEnterRunning.outputs } := by
  rw [State.fansEnterRunning_of_noReversal hn]
  refine ⟨⟨?_, fun z k => ?_⟩, rfl⟩
  · have hstate := s.fans.running_state
    simp only [State.refreshOutputs_frame, ← hstate]
    rfl
  · have hforced : ((s.outputs.get z).valve k).forcing.fans = true := by simp [ha z k, State.forcingFor, hf]
    have hcauses : ({ s with fans := s.fans.running } : State).forcingFor z k =
        { ((s.outputs.get z).valve k).forcing with fans := false } := by
      rw [ha z k]
      simp only [State.forcingFor, Fans.running, Direction.runningState_isRunning]
      rfl
    rw [State.refreshOutputs_valve, hcauses]
    exact Valve.refresh_fansRun hforced _

/-- R136, R138: fans that enter RUNNING with their reversal due are COASTING. -/
theorem State.fansEnterRunning_coasts (hv : s.ValvesSound) (hn : ¬ s.fans.NoReversal) :
    s.fansEnterRunning.AllValvesForced ∧
      s.fansEnterRunning = { s with fans := s.fansEnterRunning.fans, outputs := s.fansEnterRunning.outputs } ∧
      s.fansEnterRunning.fans =
        { s.fans with
          state := .coasting, expectRunning := true, compareActive := false, reversalTimer := 0, coastTimer := 0 } := by
  rw [State.fansEnterRunning_of_reversal hn]
  have hrunning : ({ s with fans := s.fans.running } : State).refreshOutputs.ValvesSound := State.ValvesSound.refresh hv
  exact ⟨hrunning.fansEnterCoasting, rfl, rfl⟩

end

end Sys2Proof.Machine
end

section
/-! SUPPORT. FAN_RUN, stopped where it should run, trips (R140, R142, R146, R147, R98, R101): the fans and the run in every
order of the latch's readers. -/

namespace Sys2Proof.Machine

/-! ### Fans that fail or stop -/

/-- R140: the fans as they enter FAILED. -/
def Fans.failed (f : Fans) : Fans :=
  { f with state := .failed, expectRunning := false, compareActive := true, confirmTimer := 0, coastTimer := 0 }

/-- R135: the fans as they enter STOPPED. -/
def Fans.stopped (f : Fans) : Fans :=
  { f with state := .stopped, expectRunning := false, compareActive := false, coastTimer := 0, confirmTimer := 0 }

/-- The fans that an input reading stopped finds in a start or running. -/
def FanState.driven : FanState → Bool
  | .starting | .runningFwd | .runningRev => true
  | .stopped | .coasting | .failed => false

section
variable {s : State}

/-- R145: an input that reads stopped conforms in FAILED, so it does not trip again. -/
theorem State.fansEnterFailed_of_open (h : (s.input .fanRun).live = false) :
    s.fansEnterFailed =
      (({ s with fans := s.fans.failed } : State).queueNotice .fanFailed s.fans.direction.code
        s.fans.state.leftCode).refreshOutputs := by
  have hconforms : ({ s with fans := s.fans.failed } : State).fanRunConforms = true := by
    simpa [State.fanRunConforms, Fans.failed, State.input] using h
  simp only [State.fansEnterFailed]
  refine congrArg (fun u : State => (u.queueNotice _ _ _).refreshOutputs) (if_neg ?_)
  change ¬ (_ && !({ s with fans := s.fans.failed } : State).fanRunConforms && _) = true
  simp [hconforms]

theorem State.fansOnLatchSet_of_driven (h : s.fans.state.driven = true) : s.fansOnLatchSet = s.fansEnterFailed := by
  unfold State.fansOnLatchSet
  cases hs : s.fans.state <;> simp_all [FanState.driven]

theorem State.ValvesSound.fansEnterFailed (hv : s.ValvesSound) (h : (s.input .fanRun).live = false) :
    s.fansEnterFailed.AllValvesForced ∧ s.fansEnterFailed.ValvesSound := by
  rw [State.fansEnterFailed_of_open h]
  exact ⟨State.ValvesSound.allForced (s := State.queueNotice { s with fans := _ } _ _ _) hv rfl,
    State.ValvesSound.refresh (s := State.queueNotice { s with fans := _ } _ _ _) hv⟩

/-! ### INTERLOCK judged (R98) -/

/-- A run whose reasons have INTERLOCK as the latches do stays as it is. -/
theorem State.InterlockAgrees.judgeInterlock (h : s.InterlockAgrees) : s.judgeInterlock = s := by
  unfold State.judgeInterlock State.judgeReason
  split
  · rename_i hp
    have hhas : s.run.reasons.has .interlock = s.anyLatchOfLevel 2 := h hp
    cases hany : s.anyLatchOfLevel 2 with
    | true => exact State.addReason_of_present (hhas.trans hany)
    | false => exact State.removeReason_of_absent (hhas.trans hany)
  · rfl

/-- R97: a RUNNING run with no reason is HELD by a level-2 latch. -/
theorem State.judgeInterlock_holds (hs : s.run.state = .running) (hr : s.run.reasons = .empty)
    (hany : s.anyLatchOfLevel 2 = true) :
    s.judgeInterlock =
      (({ s with
          run :=
            { s.run with
              state := .held, reasons := { HoldSet.empty with interlock := true }, inBand := false } } :
        State).queueNotice .runHeld 5 1).wantCheckpoint := by
  have hhas : s.run.reasons.has .interlock = false := by rw [hr]; rfl
  have hadd : s.judgeInterlock = s.addReason .interlock := by
    simp [State.judgeInterlock, State.judgeReason, hs, RunState.inProgress, hany]
  rw [hadd, State.addReason_of_running hhas hs, hr]
  rfl

theorem State.judgeReason_asksAtMost (s : State) (r : HoldReason) (present : Bool) :
    s.AsksAtMost (s.judgeReason r present) := by
  obtain ⟨-, hkept, hchanged⟩ := s.judgeReason_judges r present
  by_cases h : (s.judgeReason r present).run.state = s.run.state
  · exact .inl (hkept h)
  · exact .inr (hchanged h)

end

/-! ### A latch signal in every order of its readers (R147, R140, R142) -/

section
variable {s : State}

theorem State.latchBringsSafe_congr {t : State} {i : Input} (hi : t.interlocks = s.interlocks)
    (hl : t.settings = s.settings) (hr : t.run = s.run) : t.latchBringsSafe i = s.latchBringsSafe i := by
  have hinput : t.input i = s.input i := by rw [State.input, State.input, hi]
  have hlevel : t.inputLevel i = s.inputLevel i := by rw [State.inputLevel, State.inputLevel, hl]
  rw [State.latchBringsSafe, State.latchBringsSafe, hinput, hlevel, hr]

/-- R147: the latch of FAN_RUN does not put the run into SAFE: the fans fail, and INTERLOCK is judged before or after. -/
theorem State.signalLatchSet_without_safe (hd : s.fans.state.driven = true) (hs : s.latchBringsSafe .fanRun = false) :
    s.signalLatchSet .fanRun = s.drawn.fansEnterFailed.judgeInterlock ∨
      s.signalLatchSet .fanRun = s.drawn.judgeInterlock.fansEnterFailed := by
  have hfails : s.drawn.fansOnLatchSet = s.drawn.fansEnterFailed := State.fansOnLatchSet_of_driven hd
  have hfirst : s.drawn.fansEnterFailed.latchBringsSafe .fanRun = false :=
    (State.latchBringsSafe_congr (by simp) (by simp) (by simp)).trans hs
  have hafter : (s.drawn.runOnLatchSignal .fanRun).fansOnLatchSet = s.drawn.judgeInterlock.fansEnterFailed := by
    rw [State.runOnLatchSignal, if_neg (by exact Bool.eq_false_iff.1 hs)]
    exact State.fansOnLatchSet_of_driven (by simpa using hd)
  simp only [State.signalLatchSet, if_true, hs, Bool.false_eq_true, if_false, hfails, hafter]
  cases s.latchOrder with
  | fansFirst => left; rw [State.runOnLatchSignal, hfirst]; rfl
  | runThenLatch | runThenSafe => right; rfl

/-- R101, R140, R142: the latch puts the run into SAFE, which stops the fans: they take the latch before the signal, after
the run has become SAFE, or not at all. -/
theorem State.signalLatchSet_into_safe (hd : s.fans.state.driven = true) (hs : s.latchBringsSafe .fanRun = true)
    (ha : s.InterlockAgrees) :
    ∃ u, (u = s.drawn.fansEnterFailed.runEntersSafe .fanRun ∨ u = (s.drawn.runEntersSafe .fanRun).fansEnterFailed ∨
        u = s.drawn.runEntersSafe .fanRun) ∧ s.signalLatchSet .fanRun = u.fansEnterStopped := by
  have hgoing : s.run.state.going = true := State.latchBringsSafe_going hs
  have hfails : s.drawn.fansOnLatchSet = s.drawn.fansEnterFailed := State.fansOnLatchSet_of_driven hd
  have hjudged {t : State} (hr : t.run = { s.run with state := .safe, inBand := false })
      (hi : t.interlocks = s.interlocks) (hl : t.settings = s.settings) : t.judgeInterlock = t := by
    refine State.InterlockAgrees.judgeInterlock fun _ => ?_
    rw [State.anyLatchOfLevel_congr hi (by rw [hl]), hr]
    exact ha (RunState.inProgress_of_going hgoing)
  have hfirst : s.drawn.fansEnterFailed.latchBringsSafe .fanRun = true :=
    (State.latchBringsSafe_congr (by simp) (by simp) (by simp)).trans hs
  have hstops : s.drawn.runOnLatchSignal .fanRun = (s.drawn.runEntersSafe .fanRun).fansEnterStopped := by
    rw [State.runOnLatchSignal, if_pos (by exact hs), State.enterSafe_eq]
    exact hjudged rfl rfl rfl
  simp only [State.signalLatchSet, if_true, hs, hfails, hstops]
  cases s.latchOrder with
  | fansFirst =>
    refine ⟨_, .inl rfl, ?_⟩
    simp only [State.runOnLatchSignal]
    rw [if_pos hfirst, State.enterSafe_eq]
    exact hjudged (by simp [State.fansEnterStopped, State.runEntersSafe]) (by simp) (by simp)
  | runThenLatch =>
    refine ⟨_, .inr (.inl rfl), ?_⟩
    simp only [State.safeThenFanLatch]
    rw [State.fansOnLatchSet_of_driven (by simpa using hd),
      State.fansFollowRun_of_over (by simp [State.runEntersSafe_going])]
    exact hjudged (by simp [State.runEntersSafe]) (by simp) (by simp)
  | runThenSafe => exact ⟨_, .inr (.inr rfl), rfl⟩

end

end Sys2Proof.Machine
end

section
/-! SUPPORT. The trip of FAN_RUN as the statements speak of it (FanRunTrips), by its level. -/

namespace Sys2Proof.Machine

section
variable {s : State}

theorem State.InterlockAgrees.congr {t : State} (h : s.InterlockAgrees) (hi : t.interlocks = s.interlocks)
    (hl : t.settings.interlocks = s.settings.interlocks) (hr : t.run = s.run) : t.InterlockAgrees := by
  intro hp
  rw [State.anyLatchOfLevel_congr hi hl, hr]
  exact h (hr ▸ hp)

theorem State.fansEnterFailed_open_notices (h : (s.input .fanRun).live = false) :
    s.fansEnterFailed.notices = noticesAfter s [(.fanFailed, s.fans.direction.code, s.fans.state.leftCode)] := by
  rw [State.fansEnterFailed_of_open h]
  rfl

/-! ### What the signal leaves at every level -/

/-- R140, R147: whatever the order, FAN_RUN's latch signal leaves every valve forced and the fans FAILED or STOPPED, draws
one choice, and asks for a checkpoint at most. -/
theorem State.signalLatchSet_fanRun (hd : s.fans.state.driven = true) (hlive : (s.input .fanRun).live = false)
    (hv : s.ValvesSound) (ha : s.latchBringsSafe .fanRun = true → s.InterlockAgrees) :
    (s.signalLatchSet .fanRun).AllValvesForced ∧ (s.signalLatchSet .fanRun).draws = s.draws + 1 ∧
      s.AsksAtMost (s.signalLatchSet .fanRun) ∧
      ((s.signalLatchSet .fanRun).fans.state = .failed ∨ (s.signalLatchSet .fanRun).fans.state = .stopped) := by
  have hfails : s.drawn.fansEnterFailed.AllValvesForced ∧ s.drawn.fansEnterFailed.ValvesSound :=
    State.ValvesSound.fansEnterFailed (s := s.drawn) hv hlive
  cases hs : s.latchBringsSafe .fanRun with
  | false =>
    obtain h | h := State.signalLatchSet_without_safe hd hs
    · rw [h]
      refine ⟨hfails.1.congr (by simp), by simp, ?_, .inl (by simp [State.fansEnterFailed_fans])⟩
      exact State.AsksAtMost.trans (t := s.drawn.fansEnterFailed) (.inl (by simp)) (State.judgeReason_asksAtMost _ _ _)
    · have hjudged : s.drawn.judgeInterlock.ValvesSound := State.ValvesSound.congr (s := s.drawn) hv (by simp)
      have hopen : (s.drawn.judgeInterlock.input .fanRun).live = false := by simpa [State.input] using hlive
      rw [h]
      refine ⟨(hjudged.fansEnterFailed hopen).1, by simp, ?_, .inl (by simp [State.fansEnterFailed_fans])⟩
      have hasks : State.AsksAtMost s.drawn s.drawn.judgeInterlock := State.judgeReason_asksAtMost s.drawn _ _
      exact State.AsksAtMost.trans hasks (.inl (by simp))
  | true =>
    obtain ⟨u, hu, h⟩ := State.signalLatchSet_into_safe hd hs (ha hs)
    have huv : u.ValvesSound ∧ u.draws = s.draws + 1 ∧ u.due = { s.due with checkpoint := true } := by
      obtain rfl | rfl | rfl := hu
      · exact ⟨hfails.2.congr (by simp), by simp, by simp [State.runEntersSafe]⟩
      · exact ⟨(State.ValvesSound.fansEnterFailed (s := s.drawn.runEntersSafe .fanRun) hv hlive).2, by simp,
          by simp [State.runEntersSafe]⟩
      · exact ⟨hv, rfl, rfl⟩
    obtain ⟨hsound, hdraws, hdue⟩ := huv
    rw [h]
    exact ⟨hsound.fansEnterStopped.1, by simpa using hdraws, .inr (by simpa using hdue), .inr rfl⟩

/-! ### What it leaves at each level -/

/-- Level 1: the fans fail, and the run stays. -/
theorem State.signalLatchSet_level1 (hd : s.fans.state.driven = true) (hlive : (s.input .fanRun).live = false)
    (hlevel : s.inputLevel .fanRun ≠ 3) (ha : s.InterlockAgrees) :
    (s.signalLatchSet .fanRun).fans = s.fans.failed ∧ (s.signalLatchSet .fanRun).run = s.run ∧
      (s.signalLatchSet .fanRun).notices =
        noticesAfter s [(.fanFailed, s.fans.direction.code, s.fans.state.leftCode)] := by
  have hs : s.latchBringsSafe .fanRun = false := by simp [State.latchBringsSafe, hlevel]
  have hbefore : s.drawn.judgeInterlock = s.drawn := State.InterlockAgrees.judgeInterlock ha
  have hafter : s.drawn.fansEnterFailed.judgeInterlock = s.drawn.fansEnterFailed :=
    State.InterlockAgrees.judgeInterlock (State.InterlockAgrees.congr ha (by simp) (by simp) (by simp))
  have heq : s.signalLatchSet .fanRun = s.drawn.fansEnterFailed := by
    obtain h | h := State.signalLatchSet_without_safe hd hs
    · rw [h, hafter]
    · rw [h, hbefore]
  rw [heq]
  exact ⟨State.fansEnterFailed_fans _, by simp, State.fansEnterFailed_open_notices (s := s.drawn) hlive⟩

/-- Level 2: the fans fail, and a RUNNING run with no reason is HELD. -/
theorem State.signalLatchSet_level2 (hd : s.fans.state.driven = true) (hlive : (s.input .fanRun).live = false)
    (hlevel : s.inputLevel .fanRun ≠ 3) (hany : s.anyLatchOfLevel 2 = true) (hs : s.run.state = .running)
    (hr : s.run.reasons = .empty) :
    (s.signalLatchSet .fanRun).fans = s.fans.failed ∧
      (s.signalLatchSet .fanRun).run =
        { s.run with state := .held, reasons := { HoldSet.empty with interlock := true }, inBand := false } ∧
      (s.signalLatchSet .fanRun).due.checkpoint = true ∧
      ((s.signalLatchSet .fanRun).notices =
          noticesAfter s [(.fanFailed, s.fans.direction.code, s.fans.state.leftCode), (.runHeld, 5, 1)] ∨
        (s.signalLatchSet .fanRun).notices =
          noticesAfter s [(.runHeld, 5, 1), (.fanFailed, s.fans.direction.code, s.fans.state.leftCode)]) := by
  have hsafe : s.latchBringsSafe .fanRun = false := by simp [State.latchBringsSafe, hlevel]
  obtain h | h := State.signalLatchSet_without_safe hd hsafe
  · rw [h, State.judgeInterlock_holds (by simpa using hs) (by simpa using hr)
      (by rw [State.anyLatchOfLevel_congr (s := s) (by simp) (by simp)]; exact hany)]
    refine ⟨by simp [State.fansEnterFailed_fans]; rfl, by simp, rfl, .inl ?_⟩
    simp only [State.wantCheckpoint_frame, State.queueNotice_notices,
      State.fansEnterFailed_open_notices (s := s.drawn) hlive, State.fansEnterFailed_frame]
    rfl
  · rw [h, State.judgeInterlock_holds (s := s.drawn) hs hr hany]
    refine ⟨State.fansEnterFailed_fans _, by simp, by simp, .inr ?_⟩
    rw [State.fansEnterFailed_open_notices (by exact hlive)]
    rfl

/-- Level 3: a RUNNING or HELD run is SAFE, and the fans are STOPPED. -/
theorem State.signalLatchSet_level3 (hd : s.fans.state.driven = true) (hlive : (s.input .fanRun).live = false)
    (hs : s.latchBringsSafe .fanRun = true) (ha : s.InterlockAgrees) :
    (s.signalLatchSet .fanRun).run = { s.run with state := .safe, inBand := false } ∧
      (s.signalLatchSet .fanRun).fans = s.fans.stopped ∧ (s.signalLatchSet .fanRun).due.checkpoint = true ∧
      (∀ z, ((s.signalLatchSet .fanRun).outputs.get z).vent.condition =
          (s.signalLatchSet .fanRun).ventConditionFor z ∧
        ((s.signalLatchSet .fanRun).outputs.get z).vent.current =
          commandedCurrent ((s.signalLatchSet .fanRun).ventConditionFor z)
            ((s.signalLatchSet .fanRun).outputs.get z).vent.demand s.settings.ventSafePosition) ∧
      ((s.signalLatchSet .fanRun).notices =
          noticesAfter s [(.fanFailed, s.fans.direction.code, s.fans.state.leftCode), (.runSafe, 2, 0)] ∨
        (s.signalLatchSet .fanRun).notices =
          noticesAfter s [(.runSafe, 2, 0), (.fanFailed, s.fans.direction.code, s.fans.state.leftCode)] ∨
        (s.signalLatchSet .fanRun).notices = noticesAfter s [(.runSafe, 2, 0)]) := by
  obtain ⟨u, hu, h⟩ := State.signalLatchSet_into_safe hd hs ha
  have hvents (z : ZoneId) : (u.fansEnterStopped.outputs.get z).vent.condition = u.fansEnterStopped.ventConditionFor z ∧
      (u.fansEnterStopped.outputs.get z).vent.current =
        commandedCurrent (u.fansEnterStopped.ventConditionFor z) (u.fansEnterStopped.outputs.get z).vent.demand
          u.settings.ventSafePosition := by
    simp only [State.fansEnterStopped, State.refreshOutputs_vent]
    exact ⟨rfl, rfl⟩
  have hleaves : u.run = { s.run with state := .safe, inBand := false } ∧ u.fans.stopped = s.fans.stopped ∧
      u.due.checkpoint = true ∧ u.settings = s.settings := by
    obtain rfl | rfl | rfl := hu <;> simp [State.runEntersSafe, State.fansEnterFailed_fans, Fans.stopped]
  obtain ⟨hrun, hfans, hdue, hsettings⟩ := hleaves
  rw [h, ← hsettings]
  refine ⟨by simpa using hrun, hfans, by simpa using hdue, hvents, ?_⟩
  obtain rfl | rfl | rfl := hu
  · left
    simp only [State.fansEnterStopped_frame, State.runEntersSafe, State.wantCheckpoint_frame, State.queueNotice_notices,
      State.fansEnterFailed_open_notices (s := s.drawn) hlive, State.fansEnterFailed_frame]
    rfl
  · right; left
    rw [(State.fansEnterStopped_frame _).2.2.2.2.2.2.2.2.2.2.2.2.2.2.1, State.fansEnterFailed_open_notices (by exact hlive)]
    rfl
  · exact .inr (.inr rfl)

end

end Sys2Proof.Machine
end

section
/-! SUPPORT. The trip of FAN_RUN as an event ends with it (R146, FanRunTrips). -/

namespace Sys2Proof.Machine

section
variable {s : State}

/-- R146: FAN_RUN's notice queued and its latch set, before the signal. -/
def State.fanRunLatched (s : State) : State :=
  (s.queueNotice .interlockTripped 2 (s.inputLevel .fanRun)).setInput .fanRun
    { s.input .fanRun with latch := true, trippedAt := some s.clock.minute }

theorem State.trip_fanRun_of_clear (h : (s.input .fanRun).latch = false) :
    s.trip .fanRun = s.fanRunLatched.signalLatchSet .fanRun :=
  if_neg (by simp [h])

theorem State.trip_fanRun_of_set (h : (s.input .fanRun).latch = true) :
    s.trip .fanRun = s.queueNotice .interlockTripped 2 (s.inputLevel .fanRun) :=
  if_pos h

theorem State.fanRunLatched_input (s : State) :
    s.fanRunLatched.input .fanRun = { s.input .fanRun with latch := true, trippedAt := some s.clock.minute } := by
  rw [State.fanRunLatched, State.setInput_input]

theorem State.fanRunLatched_input_ne {i : Input} (h : i ≠ .fanRun) : s.fanRunLatched.input i = s.input i := by
  rw [State.fanRunLatched, State.setInput_input_ne _ h]
  rfl

theorem State.fanRunLatched_level (s : State) (i : Input) : s.fanRunLatched.inputLevel i = s.inputLevel i := rfl

theorem State.fanRunLatched_anyLatch : s.fanRunLatched.anyLatchOfLevel (s.inputLevel .fanRun) = true :=
  (State.anyLatchOfLevel_iff _ _).2 ⟨.fanRun, by rw [State.fanRunLatched_input], rfl⟩

/-- R98: a latch of another level than 2 is no reason. -/
theorem State.InterlockAgrees.fanRunLatched (ha : s.InterlockAgrees)
    (hlevel : s.inputLevel .fanRun ≠ 2) : s.fanRunLatched.InterlockAgrees := by
  have hany : s.fanRunLatched.anyLatchOfLevel 2 = s.anyLatchOfLevel 2 := by
    rw [Bool.eq_iff_iff, State.anyLatchOfLevel_iff, State.anyLatchOfLevel_iff]
    refine exists_congr fun i => ?_
    by_cases hi : i = .fanRun
    · subst hi
      simp [State.fanRunLatched_level, hlevel]
    · rw [State.fanRunLatched_input_ne hi, State.fanRunLatched_level]
  intro hp
  rw [hany]
  exact ha hp

/-- R101: it brings SAFE to a run that goes when its level is 3. -/
theorem State.fanRunLatched_bringsSafe :
    s.fanRunLatched.latchBringsSafe .fanRun = true ↔ s.inputLevel .fanRun = 3 ∧ s.run.state.going = true := by
  rw [State.latchBringsSafe_iff, State.fanRunLatched_input, State.fanRunLatched_level]
  exact and_congr_left' ⟨fun h => h.2, fun h => ⟨rfl, h⟩⟩

/-- R146: the trip's notice comes first. -/
theorem State.fanRunLatched_noticesAfter (s : State) (xs : List (NoticeKind × Nat × Nat)) :
    noticesAfter s.fanRunLatched xs = noticesAfter s ((.interlockTripped, 2, s.inputLevel .fanRun) :: xs) :=
  noticesAfter_append (s := s) (t := s.fanRunLatched) (xs := [(.interlockTripped, 2, s.inputLevel .fanRun)]) rfl rfl xs

theorem State.fanRunLatched_fans (s : State) : s.fanRunLatched.fans = s.fans := rfl

/-- R101, R132: a vent shows SAFE in a zone that is driven. -/
theorem State.ventConditionFor_safe {t : State} {z : ZoneId} (hr : t.ready = true) (hz : t.zoneActive z = true)
    (hs : t.run.state = .safe) : t.ventConditionFor z = .safe := by
  simp [State.ventConditionFor, State.outputsReleased, hr, hz, hs]

theorem ventCurrent_eq (d : Nat) : ventCurrent d = 4000 + 16 * d := by unfold ventCurrent; omega

section
variable (hd : s.fans.state.driven = true) (hlive : (s.input .fanRun).live = false)
  (hlatch : (s.input .fanRun).latch = false) (hv : s.ValvesSound) (ha : s.InterlockAgrees) (hdue : s.due = .none)
include hd hlive hlatch hv ha hdue

/-- R146, R140: what the trip leaves at every level. -/
theorem State.trip_fanRun_blocks {t : State} (ht : t = (s.trip .fanRun).finishEvent) :
    t =
      { s with
        interlocks := s.interlocks.set .fanRun { live := false, latch := true, trippedAt := some s.clock.minute }
        notices := t.notices, run := t.run, fans := t.fans, outputs := t.outputs, memory := t.memory
        draws := s.draws + 1 } ∧
      t.AllValvesForced ∧ (t.fans.state = .failed ∨ t.fans.state = .stopped) := by
  have hopen : (s.fanRunLatched.input .fanRun).live = false := by rw [State.fanRunLatched_input]; exact hlive
  obtain ⟨hforced, hdraws, hasks, hfans⟩ := State.signalLatchSet_fanRun (s := s.fanRunLatched) hd hopen hv fun h =>
    ha.fanRunLatched (by rw [(State.fanRunLatched_bringsSafe.1 h).1]; decide)
  rw [State.trip_fanRun_of_clear hlatch] at ht
  have hfinished : t.due = .none := ht ▸ State.AsksAtMost.finishEvent_due (s := s.fanRunLatched) hasks hdue
  subst ht
  refine ⟨State.eq_of_blocks ?_, hforced.congr (by simp), by simpa using hfans⟩
  have hrecord : s.fanRunLatched.interlocks =
      s.interlocks.set .fanRun { live := false, latch := true, trippedAt := some s.clock.minute } := by
    rw [← hlive]; rfl
  simp only [State.finishEvent_frame, State.signalLatchSet_frame, hrecord, hdraws, hfinished, hdue]
  simp [State.fanRunLatched]

/-- R146, R140, R98, R101: FAN_RUN, stopped where it should run, has tripped by its level. -/
theorem State.trip_fanRun_trips : FanRunTrips s (s.trip .fanRun).finishEvent s.fans.state.leftCode := by
  obtain ⟨hblocks, hforced, -⟩ := State.trip_fanRun_blocks hd hlive hlatch hv ha hdue rfl
  have hopen : (s.fanRunLatched.input .fanRun).live = false := by rw [State.fanRunLatched_input]; exact hlive
  have hmemory : (s.trip .fanRun).memory = s.memory := by rw [State.trip_fanRun_of_clear hlatch]; simp [State.fanRunLatched]
  have hasks (h : (s.trip .fanRun).due.checkpoint = true) : AsksCheckpoint s (s.trip .fanRun).finishEvent :=
    AsksCheckpoint.finishEvent (.inl h) hmemory
  refine ⟨hblocks, hforced, fun h1 => ?_, fun h2 hs hr => ?_, fun h3 hg => ?_⟩
  · have hsignal := State.signalLatchSet_level1 (s := s.fanRunLatched) hd hopen
      (by rw [State.fanRunLatched_level, h1]; decide) (ha.fanRunLatched (by rw [h1]; decide))
    obtain ⟨hfans, hrun, hnotices⟩ := hsignal
    simp only [State.finishEvent_frame, State.trip_fanRun_of_clear hlatch, hfans, hrun, hnotices,
      State.fanRunLatched_noticesAfter]
    exact ⟨rfl, rfl, rfl⟩
  · have hsignal := State.signalLatchSet_level2 (s := s.fanRunLatched) hd hopen
      (by rw [State.fanRunLatched_level, h2]; decide) (h2 ▸ State.fanRunLatched_anyLatch) hs hr
    rw [← State.trip_fanRun_of_clear hlatch] at hsignal
    obtain ⟨hfans, hrun, hrequest, hnotices⟩ := hsignal
    refine ⟨?_, ⟨?_, hasks hrequest⟩, ?_⟩
    · simp only [State.finishEvent_frame, hfans]; rfl
    · simp only [State.finishEvent_frame, hrun]; rfl
    · simpa only [State.finishEvent_frame, State.fanRunLatched_noticesAfter, State.fanRunLatched_fans] using hnotices
  · have hsignal := State.signalLatchSet_level3 (s := s.fanRunLatched) hd hopen
      (State.fanRunLatched_bringsSafe.2 ⟨h3, hg⟩) (ha.fanRunLatched (by rw [h3]; decide))
    rw [← State.trip_fanRun_of_clear hlatch] at hsignal
    obtain ⟨hrun, hfans, hrequest, hvents, hnotices⟩ := hsignal
    refine ⟨⟨?_, ?_, hforced, hasks hrequest, fun z hready hz => ?_⟩, ?_⟩
    · simp only [State.finishEvent_frame, hrun]; rfl
    · simp only [State.finishEvent_frame, hfans]; rfl
    · have hkept : (s.trip .fanRun).ready = s.ready ∧ (s.trip .fanRun).settings = s.settings := by
        rw [State.trip_fanRun_of_clear hlatch]; simp [State.fanRunLatched]
      have hcondition : (s.trip .fanRun).ventConditionFor z = .safe :=
        State.ventConditionFor_safe (by rw [hkept.1, hready])
          (by rw [State.zoneActive_congr (congrArg Settings.zones hkept.2), hz]) (by rw [hrun])
      obtain ⟨hshown, hcurrent⟩ := hvents z
      rw [hcondition] at hshown hcurrent
      simp only [State.finishEvent_frame]
      exact ⟨hshown, hcurrent.trans (ventCurrent_eq _)⟩
    · simpa only [State.finishEvent_frame, State.fanRunLatched_noticesAfter, State.fanRunLatched_fans] using hnotices

end

end

end Sys2Proof.Machine
end

section
/-! SUPPORT. A change of FAN_RUN's live level (R134, R136, R137, R144 to R146), and FanRunConfirmsOrTrips (O36). -/

namespace Sys2Proof.Machine

section
variable {s : State} {closed : Bool}

/-! ### The change, its judgement and its reader -/

/-- R144: FAN_RUN reads as given, before it is judged. -/
def State.fanRunReads (s : State) (closed : Bool) : State :=
  s.setInput .fanRun { s.input .fanRun with live := closed }

theorem State.fanRunReads_input (s : State) (closed : Bool) :
    (s.fanRunReads closed).input .fanRun = { s.input .fanRun with live := closed } := s.setInput_input _ _

theorem State.fanRunReads_same (h : closed = (s.input .fanRun).live) : s.fanRunReads closed = s := by
  subst h; rfl

/-- R145: an input that is not judged, or conforms, does not trip. -/
theorem State.judgeTrip_of_calm {i : Input} (h : s.judged i = false ∨ s.conforms i = true) (conformed wasJudged : Bool) :
    s.judgeTrip i conformed wasJudged = s :=
  if_neg (by obtain h | h := h <;> simp [h])

/-- R145: an input judged that did conform and does not now trips. -/
theorem State.judgeTrip_of_lapse {i : Input} (hj : s.judged i = true) (hc : s.conforms i = false) (wasJudged : Bool) :
    s.judgeTrip i true wasJudged = s.trip i :=
  if_pos (by simp [hj, hc])

theorem State.fansOnInput_of_open (h : (s.input .fanRun).live = false) : s.fansOnInput = s := if_neg (by simp [h])

/-- R134, R140: the sequencer does not read FAN_RUN in STOPPED, COASTING and FAILED. -/
theorem State.fansOnInput_of_deaf (h : s.fans.state = .stopped ∨ s.fans.state = .coasting ∨ s.fans.state = .failed) :
    s.fansOnInput = s := by
  unfold State.fansOnInput
  obtain h | h | h := h <;> simp [h]

/-- R134, R143: FAN_RUN is expected to read running, and compared, while the fans run. -/
theorem Fans.Agrees.of_running {f : Fans} (h : f.Agrees) (hs : f.state.isRunning = true) :
    f.expectRunning = true ∧ f.compareActive = true := by
  unfold Fans.Agrees at h
  cases hf : f.state <;> simp_all [FanState.isRunning]

theorem FanState.driven_of_running {x : FanState} (h : x.isRunning = true) : x.driven = true := by
  cases x <;> simp_all [FanState.isRunning, FanState.driven]

theorem FanState.leftCode_of_running {x : FanState} (h : x.isRunning = true) :
    x.leftCode = if x = .runningFwd then 2 else 3 := by
  cases x <;> simp_all [FanState.isRunning, FanState.leftCode]

/-! ### The event of an awake part -/

section
variable (h : s.Awake)
include h

theorem exec_liveLevelChange_same (hc : closed = (s.input .fanRun).live) :
    exec (.liveLevelChange .fanRun closed) s = .next s := by
  have hevent := s.event_of_awake h fun t => t.changeLive .fanRun closed
  have hkept : s.changeLive .fanRun closed = s := if_pos hc.symm
  rw [hkept, s.finishEvent_of_due_none h.due_none] at hevent
  exact congrArg Host.Outcome.next hevent

theorem exec_liveLevelChange_judged (hc : (s.input .fanRun).live ≠ closed) :
    exec (.liveLevelChange .fanRun closed) s =
      .next ((s.fanRunReads closed).judgeTrip .fanRun (s.conforms .fanRun) (s.judged .fanRun)).fansOnInput.finishEvent := by
  have hevent := s.event_of_awake h fun t => t.changeLive .fanRun closed
  have hchange : s.changeLive .fanRun closed =
      ((s.fanRunReads closed).judgeTrip .fanRun (s.conforms .fanRun) (s.judged .fanRun)).fansOnInput := if_neg hc
  rw [hchange] at hevent
  exact congrArg Host.Outcome.next hevent

/-- R144, R145: a change that does not trip goes to the sequencer. -/
theorem exec_liveLevelChange_calm {t : State} (hc : (s.input .fanRun).live ≠ closed)
    (hcalm : s.judged .fanRun = false ∨ closed = s.fans.expectRunning) (ht : (s.fanRunReads closed).fansOnInput = t)
    (hdue : t.due = s.due) : exec (.liveLevelChange .fanRun closed) s = .next t := by
  have hquiet : (s.fanRunReads closed).judged .fanRun = false ∨ (s.fanRunReads closed).conforms .fanRun = true :=
    hcalm.imp id fun he => by simp [State.conforms, State.fanRunReads_input, he]; rfl
  rw [exec_liveLevelChange_judged h hc, State.judgeTrip_of_calm hquiet, ht,
    t.finishEvent_of_due_none (hdue.trans h.due_none)]

/-- R134, R144: a change that neither trips nor is read by the sequencer is that of the live level alone. -/
theorem exec_liveLevelChange_alone (hcalm : s.judged .fanRun = false ∨ closed = s.fans.expectRunning)
    (hdeaf : closed = false ∨ s.fans.state = .stopped ∨ s.fans.state = .coasting ∨ s.fans.state = .failed) :
    exec (.liveLevelChange .fanRun closed) s = .next (s.fanRunReads closed) := by
  by_cases hc : closed = (s.input .fanRun).live
  · rw [exec_liveLevelChange_same h hc, State.fanRunReads_same hc]
  · refine exec_liveLevelChange_calm h (Ne.symm hc) hcalm ?_ rfl
    obtain hopen | hdeaf := hdeaf
    · exact State.fansOnInput_of_open (by rw [State.fanRunReads_input, hopen])
    · exact State.fansOnInput_of_deaf hdeaf

/-- R145, R146: FAN_RUN of FAILED fans, its latch set, trips again at reading running, and signals nothing. -/
theorem exec_liveLevelChange_again (hf : s.fans.state = .failed) (ha : s.fans.Agrees)
    (hlatch : (s.input .fanRun).latch = true) (hlevel : 1 ≤ s.inputLevel .fanRun) (hlive : (s.input .fanRun).live = false) :
    exec (.liveLevelChange .fanRun true) s =
      .next ((s.fanRunReads true).queueNotice .interlockTripped 2 (s.inputLevel .fanRun)) := by
  obtain ⟨hexpect, hactive⟩ : s.fans.expectRunning = false ∧ s.fans.compareActive = true := by
    simpa [Fans.Agrees, hf] using ha
  have hconformed : s.conforms .fanRun = true := by simp [State.conforms, State.expectedClosed, hlive, hexpect]
  have hjudged : (s.fanRunReads true).judged .fanRun = true := by
    change (s.fans.compareActive && decide (1 ≤ s.inputLevel .fanRun)) = true
    simp [hactive, hlevel]
  have hlapsed : (s.fanRunReads true).conforms .fanRun = false := by
    change (((s.fanRunReads true).input .fanRun).live == s.fans.expectRunning) = false
    simp [State.fanRunReads_input, hexpect]
  rw [exec_liveLevelChange_judged h (by simp [hlive]), hconformed, State.judgeTrip_of_lapse hjudged hlapsed,
    State.trip_fanRun_of_set (by rw [State.fanRunReads_input]; exact hlatch), State.fansOnInput_of_deaf (.inr (.inr (by exact hf))),
    State.finishEvent_of_due_none _ (by exact h.due_none)]
  rfl

/-- R136, R144: FAN_RUN confirms a start. -/
theorem exec_liveLevelChange_confirms (hf : s.fans.state = .starting) (ha : s.fans.Agrees)
    (hlive : (s.input .fanRun).live = false) :
    exec (.liveLevelChange .fanRun true) s = .next (s.fanRunReads true).confirmStart := by
  have hunjudged : s.judged .fanRun = false := by
    have hoff : s.fans.compareActive = false := by simpa [Fans.Agrees, hf] using ha
    simp [State.judged, State.comparisonActive, hoff]
  refine exec_liveLevelChange_calm h (by simp [hlive]) (.inl hunjudged) ?_ ?_
  · have hstarting : (s.fanRunReads true).fans.state = .starting := hf
    simp [State.fansOnInput, State.fanRunReads_input, hstarting]
  · simp [State.fanRunReads]

/-- R137, R144: FAN_RUN confirms fans that run. -/
theorem exec_liveLevelChange_running (hf : s.fans.state.isRunning = true) (ha : s.fans.Agrees)
    (hlive : (s.input .fanRun).live = false) :
    exec (.liveLevelChange .fanRun true) s =
      .next { s.fanRunReads true with fans := { s.fans with confirmed := true } } := by
  refine exec_liveLevelChange_calm h (by simp [hlive]) (.inr (ha.of_running hf).1.symm) ?_ rfl
  have hkept : (s.fanRunReads true).fans = s.fans := rfl
  unfold State.fansOnInput
  rw [State.fanRunReads_input, if_pos rfl, hkept]
  cases hs : s.fans.state <;> simp_all [FanState.isRunning]

/-- R144, R146: FAN_RUN of running fans reads stopped at a level of 1 to 3. -/
theorem exec_liveLevelChange_trips (hf : s.fans.state.isRunning = true) (ha : s.fans.Agrees)
    (hlive : (s.input .fanRun).live = true) (hlatch : (s.input .fanRun).latch = false) (hlevel : 1 ≤ s.inputLevel .fanRun)
    (hv : s.ValvesSound) (hi : s.InterlockAgrees) :
    ∃ t, exec (.liveLevelChange .fanRun false) s = .next t ∧
      FanRunTrips s t (if s.fans.state = .runningFwd then 2 else 3) := by
  obtain ⟨hexpect, hactive⟩ := ha.of_running hf
  have hopen : ((s.fanRunReads false).input .fanRun).live = false := by rw [State.fanRunReads_input]
  have hclear : ((s.fanRunReads false).input .fanRun).latch = false := by rw [State.fanRunReads_input]; exact hlatch
  have hconformed : s.conforms .fanRun = true := by simp [State.conforms, State.expectedClosed, hlive, hexpect]
  have hjudged : (s.fanRunReads false).judged .fanRun = true := by
    change (s.fans.compareActive && decide (1 ≤ s.inputLevel .fanRun)) = true
    simp [hactive, hlevel]
  have hlapsed : (s.fanRunReads false).conforms .fanRun = false := by
    change (((s.fanRunReads false).input .fanRun).live == s.fans.expectRunning) = false
    simp [hopen, hexpect]
  have hagrees : (s.fanRunReads false).InterlockAgrees := fun hp =>
    (hi hp).trans (State.anyLatchOfLevel_of_latches (fun i => s.setLive_latch .fanRun i false) (fun _ _ => rfl) 2).symm
  have hread : ((s.fanRunReads false).trip .fanRun).fansOnInput = (s.fanRunReads false).trip .fanRun := by
    refine State.fansOnInput_of_open ?_
    simp only [State.trip_fanRun_of_clear hclear, State.input, State.signalLatchSet_frame]
    exact (congrArg InputRecord.live (State.fanRunLatched_input _)).trans hopen
  have htrips := State.trip_fanRun_trips (s := s.fanRunReads false) (FanState.driven_of_running hf) hopen hclear hv hagrees
    h.due_none
  refine ⟨_, exec_liveLevelChange_judged h (by simp [hlive]), ?_⟩
  rw [hconformed, State.judgeTrip_of_lapse hjudged hlapsed, hread, ← FanState.leftCode_of_running hf]
  exact htrips

end

end

/-- Settles O36, by the state of the sequencer. -/
theorem fanRunConfirmsOrTrips : Obligations.FanRunConfirmsOrTrips := by
  unfold Obligations.FanRunConfirmsOrTrips
  intro s h ha become
  have hunjudged (hactive : s.fans.compareActive = false) : s.judged .fanRun = false := by
    simp [State.judged, State.comparisonActive, hactive]
  have hlevel0 (h0 : s.inputLevel .fanRun = 0) : s.judged .fanRun = false := by simp [State.judged, h0]
  refine ⟨fun closed => exec_liveLevelChange_same h, fun closed hf => ?_, fun hf => ⟨?_, fun hc => ?_, ?_⟩,
    fun hi hv hforcing hlatch => ⟨fun hf hlive hn => ?_, fun hf hlive hn => ?_, fun hf hlive => ?_, fun hf hlive =>
      ⟨fun h0 => ?_, fun h1 _ => exec_liveLevelChange_trips h hf ha hlive hlatch h1 hv hi⟩⟩⟩
  case refine_1 =>
    have hactive : s.fans.compareActive = false := by obtain hf | hf := hf <;> simp_all [Fans.Agrees]
    exact exec_liveLevelChange_alone h (.inl (hunjudged hactive)) (.inr (hf.imp_right .inl))
  case refine_2 =>
    have hexpect : s.fans.expectRunning = false := by simp_all [Fans.Agrees]
    exact exec_liveLevelChange_alone h (.inr hexpect.symm) (.inl rfl)
  case refine_3 =>
    obtain h0 | hlive := hc
    · exact exec_liveLevelChange_alone h (.inl (hlevel0 h0)) (.inr (.inr (.inr hf)))
    · rw [exec_liveLevelChange_same h hlive.symm]
      exact congrArg _ (State.fanRunReads_same hlive.symm).symm
  case refine_4 => exact fun hset h1 hlive => exec_liveLevelChange_again h hf ha hset h1 hlive
  case refine_5 =>
    obtain ⟨hruns, hframe⟩ := State.fansEnterRunning_fansRun
      (s := { s.fanRunReads true with fans := { s.fans with confirmed := true } }) (by simp [hf, FanState.isRunning])
      hforcing hn
    exact ⟨_, exec_liveLevelChange_confirms h hf ha hlive, hruns, hframe⟩
  case refine_6 =>
    obtain ⟨hforced, hframe, hfans⟩ := State.fansEnterRunning_coasts
      (s := { s.fanRunReads true with fans := { s.fans with confirmed := true } }) hv hn
    exact ⟨_, exec_liveLevelChange_confirms h hf ha hlive, hforced, hframe, hfans⟩
  case refine_7 => exact exec_liveLevelChange_running h hf ha hlive
  case refine_8 => exact exec_liveLevelChange_alone h (.inl (hlevel0 h0)) (.inl rfl)

end Sys2Proof.Machine
end

section
/-! SUPPORT. The fan timers (R137, R138, R139): the expiry of the start-confirm window, the reversal and the end of a
coast; and FanTimersExpire (O37). -/

namespace Sys2Proof.Machine

section
variable {s : State}

/-! ### The start-confirm window (R137) -/

/-- R137: the comparison of FAN_RUN resumes, with running expected. -/
def State.fansCompared (s : State) : State :=
  { s with fans := { s.fans with expectRunning := true, compareActive := true } }

theorem State.expireConfirm_of_level0 (h : s.inputLevel .fanRun = 0) : s.expireConfirm = s.fansCompared.fansEnterRunning :=
  if_pos h

/-- R137, R145: at level 1 or above FAN_RUN, judged from now on, trips. -/
theorem State.expireConfirm_of_level (hf : s.fans.state = .starting) (ha : s.fans.Agrees)
    (hlive : (s.input .fanRun).live = false) (h : 1 ≤ s.inputLevel .fanRun) :
    s.expireConfirm = s.fansCompared.trip .fanRun := by
  have hexpire : s.expireConfirm = s.fansCompared.judgeTrip .fanRun s.fanRunConforms s.fanRunJudged :=
    if_neg (Nat.pos_iff_ne_zero.1 h)
  have hoff : s.fans.compareActive = false := by simpa [Fans.Agrees, hf] using ha
  have hjudged : s.fansCompared.judged .fanRun = true := by
    change (true && decide (1 ≤ s.inputLevel .fanRun)) = true
    simp [h]
  have hlapsed : s.fansCompared.conforms .fanRun = false := by
    change ((s.input .fanRun).live == true) = false
    simp [hlive]
  rw [hexpire, State.judgeTrip]
  exact if_pos (by simp [hjudged, hlapsed, State.fanRunJudged, hoff])

/-- R137: at level 0 the fans run unconfirmed. -/
theorem State.expireConfirm_fansRun (hf : s.fans.state = .starting) (hforcing : s.ForcingAgrees)
    (h : s.inputLevel .fanRun = 0) (hn : s.fans.NoReversal) :
    FansRun s s.expireConfirm s.fans.confirmed ∧
      s.expireConfirm = { s with fans := s.expireConfirm.fans, outputs := s.expireConfirm.outputs } := by
  rw [State.expireConfirm_of_level0 h]
  exact State.fansEnterRunning_fansRun (s := s.fansCompared) (by simp [State.fansCompared, hf, FanState.isRunning])
    hforcing hn

section
variable (hf : s.fans.state = .starting) (ha : s.fans.Agrees) (hlive : (s.input .fanRun).live = false)
  (hlatch : (s.input .fanRun).latch = false) (h : 1 ≤ s.inputLevel .fanRun) (hv : s.ValvesSound) (hi : s.InterlockAgrees)
  (hdue : s.due = .none)
include hf ha hlive hlatch h hv hi hdue

/-- R137, R146: at any other level FAN_RUN trips, with STARTING left. -/
theorem State.expireConfirm_trips : FanRunTrips s s.expireConfirm.finishEvent 1 := by
  have hdriven : s.fansCompared.fans.state.driven = true := by simp [State.fansCompared, hf, FanState.driven]
  have hcode : s.fansCompared.fans.state.leftCode = 1 := by simp [State.fansCompared, hf, FanState.leftCode]
  have htrips := State.trip_fanRun_trips (s := s.fansCompared) hdriven hlive hlatch hv hi hdue
  rw [hcode] at htrips
  rw [State.expireConfirm_of_level hf ha hlive h]
  exact htrips

theorem State.expireConfirm_halts : s.expireConfirm.fans.state = .failed ∨ s.expireConfirm.fans.state = .stopped := by
  have hdriven : s.fansCompared.fans.state.driven = true := by simp [State.fansCompared, hf, FanState.driven]
  obtain ⟨-, -, hhalts⟩ := State.trip_fanRun_blocks (s := s.fansCompared) hdriven hlive hlatch hv hi hdue rfl
  rw [State.expireConfirm_of_level hf ha hlive h]
  simpa using hhalts

end

/-! ### The end of a coast (R139) -/

theorem Direction.flip_eq (d : Direction) : d.flip = if d = .fwd then .rev else .fwd := by cases d <;> rfl

/-- The fans as a coast ends. -/
def Fans.restarted (f : Fans) : Fans :=
  { f with
    state := .starting, direction := f.direction.flip, coastTimer := 0, confirmTimer := 0, confirmed := false
    compareActive := false }

theorem State.endCoast_of_open (h : (s.input .fanRun).live = false) :
    s.endCoast = ({ s with fans := s.fans.restarted } : State).refreshOutputs :=
  if_neg (by exact Bool.eq_false_iff.1 h)

theorem State.endCoast_of_closed (h : (s.input .fanRun).live = true) :
    s.endCoast = ({ s with fans := s.fans.restarted } : State).refreshOutputs.confirmStart :=
  if_pos (by exact h)

/-- R128: fans that neither ran nor run force what they forced. -/
theorem State.refreshOutputs_valve_of_idle {f : Fans} (ha : s.ForcingAgrees) (hs : s.fans.state.isRunning = false)
    (hf : f.state.isRunning = false) (z : ZoneId) (k : ValveKind) :
    ((({ s with fans := f } : State).refreshOutputs).outputs.get z).valve k = (s.outputs.get z).valve k := by
  have hcauses : ({ s with fans := f } : State).forcingFor z k = ((s.outputs.get z).valve k).forcing := by
    rw [ha z k]
    simp only [State.forcingFor, hs, hf]
    rfl
  rw [State.refreshOutputs_valve, hcauses]
  exact Valve.refresh_same _ _

end

/-- Settles O37, by the timer. -/
theorem fanTimersExpire : Obligations.FanTimersExpire := by
  unfold Obligations.FanTimersExpire
  intro s hp hd ha hv hforcing hi hlatch
  have hexpiry (hf : s.fans.state = .starting) (hover : s.settings.startConfirmWindow ≤ s.fans.confirmTimer) :
      exec .startConfirmExpiry s = .next s.expireConfirm.finishEvent := by
    have hevent : s.afterMinute State.takeConfirmExpiry = s.expireConfirm.finishEvent := by
      rw [s.afterMinute_of_due_none hd, State.dueEvent_of_powered hp, State.takeConfirmExpiry,
        if_pos (by simp [State.confirmIsOver, hf, hover])]
    exact congrArg Host.Outcome.next hevent
  refine ⟨fun hf hover hlive => ⟨fun h0 hn => ?_, fun h1 _ => ?_⟩, fun hf hset hover => ?_, ?_⟩
  · obtain ⟨hruns, hframe⟩ := State.expireConfirm_fansRun hf hforcing h0 hn
    have hdue : s.expireConfirm.due = .none := by rw [hframe]; exact hd
    refine ⟨_, hexpiry hf hover, ?_⟩
    rw [State.finishEvent_of_due_none _ hdue]
    exact ⟨hruns, hframe⟩
  · exact ⟨_, hexpiry hf hover, State.expireConfirm_trips hf ha hlive hlatch h1 hv hi hd⟩
  · have hnot : ¬ s.fans.NoReversal := not_or.2 ⟨hset, Nat.not_lt.2 hover⟩
    have hevent : s.dueEvent State.checkReversal = s.fansEnterCoasting := by
      rw [State.dueEvent_of_powered hp, State.checkReversal_of_due hf hnot,
        State.finishEvent_of_due_none _ (by exact hd)]
    exact ⟨_, congrArg Host.Outcome.next hevent, rfl, rfl, (ha.of_running hf).1, hv.fansEnterCoasting⟩
  · intro hf hover direction
    have hevent : s.dueEvent State.takeCoastEnd = s.endCoast.finishEvent := by
      rw [State.dueEvent_of_powered hp, State.takeCoastEnd, if_pos (by simp [State.coastIsOver, hf, hover])]
    have hflip : s.fans.direction.flip = direction := s.fans.direction.flip_eq
    refine ⟨fun hlive => ?_, fun hlive hn => ?_⟩
    · rw [State.endCoast_of_open hlive, State.finishEvent_of_due_none _ (by exact hd)] at hevent
      refine ⟨_, congrArg Host.Outcome.next hevent, rfl, ?_, fun z k => ?_⟩
      · rw [← hflip]; rfl
      · exact State.refreshOutputs_valve_of_idle hforcing (by simp [hf, FanState.isRunning]) rfl z k
    · rw [State.endCoast_of_closed hlive, State.confirmStart, State.fansEnterRunning_of_noReversal (by exact hn),
        State.finishEvent_of_due_none _ (by exact hd)] at hevent
      refine ⟨_, congrArg Host.Outcome.next hevent, rfl, ?_⟩
      have hstate := ({ s.fans.restarted with confirmed := true } : Fans).running_state
      rw [← hflip]
      exact congrArg
        (fun x => { s.fans.restarted with state := x, confirmed := true, expectRunning := true, compareActive := true })
        hstate

end Sys2Proof.Machine
end

section
/-! SUPPORT. FAN_CONFIG (R141, R132, R137, R139): the settings written with the vents in SAFE, and what then ends at once;
and FanConfigActsAtOnce (O50). -/

namespace Sys2Proof.Machine

/-! ### The checks (R141) -/

def fanConfigChecks (window c0 c1 heat spray p0 p1 : Byte) : List (Nat × Bool) :=
  [(1, inRange 5 60 window.toNat), (2, inRange 30 300 (read2 c0 c1)), (3, inRange 10 120 heat.toNat),
    (4, inRange 10 120 spray.toNat), (5, read2 p0 p1 == 0 || read2 p0 p1 == 1000)]

/-- The ranges of the five fields. -/
def fanConfigConditions (window c0 c1 heat spray p0 p1 : Byte) : List Prop :=
  [5 ≤ window.toNat ∧ window.toNat ≤ 60, 30 ≤ read2 c0 c1 ∧ read2 c0 c1 ≤ 300, 10 ≤ heat.toNat ∧ heat.toNat ≤ 120,
    10 ≤ spray.toNat ∧ spray.toNat ≤ 120, read2 p0 p1 = 0 ∨ read2 p0 p1 = 1000]

section
variable {window c0 c1 heat spray p0 p1 : Byte}

theorem fanConfigChecks_conditions :
    List.Forall₂ (fun (c : Nat × Bool) p => c.2 = true ↔ p) (fanConfigChecks window c0 c1 heat spray p0 p1)
      (fanConfigConditions window c0 c1 heat spray p0 p1) := by
  simp [fanConfigChecks, fanConfigConditions, inRange]

theorem fanConfigChecks_firstBad {i : Nat} (h : FirstFailing (fanConfigConditions window c0 c1 heat spray p0 p1) i)
    (hi5 : i < 5) : firstBad (fanConfigChecks window c0 c1 heat spray p0 p1) = some (i + 1) := by
  have hnumbers : (fanConfigChecks window c0 c1 heat spray p0 p1).map (·.1) = List.range' 1 5 := rfl
  rw [firstBad_of_firstFailing fanConfigChecks_conditions h, hnumbers, List.getElem?_range' hi5, Nat.one_mul, Nat.add_comm]

/-! ### The handler -/

theorem handleFanConfig_badField {field : Nat} (s : State)
    (h : firstBad (fanConfigChecks window c0 c1 heat spray p0 p1) = some field) :
    handleFanConfig [window, c0, c1, heat, spray, p0, p1] s = (s, .badField field s.fanConfigPart) := by
  unfold fanConfigChecks at h
  simp only [handleFanConfig, h]

theorem handleFanConfig_write (s : State) (h : firstBad (fanConfigChecks window c0 c1 heat spray p0 p1) = none) :
    handleFanConfig [window, c0, c1, heat, spray, p0, p1] s =
      (s.writeFanConfig window.toNat (read2 c0 c1) heat.toNat spray.toNat (read2 p0 p1),
        .of .ok (s.writeFanConfig window.toNat (read2 c0 c1) heat.toNat spray.toNat (read2 p0 p1)).fanConfigPart) := by
  unfold fanConfigChecks at h
  simp only [handleFanConfig, h]

end

theorem handleFanConfig_badLength (s : State) {p : List Byte} (h0 : p.length ≠ 0) (h7 : p.length ≠ 7) :
    handleFanConfig p s = (s, .of .badLength s.fanConfigPart) := by
  unfold handleFanConfig
  split
  · exact absurd rfl h0
  · exact absurd rfl h7
  · rfl

/-! ### The settings and the vents in SAFE (R141, R132) -/

theorem Zones.map_congr {α β : Type} {f g : ZoneId → α → β} {x : Zones α} (h : ∀ z, f z (x.get z) = g z (x.get z)) :
    x.map f = x.map g := by
  simp only [Zones.map, Zones.mk.injEq]
  exact ⟨h .z1, h .z2, h .z3, h .z4⟩

/-- R141: the outputs of a zone with a new safe position. -/
def ZoneOutputs.safeAt (position : Nat) (o : ZoneOutputs) : ZoneOutputs :=
  if o.vent.condition = .safe then { o with vent := { o.vent with current := 4000 + 16 * position } } else o

/-- R141: the five settings replaced, and the vents in SAFE at the new position. -/
def State.fanSettingsWritten (s : State) (window coast heat spray position : Nat) : State :=
  { s with
    settings :=
      { s.settings with
        startConfirmWindow := window, coastTime := coast, heatPeriod := heat, sprayPeriod := spray,
        ventSafePosition := position }
    outputs := s.outputs.map fun _ o => o.safeAt position }

section
variable {s : State} {window coast heat spray position : Nat}

theorem ZoneOutputs.safeAt_valve (o : ZoneOutputs) (k : ValveKind) : (o.safeAt position).valve k = o.valve k := by
  unfold ZoneOutputs.safeAt
  split <;> cases k <;> rfl

theorem State.fanSettingsWritten_valve (z : ZoneId) (k : ValveKind) :
    ((s.fanSettingsWritten window coast heat spray position).outputs.get z).valve k = (s.outputs.get z).valve k := by
  rw [State.fanSettingsWritten, zones_get_map, ZoneOutputs.safeAt_valve]

theorem State.ValvesSound.fanSettingsWritten (h : s.ValvesSound) :
    (s.fanSettingsWritten window coast heat spray position).ValvesSound := fun z k => by
  rw [State.fanSettingsWritten_valve]
  exact h z k

theorem State.ForcingAgrees.fanSettingsWritten (h : s.ForcingAgrees) :
    (s.fanSettingsWritten window coast heat spray position).ForcingAgrees := fun z k => by
  rw [State.fanSettingsWritten_valve]
  exact h z k

/-- R132: a vent that shows its condition and current takes a new safe position in SAFE alone. -/
theorem Vent.refresh_position {v : Vent} {p : Nat} (h : v.current = commandedCurrent v.condition v.demand p)
    (position : Nat) :
    v.refresh v.condition position =
      if v.condition = .safe then { v with current := 4000 + 16 * position } else v := by
  obtain ⟨demand, condition, current⟩ := v
  obtain rfl : current = commandedCurrent condition demand p := h
  cases condition <;> simp [Vent.refresh, commandedCurrent, ventCurrent_eq]

/-- R128, R132: with the outputs in step, FAN_CONFIG's settings reach the vents in SAFE alone. -/
theorem State.refreshOutputs_of_fanSettings (hf : s.ForcingAgrees) (hv : s.VentsAgree) :
    ({ s with
      settings :=
        { s.settings with
          startConfirmWindow := window, coastTime := coast, heatPeriod := heat, sprayPeriod := spray,
          ventSafePosition := position } } : State).refreshOutputs =
      s.fanSettingsWritten window coast heat spray position := by
  refine congrArg (fun o => ({ s with settings := _, outputs := o } : State)) (Zones.map_congr fun z => ?_)
  obtain ⟨hcondition, hcurrent⟩ := hv z
  have hvent := Vent.refresh_position (hcondition ▸ hcurrent) position
  have hheat := ((s.outputs.get z).heat).refresh_same heat
  have hspray := ((s.outputs.get z).spray).refresh_same spray
  rw [show (s.outputs.get z).heat.forcing = s.forcingFor z .heat from hf z .heat] at hheat
  rw [show (s.outputs.get z).spray.forcing = s.forcingFor z .spray from hf z .spray] at hspray
  have hzone : (s.outputs.get z).safeAt position =
      ⟨(s.outputs.get z).heat.refresh heat (s.forcingFor z .heat),
        (s.outputs.get z).spray.refresh spray (s.forcingFor z .spray),
        (s.outputs.get z).vent.refresh (s.ventConditionFor z) position⟩ := by
    rw [hheat, hspray, ← hcondition, hvent, ZoneOutputs.safeAt]
    split <;> rfl
  exact hzone.symm

/-- R141, R137, R139: an accepted write: the settings with the vents, then what is over ends. -/
theorem State.writeFanConfig_eq (hf : s.ForcingAgrees) (hv : s.VentsAgree) :
    s.writeFanConfig window coast heat spray position =
      ((s.fanSettingsWritten window coast heat spray position).takeConfirmExpiry).takeCoastEnd := by
  rw [State.writeFanConfig, State.refreshOutputs_of_fanSettings hf hv]

theorem State.takeCoastEnd_of_before (h : s.fans.state ≠ .coasting ∨ s.fans.coastTimer < s.settings.coastTime) :
    s.takeCoastEnd = s :=
  if_neg (by rintro hover; simp_all [State.coastIsOver]; omega)

theorem State.takeConfirmExpiry_of_before (h : s.fans.state = .starting → s.fans.confirmTimer < s.settings.startConfirmWindow) :
    s.takeConfirmExpiry = s :=
  if_neg (by simpa [State.confirmIsOver] using h)

theorem State.takeConfirmExpiry_of_over (hs : s.fans.state = .starting)
    (h : s.settings.startConfirmWindow ≤ s.fans.confirmTimer) : s.takeConfirmExpiry = s.expireConfirm :=
  if_pos (by simp [State.confirmIsOver, hs, h])

/-- R139: the end of a coast leaves everything but the fans and the outputs. -/
theorem State.takeCoastEnd_blocks (s : State) :
    s.takeCoastEnd = { s with fans := s.takeCoastEnd.fans, outputs := s.takeCoastEnd.outputs } :=
  State.eq_of_blocks (by simp)

/-- R139: with FAN_RUN reading stopped the coast's end is a start the other way. -/
theorem State.takeCoastEnd_starts (hs : s.fans.state = .coasting) (hover : s.settings.coastTime ≤ s.fans.coastTimer)
    (hlive : (s.input .fanRun).live = false) : s.takeCoastEnd.fans = s.fans.restarted := by
  have hends : s.takeCoastEnd = s.endCoast := if_pos (by simp [State.coastIsOver, hs, hover])
  rw [hends, State.endCoast_of_open hlive]
  rfl

theorem Direction.flip_ne (d : Direction) : d.flip ≠ d := by cases d <;> simp [Direction.flip]

end

/-! ### The request served -/

theorem State.fanConfigPart_congr {s t : State} (hs : t.settings = s.settings) (hf : t.fans = s.fans)
    (ho : t.outputs = s.outputs) (hr : t.ready = s.ready) : t.fanConfigPart = s.fanConfigPart := by
  simp only [State.fanConfigPart, hs, hf, ho, hr]

/-- R141: a request served with OK and the settings and figures leaves what its handler makes of the part, and the link. -/
theorem fanConfigPart_served {c : Instr} {s u : State} {kind tag : Byte} {payload : List Byte}
    {f : List Byte → State → State × Reply} (h : s.Receptive) (hc : requestOf c = some (kind, tag, payload))
    (hk : ∀ k t p, c ≠ .unknownRequest k t p) (hf : handlerOf kind.toNat = some f)
    (hu : f payload s = (u, .of .ok u.fanConfigPart)) (hl : u.link = s.link) :
    ∃ t, Served c s t (.of .ok t.fanConfigPart) ∧ t = { u.finishEvent with link := t.link } := by
  obtain ⟨t, ht⟩ : ∃ t, t = (u.answer kind tag (.of .ok u.fanConfigPart)).finishEvent := ⟨_, rfl⟩
  have hserved := served_of_handled h hc hk hf hu hl
  have hpart : t.fanConfigPart = u.fanConfigPart := by
    rw [ht]
    exact State.fanConfigPart_congr (by simp) (by simp) (by simp) (by simp)
  rw [← ht, ← hpart] at hserved
  refine ⟨t, hserved, ?_⟩
  rw [ht, State.finishEvent_of_answer]

theorem fanConfig_served {s : State} {tag window c0 c1 heat spray p0 p1 : Byte} (h : s.Receptive)
    (hok : firstBad (fanConfigChecks window c0 c1 heat spray p0 p1) = none) :
    ∃ t, Served (.fanConfig tag [window, c0, c1, heat, spray, p0, p1]) s t (.of .ok t.fanConfigPart) ∧
      t =
        { (s.writeFanConfig window.toNat (read2 c0 c1) heat.toNat spray.toNat (read2 p0 p1)).finishEvent with
          link := t.link } :=
  fanConfigPart_served h rfl (by simp) rfl (handleFanConfig_write s hok) (by simp)

section
variable {s : State} {window coast heat spray position : Nat}

/-- R141, R137: a write with a start-confirm window that is over: the expiry, and nothing more. -/
theorem State.writeFanConfig_of_expiry (hf : s.ForcingAgrees) (hv : s.VentsAgree) (hs : s.fans.state = .starting)
    (hover : window ≤ s.fans.confirmTimer)
    (hleft : (s.fanSettingsWritten window coast heat spray position).expireConfirm.fans.state ≠ .coasting) :
    s.writeFanConfig window coast heat spray position =
      (s.fanSettingsWritten window coast heat spray position).expireConfirm := by
  rw [State.writeFanConfig_eq hf hv, State.takeConfirmExpiry_of_over (by exact hs) (by exact hover),
    State.takeCoastEnd_of_before (.inl hleft)]

/-- R141: a write with no start-confirm window over. -/
theorem State.writeFanConfig_of_no_expiry (hf : s.ForcingAgrees) (hv : s.VentsAgree)
    (hbefore : s.fans.state = .starting → s.fans.confirmTimer < window) :
    s.writeFanConfig window coast heat spray position =
      (s.fanSettingsWritten window coast heat spray position).takeCoastEnd := by
  rw [State.writeFanConfig_eq hf hv, State.takeConfirmExpiry_of_before (by exact hbefore)]

theorem FansRun.state_ne_coasting {s t : State} {b : Bool} (h : FansRun s t b) : t.fans.state ≠ .coasting := by
  rw [h.1]
  cases s.fans.direction <;> simp

end

/-- Settles O50: the refusals by the first field, the write by what it ends, and the wrong lengths. -/
theorem fanConfigActsAtOnce : Obligations.FanConfigActsAtOnce := by
  unfold Obligations.FanConfigActsAtOnce
  intro s tag window c0 c1 heat spray p0 p1 h hforcing hvents c coast position legal
  have hlegal : legal = fanConfigConditions window c0 c1 heat spray p0 p1 := rfl
  have hserved (hall : ∀ x ∈ legal, x) :=
    fanConfig_served (tag := tag) h (firstBad_of_conditions fanConfigChecks_conditions (hlegal ▸ hall))
  refine ⟨servedUnchanged_of_handled h rfl (by simp) rfl rfl, fun i hfails hbefore hi5 => ?_, fun hall hbefore => ?_,
    fun hall hs hover hlive hlatch ha hi hv => ?_, fun p h0 h7 => ?_⟩
  · have hfirst : FirstFailing (fanConfigConditions window c0 c1 heat spray p0 p1) i := by
      obtain ⟨x, hx⟩ : ∃ x, legal[i]? = some x := ⟨legal[i], List.getElem?_eq_getElem (by simpa [legal] using hi5)⟩
      exact ⟨⟨x, hx, hfails x hx⟩, hbefore⟩
    exact servedUnchanged_of_handled h rfl (by simp [c]) rfl
      (handleFanConfig_badField s (fanConfigChecks_firstBad hfirst hi5))
  · obtain ⟨t, ht, heq⟩ := hserved hall
    obtain ⟨v, hv⟩ : ∃ v, v = s.fanSettingsWritten window.toNat coast heat.toNat spray.toNat position := ⟨_, rfl⟩
    have hwrite : s.writeFanConfig window.toNat (read2 c0 c1) heat.toNat spray.toNat (read2 p0 p1) = v.takeCoastEnd :=
      hv ▸ State.writeFanConfig_of_no_expiry hforcing hvents hbefore
    have hdue : v.takeCoastEnd.due = .none := by rw [v.takeCoastEnd_blocks, hv]; exact h.1.due_none
    rw [hwrite, State.finishEvent_of_due_none _ hdue] at heq
    have hfans : t.fans = v.takeCoastEnd.fans := by rw [heq]
    have houtputs : t.outputs = v.takeCoastEnd.outputs := by rw [heq]
    have hsettings : t.settings = v.settings := by rw [heq]; simp
    refine ⟨t, ht, ?_, by rw [hsettings, hv]; rfl, fun hcoast => ?_, fun hs hover hlive => ?_⟩
    · rw [heq, v.takeCoastEnd_blocks, hv]
      rfl
    · have hgoes : v.takeCoastEnd = v := hv ▸ State.takeCoastEnd_of_before (by exact hcoast)
      rw [hgoes, hv] at hfans houtputs
      refine ⟨hfans, fun z => ?_⟩
      rw [houtputs, State.fanSettingsWritten, zones_get_map, ZoneOutputs.safeAt]
      split <;> exact ⟨rfl, rfl, rfl⟩
    · have hrestarted : t.fans = s.fans.restarted := by
        rw [hfans, hv]
        exact State.takeCoastEnd_starts hs hover hlive
      rw [hrestarted]
      exact ⟨rfl, s.fans.direction.flip_ne, rfl⟩
  · intro written
    have hwritten : written = s.fanSettingsWritten window.toNat coast heat.toNat spray.toNat position := rfl
    have hsound : written.ValvesSound := hwritten ▸ hv.fanSettingsWritten
    have hagrees : written.ForcingAgrees := hwritten ▸ hforcing.fanSettingsWritten
    obtain ⟨t, ht, heq⟩ := hserved hall
    refine ⟨fun h0 hn => ?_, fun h1 _ => ?_⟩
    · obtain ⟨hruns, hframe⟩ := State.expireConfirm_fansRun (s := written) hs hagrees h0 hn
      have hdue : written.expireConfirm.due = .none := by rw [hframe]; exact h.1.due_none
      rw [State.writeFanConfig_of_expiry hforcing hvents hs hover (by exact hruns.state_ne_coasting),
        State.finishEvent_of_due_none _ (by exact hdue)] at heq
      exact ⟨t, _, ht, heq, hruns, hframe⟩
    · have hhalts := State.expireConfirm_halts (s := written) hs ha hlive hlatch h1 hsound hi h.1.due_none
      rw [State.writeFanConfig_of_expiry hforcing hvents hs hover
        (by exact fun hcoasts => by obtain hx | hx := hhalts <;> exact absurd (hx.symm.trans hcoasts) (by simp))] at heq
      exact ⟨t, _, ht, heq, State.expireConfirm_trips (s := written) hs ha hlive hlatch h1 hsound hi h.1.due_none⟩
  · exact servedUnchanged_of_handled h rfl (by simp) rfl (handleFanConfig_badLength s h0 h7)

end Sys2Proof.Machine
end

section
/-! SUPPORT. The DIRECTION output (R134): the fans keep it while they are started, and when the run stops them (R135 to R140,
R86, R95, R96, R145 to R151). -/

namespace Sys2Proof.Machine

/-! ### Fans that are under way -/

/-- R134, R139: the fans have been started, with DIRECTION at `d`, and a coast has only begun. -/
def Fans.Started (f : Fans) (d : Direction) : Prop :=
  f.direction = d ∧ f.state ≠ .stopped ∧ (f.state = .coasting → f.coastTimer = 0)

/-- R134, R135: DIRECTION is at `d`, of fans that have been started or that the run, no longer going, has stopped. -/
def State.Underway (s : State) (d : Direction) : Prop :=
  s.fans.Started d ∨ s.fans.direction = d ∧ s.fans.state = .stopped ∧ s.run.state.going = false

section
variable {s t : State} {d : Direction}

theorem State.Underway.direction (h : s.Underway d) : s.fans.direction = d := by
  obtain h | h := h <;> exact h.1

/-- R135: STOPPED fans that are under way have no run that goes. -/
theorem State.Underway.going (h : s.Underway d) (hs : s.fans.state = .stopped) : s.run.state.going = false := by
  obtain ⟨-, hne, -⟩ | ⟨-, -, hg⟩ := h
  · exact absurd hs hne
  · exact hg

theorem State.Underway.coast (h : s.Underway d) (hs : s.fans.state = .coasting) : s.fans.coastTimer = 0 := by
  obtain ⟨-, -, hzero⟩ | ⟨-, hstopped, -⟩ := h
  · exact hzero hs
  · exact absurd (hstopped.symm.trans hs) (by simp)

/-- The fans as they were, and a run that goes only where the one before did. -/
theorem State.Underway.congr (h : s.Underway d) (hf : t.fans = s.fans)
    (hg : t.run.state.going = true → s.run.state.going = true) : t.Underway d := by
  unfold State.Underway
  rw [hf]
  exact h.imp_right fun ⟨hd, hs, hover⟩ => ⟨hd, hs, Bool.eq_false_iff.2 fun h' => Bool.eq_false_iff.1 hover (hg h')⟩

theorem State.Underway.of_same (h : s.Underway d) (hf : t.fans = s.fans) (hr : t.run.state = s.run.state) :
    t.Underway d :=
  h.congr hf fun hg => hr ▸ hg

end

/-! ### The states that the fans enter (R135 to R140) -/

section
variable {s : State} {d : Direction} (h : s.fans.direction = d)
include h

theorem State.fansEnterCoasting_started : s.fansEnterCoasting.fans.Started d :=
  ⟨h, by simp [State.fansEnterCoasting], fun _ => rfl⟩

theorem State.fansEnterFailed_started : s.fansEnterFailed.fans.Started d := by
  rw [State.fansEnterFailed_fans]
  exact ⟨h, by simp, by simp⟩

theorem State.fansEnterRunning_started : s.fansEnterRunning.fans.Started d := by
  rw [State.fansEnterRunning_eq, State.checkReversal]
  split
  · exact State.fansEnterCoasting_started h
  · exact ⟨h, by cases hd : s.fans.direction <;> simp [Fans.running, Direction.runningState, hd],
      by cases hd : s.fans.direction <;> simp [Fans.running, Direction.runningState, hd]⟩

theorem State.confirmStart_started : s.confirmStart.fans.Started d :=
  State.fansEnterRunning_started (s := { s with fans := _ }) h

theorem State.fansEnterStarting_started : s.fansEnterStarting.fans.Started d := by
  simp only [State.fansEnterStarting]
  split
  · exact State.confirmStart_started h
  · exact ⟨h, by simp, by simp⟩

/-- R135: STOPPED, of a run that does not go. -/
theorem State.fansEnterStopped_underway (hg : s.run.state.going = false) : s.fansEnterStopped.Underway d :=
  .inr ⟨h, rfl, hg⟩

end

/-! ### The fans' own operations -/

section
variable (s : State) {d : Direction} (h : s.Underway d)
include h

theorem State.checkReversal_underway : s.checkReversal.Underway d := by
  unfold State.checkReversal
  split
  · exact .inl (State.fansEnterCoasting_started h.direction)
  · exact h

/-- R135: fans that are under way follow the run without a start. -/
theorem State.fansFollowRun_underway : s.fansFollowRun.Underway d := by
  unfold State.fansFollowRun
  split
  · rename_i hg
    rw [if_neg fun hstart => by simp [h.going (by simpa using (Bool.and_eq_true_iff.1 hstart).2)] at hg]
    exact h
  · exact State.fansEnterStopped_underway h.direction (Bool.eq_false_iff.2 ‹_›)

theorem State.fansOnLatchSet_underway : s.fansOnLatchSet.Underway d := by
  unfold State.fansOnLatchSet
  cases s.fans.state with
  | starting | runningFwd | runningRev => exact .inl (State.fansEnterFailed_started h.direction)
  | stopped | coasting | failed => exact h

theorem State.fansOnLatchClear_underway : s.fansOnLatchClear.Underway d := by
  unfold State.fansOnLatchClear
  split
  · split
    · exact .inl (State.fansEnterStarting_started h.direction)
    · exact State.fansEnterStopped_underway h.direction (Bool.eq_false_iff.2 ‹_›)
  all_goals exact h

theorem State.fansOnInput_underway : s.fansOnInput.Underway d := by
  unfold State.fansOnInput
  split
  · split
    · exact .inl (State.confirmStart_started h.direction)
    all_goals exact h
  · exact h

theorem State.handFans_underway (x : StepRecord) : (s.handFans x).Underway d := State.checkReversal_underway _ h

/-- R139: a coast that has only begun does not end. -/
theorem State.takeCoastEnd_underway (hc : 1 ≤ s.settings.coastTime) : s.takeCoastEnd.Underway d := by
  refine State.takeCoastEnd_of_before ?_ ▸ h
  by_cases hs : s.fans.state = .coasting
  · exact .inr (by rw [h.coast hs]; exact hc)
  · exact .inl hs

/-! ### Hold reasons and latches (R97, R98, R101, R140, R145 to R151) -/

theorem State.judgeReason_underway (r : HoldReason) (present : Bool) : (s.judgeReason r present).Underway d :=
  h.congr (by simp) fun hg => by rwa [(s.judgeReason_state r present).1] at hg

theorem State.runEntersSafe_underway (i : Input) : (s.runEntersSafe i).Underway d :=
  h.congr (by simp) fun hg => by simp [State.runEntersSafe_going] at hg

theorem State.runOnLatchSignal_underway (i : Input) : (s.runOnLatchSignal i).Underway d := by
  unfold State.runOnLatchSignal
  refine State.judgeReason_underway _ ?_ _ _
  split
  · rw [State.enterSafe_eq]
    exact State.fansEnterStopped_underway (s.runEntersSafe_underway h i).direction rfl
  · exact h

theorem State.safeThenFanLatch_underway : s.safeThenFanLatch.Underway d :=
  State.judgeReason_underway _ (State.fansFollowRun_underway _
    (State.fansOnLatchSet_underway _ (s.runEntersSafe_underway h _))) _ _

theorem State.signalLatchSet_underway (i : Input) : (s.signalLatchSet i).Underway d := by
  have hdrawn : s.drawn.Underway d := h
  unfold State.signalLatchSet
  split
  · split
    · exact State.runOnLatchSignal_underway _ (s.drawn.fansOnLatchSet_underway hdrawn) i
    · split
      · exact s.drawn.safeThenFanLatch_underway hdrawn
      · exact State.fansOnLatchSet_underway _ (s.drawn.runOnLatchSignal_underway hdrawn i)
    · exact State.fansOnLatchSet_underway _ (s.drawn.runOnLatchSignal_underway hdrawn i)
  · exact s.runOnLatchSignal_underway h i

theorem State.trip_underway (i : Input) : (s.trip i).Underway d := by
  simp only [State.trip]
  split
  · exact h
  · exact State.signalLatchSet_underway _ (by exact h) i

theorem State.judgeTrip_underway (i : Input) (conformed wasJudged : Bool) :
    (s.judgeTrip i conformed wasJudged).Underway d := by
  unfold State.judgeTrip
  split
  · exact s.trip_underway h i
  · exact h

theorem State.changeLive_underway (i : Input) (closed : Bool) : (s.changeLive i closed).Underway d := by
  have hjudged := State.judgeTrip_underway (s.setInput i { s.input i with live := closed }) h i (s.conforms i) (s.judged i)
  simp only [State.changeLive]
  split
  · exact h
  · split
    · exact State.fansOnInput_underway _ hjudged
    · exact hjudged

theorem State.configureInput_underway (i : Input) (x : InputSettings) : (s.configureInput i x).Underway d := by
  have hjudged := State.judgeTrip_underway
    { s with settings := { s.settings with interlocks := s.settings.interlocks.set i x } } h i (s.conforms i) (s.judged i)
  simp only [State.configureInput]
  split
  · exact State.runOnLatchSignal_underway _ hjudged i
  · exact hjudged

theorem State.clearLatch_underway (i : Input) : (s.clearLatch i).Underway d := by
  have hsignalled := State.runOnLatchSignal_underway (s.setInput i { s.input i with latch := false, trippedAt := none }) h i
  simp only [State.clearLatch, State.signalLatchClear]
  split
  · exact State.fansOnLatchClear_underway _ hsignalled
  · exact hsignalled

/-- R137: the window's expiry finds the fans STARTING. -/
theorem State.takeConfirmExpiry_underway : s.takeConfirmExpiry.Underway d := by
  unfold State.takeConfirmExpiry
  split
  · simp only [State.expireConfirm]
    split
    · exact .inl (State.fansEnterRunning_started h.direction)
    · exact State.judgeTrip_underway _ (by exact h) _ _ _
  · exact h

/-! ### Steps (R86, R95, R96, R76) -/

omit h in
theorem State.latchSpread_state (x : StepRecord) : (s.latchSpread x).run.state = s.run.state := by
  unfold State.latchSpread
  split <;> rfl

theorem State.enterStepFrom_underway (i : Nat) (origin : StepRecord → ZoneId → Int) :
    (s.enterStepFrom i origin).Underway d := by
  cases hx : s.schedule.activeSteps[i]? with
  | none => simpa only [State.enterStepFrom, hx] using h
  | some x =>
    have hhanded : (((({ s with run := s.run.entering i } : State).zonesTakeStep x (origin x)).handFans x)).Underway d :=
      State.handFans_underway _ (by exact h) x
    simp only [State.enterStepFrom, hx]
    refine hhanded.of_same (by simp) ?_
    simp only [State.wantCheckpoint_frame, State.queueNotice_frame, State.latchSpread_state]

theorem State.endRun_underway {final : RunState} (hf : final.going = false) : (s.endRun final).Underway d :=
  State.fansFollowRun_underway _ (h.congr (by simp) fun hg => absurd hg (by simp [hf]))

theorem State.completeRun_underway : s.completeRun.Underway d :=
  State.endRun_underway { s with run := { s.run with completion := some s.completionNow } } h rfl

theorem State.stepEnd_underway : s.stepEnd.Underway d := by
  simp only [State.stepEnd]
  split
  · exact State.enterStepFrom_underway _ (by exact h) _ _
  · split
    · exact s.completeRun_underway h
    · exact s.enterStepFrom_underway h _ _

theorem State.abortRun_underway : s.abortRun.Underway d :=
  State.endRun_underway { s with schedule := { s.schedule with adoption := none } } h rfl

theorem State.adopt_underway (atStepEnd : Bool) (target : Nat) (restart : Bool) :
    (s.adopt atStepEnd target restart).Underway d := by
  have hindex : ({ s with schedule := s.schedule.exchange, run := { s.run with stepIndex := some target } } :
      State).Underway d := h
  unfold State.adopt
  split
  · exact h
  · split
    · simp only [State.adoptNow]
      split
      · exact hindex
      · refine State.handFans_underway _ ?_ _
        split <;> exact hindex
    · exact h

end

end Sys2Proof.Machine
end

section
/-! SUPPORT. The advance tests, the publications and scans, the clocks and the due work keep the fans under way (R87 to R93,
R9 to R13, R109, log 2). -/

namespace Sys2Proof.Machine

section
variable (s : State) {d : Direction} (h : s.Underway d)
include h

/-! ### Advance tests (R88 to R93) -/

theorem State.testAtPublication_underway (f : Option McFigures) : (s.testAtPublication f).Underway d := by
  have hmet : ({ s with run := { s.run with mcMet := true } } : State).Underway d := h
  simp only [State.testAtPublication]
  split
  · exact h
  · split
    case h_1 | h_2 =>
      split
      · exact s.stepEnd_underway h
      · exact h
    case h_3 =>
      split <;> split
      · exact State.stepEnd_underway _ hmet
      · exact hmet
      · exact s.stepEnd_underway h
      · exact h
    all_goals exact h

theorem State.testAtSet_underway : s.testAtSet.Underway d := by
  unfold State.testAtSet
  split
  · exact h
  · split
    · unfold State.judgeSettle
      (repeat' split) <;> exact h
    · split
      · exact s.stepEnd_underway h
      · exact h
    all_goals exact h

theorem State.takeHours_underway : s.takeHours.Underway d := by
  have hover : s.judgementsOver.Underway d := h
  unfold State.takeHours
  split
  · split
    · exact State.stepEnd_underway _ hover
    · exact h
  · exact h

theorem State.takeSettle_underway : s.takeSettle.Underway d := by
  have hover : s.judgementsOver.Underway d := h
  unfold State.takeSettle
  split
  · split
    · exact State.stepEnd_underway _ hover
    · exact h
  · exact h

theorem State.addReason_underway (r : HoldReason) : (s.addReason r).Underway d := by
  refine h.congr (by simp) fun hg => ?_
  obtain ⟨-, heq⟩ | ⟨-, -, hstate⟩ := s.addReason_cases r
  · rwa [heq] at hg
  · rw [hstate] at hg
    split at hg
    · rename_i hs; rw [hs]; rfl
    · exact hg

theorem State.timeOut_underway (x : StepRecord) : (s.timeOut x).Underway d := by
  unfold State.timeOut
  split
  · exact State.stepEnd_underway _ (by exact h)
  · exact s.addReason_underway h _
  · exact h

theorem State.takeTimeout_underway : s.takeTimeout.Underway d := by
  have hbefore := s.takeHours.takeSettle_underway (s.takeHours_underway h)
  simp only [State.takeTimeout]
  split
  · split
    · exact State.timeOut_underway _ (by exact hbefore) _
    · exact hbefore
  · exact hbefore

/-! ### Publications and scans (R9 to R13, R56) -/

theorem State.publish_underway (n : Nat) : (s.publish n).Underway d := by
  have hkept : ((s.noticeQuorum (s.publicationNow n)).keepPublication (s.publicationNow n)).Underway d :=
    h.of_same (by simp) (by simp)
  exact State.testAtPublication_underway _ (State.judgeReason_underway _ hkept _ _) _

theorem State.publishScan_underway : s.publishScan.Underway d := State.publish_underway _ (by exact h) _

theorem State.startScan_underway : s.startScan.Underway d := by
  cases hn : s.nextProbe 0 with
  | some p => rw [s.startScan_of_next hn]; exact h
  | none =>
    rw [s.startScan_of_none hn]
    exact State.publishScan_underway _ (by exact h)

theorem State.completeScan_underway : s.completeScan.Underway d := by
  have hpublished := s.publishScan_underway h
  cases hd : s.scanner.startDue with
  | true => rw [s.completeScan_of_due hd]; exact State.startScan_underway _ hpublished
  | false => rw [s.completeScan_of_not_due hd]; exact hpublished

theorem State.advanceScan_underway (after : Fin 48) : (s.advanceScan after).Underway d := by
  cases hn : s.nextProbe (probeNumber after) with
  | some p => rw [State.advanceScan_of_next hn]; exact h
  | none => rw [State.advanceScan_of_none hn]; exact s.completeScan_underway h

theorem State.discardFor_underway (p : Fin 48) : (s.discardFor p).Underway d := by
  unfold State.discardFor
  split
  · exact s.advanceScan_underway h p
  · exact h

theorem State.replaceRecord_underway (p : Fin 48) (r : ProbeRecord) : (s.replaceRecord p r).Underway d :=
  State.discardFor_underway (s.setProbe p r) h p

theorem State.resetProbes_underway : s.resetProbes.Underway d := by
  simp only [State.resetProbes, State.discardAny]
  split
  · exact State.advanceScan_underway _ (by exact h) _
  · exact h

theorem State.countEnds_underway (n : Nat) : (s.countEnds n).Underway d := by
  have hends (m : Measurement) (outcome : Outcome) (nPlus : Nat) (nMinus : Option Nat) :
      (s.endMeasurement m outcome nPlus nMinus).Underway d :=
    State.advanceScan_underway _ (h.of_same (by simp) (by simp)) _
  unfold State.countEnds
  split
  · split
    · unfold State.positiveCount
      split
      · exact hends _ _ _ _
      all_goals exact h
    · exact hends _ _ _ _
    · exact h
  · exact h

theorem State.takeScanExpiry_underway : s.takeScanExpiry.Underway d := by
  unfold State.takeScanExpiry
  split
  · split
    · exact s.startScan_underway h
    all_goals exact h
  · exact h

theorem State.scanEnabled_underway : s.scanEnabled.Underway d := by
  unfold State.scanEnabled
  split
  · exact s.startScan_underway h
  all_goals exact h

theorem State.writeScanConfig_underway (interval : Nat) (enable : Bool) (tolerance : Nat) :
    (s.writeScanConfig interval enable tolerance).Underway d := by
  have hset : (s.withScan interval enable tolerance).Underway d := h
  have hchanged (t : State) (ht : t.Underway d) : t.intervalChanged.Underway d := by
    unfold State.intervalChanged
    split
    · split
      · exact t.startScan_underway ht
      · exact ht
    · split <;> exact ht
    · exact ht
  have hdisabled : (s.withScan interval false tolerance).scanDisabled.Underway d := h.of_same (by simp; rfl) (by simp; rfl)
  simp only [State.writeScanConfig]
  split
  · split
    · exact State.scanEnabled_underway _ hset
    · exact hdisabled
    all_goals exact hset
  · refine hchanged _ ?_
    split
    · exact State.scanEnabled_underway _ hset
    · exact hdisabled
    all_goals exact hset

/-! ### Sample sets (R109) -/

theorem State.takeSet_underway (x : Zones ZoneSamples) : (s.takeSet x).Underway d := by
  have hsampled :
      ((({ s with sampler := s.sampler.takeMark } : State).sampleChannels x).zonesTakeSet.refreshOutputs).Underway d :=
    h.of_same (by simp) (by simp)
  exact State.testAtSet_underway _ (State.judgeReason_underway _ hsampled _ _)

/-! ### Work that is due (log 2) -/

theorem State.takeMinuteWork_underway : s.takeMinuteWork.Underway d :=
  (s.takeTimeout_underway h).of_same (by simp [State.takeMinuteWork]) (by simp [State.takeMinuteWork])

/-- The coast time is as it was, so a coast that has only begun goes on. -/
theorem State.takeDue_underway (hc : 1 ≤ s.settings.coastTime) (hr : s.restartIsDue = false) : s.takeDue.Underway d := by
  have hminute := s.takeMinuteWork_underway h
  have hcoast := State.takeCoastEnd_underway _ hminute (by simpa [State.takeMinuteWork] using hc)
  have hexpiries := State.takeScanExpiry_underway _ (State.takeConfirmExpiry_underway _ hcoast)
  have hends :
      (((((s.takeMinuteWork.takeCoastEnd).takeConfirmExpiry).takeScanExpiry).checkReversal).finishEvent).Underway d :=
    (State.checkReversal_underway _ hexpiries).of_same (by simp) (by simp)
  unfold State.takeDue State.takeRestart
  rw [if_neg (by simpa [State.restartIsDue, State.takeMinuteWork] using hr)]
  exact hends

end

end Sys2Proof.Machine
end

section
/-! SUPPORT. READY and the requests of the host keep started fans under way (R135, R148, R165). -/

namespace Sys2Proof.Machine

section
variable (s : State) {d : Direction} (h : s.fans.Started d)
include h

theorem State.handFans_started (x : StepRecord) : (s.handFans x).fans.Started d := by
  obtain hstarted | ⟨-, hstopped, -⟩ := s.handFans_underway (.inl h) x
  · exact hstarted
  · exact absurd ((s.handFans_stopped_iff x).1 hstopped) h.2.1

/-! ### READY (R133, R135, R148, R174) -/

theorem State.applyRun_started (x : RunLoad) : (s.applyRun x).fans.Started d := by
  cases x with
  | idle | lost => exact h
  | restored b =>
    simp only [State.applyRun, State.restoreRun]
    split
    · exact h
    · exact State.handFans_started _ (by exact h) _

theorem State.reachReady_underway : s.reachReady.Underway d :=
  State.reachReady_keeps (P := (State.Underway · d)) s (fun _ => .inl h) fun t a ht => by
    cases a with
    | scanStart => exact t.startScan_underway ht
    | trip i => exact t.trip_underway ht i
    | fanStart => exact t.fansFollowRun_underway ht

theorem State.endLoad_underway (settingsReads checkpointReads : Bool) :
    (s.endLoad settingsReads checkpointReads).Underway d := by
  have happlied (x : SettingsLoad) : (s.applySettings x).fans.Started d := by simpa using h
  exact State.reachReady_underway _ (State.applyRun_started _ (happlied _) _)

/-! ### The run's requests (R84, R85, R102): started fans do not start again -/

theorem State.startRun_underway {i : Nat} (hi : i < s.schedule.activeSteps.length) : (s.startRun i).Underway d := by
  have hx := List.getElem?_eq_getElem hi
  rw [State.startRun_eq]
  refine State.fansFollowRun_underway _ (.inl ?_)
  rw [State.startJudged_fans hx]
  exact s.handFans_started h _

theorem State.restartRun_underway : s.restartRun.Underway d := State.fansFollowRun_underway _ (.inl h)

/-- R141: the coast time of an accepted write does not end a coast that has only begun. -/
theorem State.writeFanConfig_underway (window heat spray position : Nat) {coast : Nat} (hc : 30 ≤ coast) :
    (s.writeFanConfig window coast heat spray position).Underway d := by
  refine State.takeCoastEnd_underway _ (State.takeConfirmExpiry_underway _ (.inl h)) ?_
  simpa using Nat.le_trans (by decide) hc

end

/-! ### The requests of the catalogue (R165) -/

/-- The requests that only read. -/
def readRequests : List (List Byte → State → State × Reply) :=
  [handleIdentify, handleStatus, handleProbeGet, handleStatsGet, handleCurveGet, handleSchedGetStep, handleRunGet,
    handleZoneGet, handleInterlockGet, handleHistoryLatest]

/-- The other requests whose handlers leave the fans alone. -/
def quietRequests : List (List Byte → State → State × Reply) :=
  [handleProbeUnblock, handleProbeConfig, handleCurvePut, handleCurveClear, handleSchedClear, handleSchedPutStep,
    handleSchedTruncate, handleSchedCopyActive, handleSchedAdoptCancel, handleRunHold, handleRunResume, handleZoneConfig,
    handleLoopMode, handleHistoryRead, handleNoticeFetch, handleSettingsSave, handleRestartPart]

theorem quietRequests_fans (payload : List Byte) (s : State) {f : List Byte → State → State × Reply}
    (hf : f ∈ quietRequests) : (f payload s).1.fans = s.fans := by
  unfold quietRequests at hf
  fin_cases hf
  all_goals
    simp only [handleProbeUnblock, onProbe, withProbe, handleProbeConfig, handleCurvePut, handleCurveClear, withGroup,
      handleSchedClear, handleSchedPutStep, handleSchedTruncate, handleSchedCopyActive, handleSchedAdoptCancel,
      State.edit, handleRunHold, handleRunResume, handleZoneConfig, handleLoopMode, handleHistoryRead, handleNoticeFetch,
      handleSettingsSave, handleRestartPart, probeReply, scheduleReply, runReply, zoneReply]
    (repeat' split) <;> simp [State.switchHeat, State.switchHumidity]

theorem handled_fans (payload : List Byte) (s : State) {f : List Byte → State → State × Reply}
    (hf : f ∈ readRequests ++ quietRequests) : (f payload s).1.fans = s.fans := by
  obtain hf | hf := List.mem_append.1 hf
  · exact RequestsKeep.readOnly (P := fun t => t.fans = s.fans) payload s rfl hf
  · exact quietRequests_fans payload s hf

section
variable (payload : List Byte) (s : State) {d : Direction} (h : s.Underway d)
include h

theorem handleProbeSet_underway : (handleProbeSet payload s).1.Underway d := by
  unfold handleProbeSet
  split
  · split
    · exact h
    · split
      · exact s.replaceRecord_underway h _ _
      · split
        · exact h
        · exact h
        · exact h
        · exact s.replaceRecord_underway h _ _
  · exact h

theorem handleProbeBlock_underway : (handleProbeBlock payload s).1.Underway d := by
  refine RequestsKeep.withProbe (P := (State.Underway · d)) _ _ _ _ h fun p => ?_
  cases (s.probe p).state with
  | unassigned | blocked => exact h
  | new | good | suspect | faulted => exact s.replaceRecord_underway h _ _

theorem handleProbeReadmit_underway : (handleProbeReadmit payload s).1.Underway d := by
  refine RequestsKeep.withProbe (P := (State.Underway · d)) _ _ _ _ h fun p => ?_
  cases (s.probe p).state with
  | faulted => exact s.replaceRecord_underway h _ _
  | unassigned | new | good | suspect | blocked => exact h

theorem handleScanConfig_underway : (handleScanConfig payload s).1.Underway d := by
  unfold handleScanConfig
  split
  · exact h
  · split
    · exact h
    · exact s.writeScanConfig_underway h _ _ _
  · exact h

theorem handleScanNow_underway : (handleScanNow payload s).1.Underway d := by
  unfold handleScanNow
  split
  · cases s.scanner.state with
    | scanning => exact h
    | off | waiting => exact s.startScan_underway h
  · exact h

theorem handleSchedAdopt_underway : (handleSchedAdopt payload s).1.Underway d := by
  unfold handleSchedAdopt
  split
  · split
    · exact h
    · split
      · exact h
      · split
        · exact h
        · split
          · exact h
          · split
            · exact h
            · exact s.adopt_underway h _ _ _
  · exact h

theorem handleRunAbort_underway : (handleRunAbort payload s).1.Underway d := by
  unfold handleRunAbort
  split
  · split
    · exact s.abortRun_underway h
    · exact h
  · exact h

theorem handleInterlockConfig_underway : (handleInterlockConfig payload s).1.Underway d := by
  unfold handleInterlockConfig
  split
  · split <;> exact h
  · split
    · exact h
    · split
      · exact h
      · exact s.configureInput_underway h _ _
  · exact h

theorem handleInterlockClear_underway : (handleInterlockClear payload s).1.Underway d := by
  unfold handleInterlockClear
  split
  · split
    · exact h
    · split
      · exact h
      · split
        · exact s.clearLatch_underway h _
        · exact h
  · exact h

theorem handleResetBlock_underway : (handleResetBlock payload s).1.Underway d := by
  have hzone (z : ZoneId) : (s.resetZone z).Underway d := h.of_same (by simp) (by simp)
  unfold handleResetBlock
  split
  · split
    · exact h
    · exact s.resetProbes_underway h
    · exact hzone _
    all_goals exact h
  · exact h

end

section
variable (payload : List Byte) (s : State) {d : Direction} (h : s.fans.Started d)
include h

theorem handleRunStart_underway : (handleRunStart payload s).1.Underway d := by
  unfold handleRunStart
  split
  · split
    · exact .inl h
    · split
      · exact .inl h
      · split
        · exact .inl h
        · rename_i hindex
          split
          · exact .inl h
          · split
            · exact .inl h
            · exact s.startRun_underway h (by simpa using hindex)
  · exact .inl h

theorem handleRunRestart_underway : (handleRunRestart payload s).1.Underway d := by
  unfold handleRunRestart
  split
  · split
    · split
      · exact .inl h
      · exact s.restartRun_underway h
    · exact .inl h
  · exact .inl h

theorem handleFanConfig_underway : (handleFanConfig payload s).1.Underway d := by
  unfold handleFanConfig
  split
  · exact .inl h
  · dsimp only
    split
    · exact .inl h
    · rename_i hok
      rw [firstBad_eq_none_iff] at hok
      simp only [List.forall_mem_cons, inRange_iff] at hok
      obtain ⟨-, hcoast, -⟩ := hok
      exact s.writeFanConfig_underway h _ _ _ _ hcoast.1
  · exact .inl h

/-- R134, R165: a request that meets started fans keeps DIRECTION: it starts none, and ends no coast. -/
theorem handled_underway {kind : Nat} {f : List Byte → State → State × Reply} (hf : handlerOf kind = some f) :
    (f payload s).1.Underway d := by
  have hleaves (hf : f ∈ readRequests ++ quietRequests) : (f payload s).1.Underway d :=
    .inl (by rw [handled_fans payload s hf]; exact h)
  simp only [readRequests, quietRequests] at hleaves
  unfold handlerOf at hf
  split at hf <;> cases hf
  · exact hleaves (by simp)
  · exact hleaves (by simp)
  · exact handleProbeSet_underway payload s (.inl h)
  · exact hleaves (by simp)
  · exact handleProbeBlock_underway payload s (.inl h)
  · exact hleaves (by simp)
  · exact handleProbeReadmit_underway payload s (.inl h)
  · exact hleaves (by simp)
  · exact hleaves (by simp)
  · exact handleScanConfig_underway payload s (.inl h)
  · exact handleScanNow_underway payload s (.inl h)
  · exact hleaves (by simp)
  · exact hleaves (by simp)
  · exact hleaves (by simp)
  · exact hleaves (by simp)
  · exact hleaves (by simp)
  · exact hleaves (by simp)
  · exact hleaves (by simp)
  · exact hleaves (by simp)
  · exact handleSchedAdopt_underway payload s (.inl h)
  · exact hleaves (by simp)
  · exact handleRunStart_underway payload s h
  · exact hleaves (by simp)
  · exact hleaves (by simp)
  · exact handleRunRestart_underway payload s h
  · exact handleRunAbort_underway payload s (.inl h)
  · exact hleaves (by simp)
  · exact hleaves (by simp)
  · exact hleaves (by simp)
  · exact hleaves (by simp)
  · exact handleFanConfig_underway payload s h
  · exact handleInterlockConfig_underway payload s (.inl h)
  · exact hleaves (by simp)
  · exact handleInterlockClear_underway payload s (.inl h)
  · exact hleaves (by simp)
  · exact hleaves (by simp)
  · exact hleaves (by simp)
  · exact hleaves (by simp)
  · exact handleResetBlock_underway payload s (.inl h)
  · exact hleaves (by simp)

/-- R165: a dispatched frame: handled, refused before READY, or unknown. -/
theorem State.dispatch_underway (kind : Byte) : (s.dispatch kind payload).1.Underway d := by
  unfold State.dispatch
  split
  · exact .inl h
  · split
    · exact handled_underway payload s h ‹_›
    · exact .inl h

end

/-! ### The receiver (R163 to R165): at most one frame is accepted in an event -/

/-- The line has not brought a request yet and the fans are started, or it has, and the part is ANSWERING. -/
def State.OneRequest (s : State) (d : Direction) : Prop :=
  s.fans.Started d ∨ s.fans.direction = d ∧ s.link.receiver = .answering

section
variable (s : State) {d : Direction}

theorem State.OneRequest.direction {s : State} (h : s.OneRequest d) : s.fans.direction = d := by
  obtain h | h := h <;> exact h.1

theorem State.accept_oneRequest (h : s.fans.Started d) (kind tag : Byte) (payload : List Byte) :
    (s.accept kind tag payload).OneRequest d :=
  .inr ⟨(State.dispatch_underway payload s h kind).direction, rfl⟩

theorem State.judgeFrame_oneRequest (h : s.fans.Started d) (address length : Byte) (bytes : List Byte) (high low : Byte) :
    (s.judgeFrame address length bytes high low).OneRequest d := by
  unfold State.judgeFrame
  split
  · split
    · exact s.accept_oneRequest h _ _ _
    · exact .inl h
  · exact .inl h

theorem State.receiveByte_oneRequest (h : s.OneRequest d) (b : Byte) : (s.receiveByte b).OneRequest d := by
  obtain h | ⟨hd, ha⟩ := h
  · unfold State.receiveByte
    split
    · split <;> exact .inl h
    case h_6 => exact s.judgeFrame_oneRequest h _ _ _ _ _
    all_goals exact .inl h
  · have hdeaf : s.receiveByte b = s := by simp [State.receiveByte, ha]
    rw [hdeaf]
    exact .inr ⟨hd, ha⟩

theorem State.request_oneRequest (h : s.fans.Started d) (kind tag : Byte) (payload : List Byte) :
    (s.request kind tag payload).OneRequest d := by
  unfold State.request
  split
  · exact s.accept_oneRequest h _ _ _
  · exact .inl h
  all_goals
    exact List.foldlRecOn (motive := (State.OneRequest · d)) _ _ (.inl h) fun t ht b _ => t.receiveByte_oneRequest ht b

end

end Sys2Proof.Machine
end

section
/-! DirectionChangesOnlyWithRunOff (O60): fans that a command finds started keep DIRECTION, unless the work still due of
events already taken has stopped them first. -/

namespace Sys2Proof.Machine

section
variable {s : State} {d : Direction}

/-! ### One event (log 2) -/

/-- The event of a command, after what is due. -/
theorem State.event_direction (h : s.fans.Started d) (hc : 1 ≤ s.settings.coastTime) (hr : s.restartIsDue = false)
    {f : State → State} (hf : ∀ u : State, u.fans.Started d → (f u).fans.direction = d) :
    (s.event f).fans.direction = d ∨ s.takeDue.fans.state = .stopped := by
  unfold State.event
  split
  · obtain hstarted | ⟨-, hstopped, -⟩ := s.takeDue_underway (.inl h) hc hr
    · exact .inl (by simpa using hf _ hstarted)
    · exact .inr hstopped
  · exact .inl h.1

/-- The same, of an effect that keeps the fans under way. -/
theorem State.event_direction_of_underway (h : s.fans.Started d) (hc : 1 ≤ s.settings.coastTime)
    (hr : s.restartIsDue = false) {f : State → State} (hf : ∀ u : State, u.fans.Started d → (f u).Underway d) :
    (s.event f).fans.direction = d ∨ s.takeDue.fans.state = .stopped :=
  State.event_direction h hc hr fun u hu => (hf u hu).direction

/-- The same, of an effect that leaves the fans alone. -/
theorem State.event_direction_of_fans (h : s.fans.Started d) (hc : 1 ≤ s.settings.coastTime)
    (hr : s.restartIsDue = false) {f : State → State} (hf : ∀ u : State, (f u).fans = u.fans) :
    (s.event f).fans.direction = d ∨ s.takeDue.fans.state = .stopped :=
  State.event_direction h hc hr fun u hu => by rw [hf]; exact hu.1

/-- The event of due work. -/
theorem State.dueEvent_direction (h : s.fans.Started d) {f : State → State} (hf : (f s).Underway d) :
    (s.dueEvent f).fans.direction = d := by
  unfold State.dueEvent
  split
  · simpa using hf.direction
  · exact h.1

/-- With nothing due but a reversal, what is due stops no fans. -/
theorem State.takeDue_started (h : s.fans.Started d) (hc : 1 ≤ s.settings.coastTime) (hr : s.restartIsDue = false)
    (hd : s.due = .none) (hf : s.confirmIsOver = false) (hs : s.scanExpiryDue = false) :
    s.takeDue.fans.state ≠ .stopped := by
  have hcoast : s.takeCoastEnd = s := State.takeCoastEnd_of_before (by
    by_cases hx : s.fans.state = .coasting
    · exact .inr (by rw [h.2.2 hx]; exact hc)
    · exact .inl hx)
  have hconfirm : s.takeConfirmExpiry = s := by simp [State.takeConfirmExpiry, hf]
  have hscan : s.takeScanExpiry = s := by simp [State.takeScanExpiry, hs]
  have hrestart : s.checkReversal.finishEvent.takeRestart = s.checkReversal.finishEvent :=
    if_neg (by simpa [State.restartIsDue] using hr)
  rw [State.takeDue, s.takeMinuteWork_of_due_none hd, hcoast, hconfirm, hscan, hrestart]
  simp only [State.finishEvent_frame]
  unfold State.checkReversal
  split
  · simp [State.fansEnterCoasting]
  · exact h.2.1

theorem State.countSecond_direction (s : State) : s.countSecond.fans.direction = s.fans.direction := by
  have hseconds (f : Fans) : f.countSecond.direction = f.direction := by
    unfold Fans.countSecond; split <;> rfl
  have hminutes (f : Fans) : f.countMinute.direction = f.direction := by
    unfold Fans.countMinute; split <;> rfl
  simp only [State.countSecond]
  split
  · exact hseconds _
  · simp [State.countMinute, hseconds, hminutes]

/-! ### Every command -/

/-- R134: started fans keep DIRECTION through a command, unless what was due has stopped them first. -/
theorem exec_direction {c : Instr} {t : State} (h : s.fans.Started d) (hc : 1 ≤ s.settings.coastTime)
    (hr : s.restartIsDue = false) (hon : ∀ straps contacts, c ≠ .powerOn straps contacts)
    (hloss : ∀ tear, c ≠ .powerLoss tear) (ht : exec c s = .next t) :
    t.fans.direction = d ∨ s.takeDue.fans.state = .stopped := by
  have hguard (b : Bool) (f : State → State) (u : State) (hu : u.fans.Started d) (hf : (f u).Underway d) :
      (if b then f u else u).Underway d := by
    split
    · exact hf
    · exact .inl hu
  have hminute := s.takeMinuteWork_underway (.inl h)
  have hrequest (kind tag : Byte) (payload : List Byte) :
      (s.event fun u => u.request kind tag payload).fans.direction = d ∨ s.takeDue.fans.state = .stopped :=
    State.event_direction h hc hr fun u hu => (u.request_oneRequest hu kind tag payload).direction
  cases c <;> cases ht
  case powerOn straps contacts => exact absurd rfl (hon straps contacts)
  case powerLoss tear => exact absurd rfl (hloss tear)
  case loadEnd a b =>
    exact State.event_direction_of_underway h hc hr fun u hu =>
      hguard _ (fun u => u.endLoad a b) u hu (u.endLoad_underway hu a b)
  case secondEvent => exact State.event_direction h hc hr fun u hu => u.countSecond_direction.trans hu.1
  case minuteEvent =>
    refine State.event_direction h hc hr fun u hu => ?_
    split
    · exact u.countSecond_direction.trans hu.1
    · exact hu.1
  case sampleSet x =>
    exact State.event_direction_of_underway h hc hr fun u hu =>
      hguard _ (fun u => u.takeSet x) u hu (u.takeSet_underway (.inl hu) x)
  case thresholdCrossed n =>
    refine State.event_direction_of_underway h hc hr fun u hu => ?_
    split
    · exact u.countEnds_underway (.inl hu) n
    · exact .inl hu
  case counterFull => exact State.event_direction_of_underway h hc hr fun u hu => u.countEnds_underway (.inl hu) _
  case liveLevelChange i closed =>
    exact State.event_direction_of_underway h hc hr fun u hu => u.changeLive_underway (.inl hu) i closed
  case characterReceived b =>
    exact State.event_direction h hc hr fun u hu => (u.receiveByte_oneRequest (.inl hu) b).direction
  case unknownRequest kind tag payload =>
    refine State.event_direction h hc hr fun u hu => ?_
    split
    · exact (u.request_oneRequest hu _ _ _).direction
    · exact hu.1
  case scanTimerExpiry =>
    exact .inl (State.dueEvent_direction h (State.takeScanExpiry_underway _ hminute))
  case startConfirmExpiry =>
    exact .inl (State.dueEvent_direction h (State.takeConfirmExpiry_underway _ hminute))
  case partRestart =>
    refine .inl (State.dueEvent_direction h ?_)
    have hnone : s.takeMinuteWork.restartIsDue = false := by simpa [State.restartIsDue, State.takeMinuteWork] using hr
    simpa [State.takeRestart, hnone] using hminute
  case hoursTestPass =>
    exact .inl (State.dueEvent_direction h (hguard _ State.takeHours s h (s.takeHours_underway (.inl h))))
  case settleTimerPass =>
    exact .inl (State.dueEvent_direction h (hguard _ State.takeSettle s h (s.takeSettle_underway (.inl h))))
  case stepTimeout =>
    exact .inl (State.dueEvent_direction h (hguard _ State.takeTimeout s h (s.takeTimeout_underway (.inl h))))
  case runHourCheckpoint =>
    exact .inl (State.dueEvent_direction h (.inl (by simpa using h)))
  case reversalDue => exact .inl (State.dueEvent_direction h (s.checkReversal_underway (.inl h)))
  case coastEnd => exact .inl (State.dueEvent_direction h (s.takeCoastEnd_underway (.inl h) hc))
  case settleEnd => exact State.event_direction_of_fans h hc hr fun u => by simp
  case valveOnTimeReached z k => exact State.event_direction_of_fans h hc hr fun u => rfl
  case valveCycleEnd z k => exact State.event_direction_of_fans h hc hr fun u => rfl
  case checkpointWriteEnd r =>
    exact State.event_direction_of_fans h hc hr fun u => by unfold State.endCheckpointWrite; split <;> rfl
  case saveWriteEnd r =>
    exact State.event_direction_of_fans h hc hr fun u => by simp only [State.endSaveWrite]; (repeat' split) <;> rfl
  case gapTimeout =>
    exact State.event_direction_of_fans h hc hr fun u => by unfold State.gap; split <;> rfl
  case frameLengthInvalid b =>
    exact State.event_direction_of_fans h hc hr fun u => by unfold State.refuseLength; (repeat' split) <;> rfl
  case frameSkipped =>
    exact State.event_direction_of_fans h hc hr fun u => by unfold State.endSkip; split <;> rfl
  case frameCrcFail b =>
    exact State.event_direction_of_fans h hc hr fun u => by unfold State.refuseCrc; (repeat' split) <;> rfl
  case replyFirstCharacter =>
    exact State.event_direction_of_fans h hc hr fun u => by unfold State.startReply; split <;> rfl
  case replyEnd =>
    exact State.event_direction_of_fans h hc hr fun u => by unfold State.endReply; split <;> rfl
  all_goals exact hrequest _ _ _

end

/-- Settles O60: STOPPED and COASTING fans have RUN off; fans in any other state are started, and keep DIRECTION through
the command unless what was due has stopped them, which takes work due besides a reversal. -/
theorem directionChangesOnlyWithRunOff : Obligations.DirectionChangesOnlyWithRunOff := by
  unfold Obligations.DirectionChangesOnlyWithRunOff
  intro c s t hc hr hon hloss ht hne off
  by_cases hoff : s.fans.state = .stopped ∨ s.fans.state = .coasting
  · have hrun : off := ⟨by obtain h | h := hoff <;> rw [h] <;> rfl, hoff⟩
    exact ⟨.inl hrun, fun _ _ _ => hrun⟩
  · obtain ⟨hstopped, hcoasting⟩ := not_or.1 hoff
    have hstarted : s.fans.Started s.fans.direction := ⟨rfl, hstopped, fun h => absurd h hcoasting⟩
    have hdue : s.takeDue.fans.state = .stopped := (exec_direction hstarted hc hr hon hloss ht).resolve_left hne
    exact ⟨.inr ⟨hdue, (s.takeDue_underway (.inl hstarted) hc hr).direction⟩,
      fun hd hf hs => absurd hdue (State.takeDue_started hstarted hc hr hd hf hs)⟩

end Sys2Proof.Machine
end

section
/-! SUPPORT. What the Run Controller makes of a latch signal (R147, R98, R101), and what a trip records (R146). -/

namespace Sys2Proof.Machine

/-! ### Latches that stand as they did, but for one input -/

theorem inputs_set_get {α : Type} (x : Inputs α) (i : Input) : x.set i (x.get i) = x := by cases i <;> rfl

theorem inputs_set_set {α : Type} (x : Inputs α) (i : Input) (a b : α) : (x.set i a).set i b = x.set i b := by
  cases i <;> rfl

section
variable {s t : State} {i : Input}

/-- Every input but one has its latch and its level as before. -/
def State.SameBut (s t : State) (i : Input) : Prop :=
  ∀ j, j ≠ i → (t.input j).latch = (s.input j).latch ∧ t.inputLevel j = s.inputLevel j

theorem State.SameBut.refl (s : State) (i : Input) : s.SameBut s i := fun _ _ => ⟨rfl, rfl⟩

/-- The latches of a level: the one input's, and those of the others. -/
theorem State.SameBut.anyLatchOfLevel_iff (h : s.SameBut t i) (level : Nat) :
    t.anyLatchOfLevel level = true ↔
      (t.inputLevel i = level ∧ (t.input i).latch = true) ∨
        ∃ j, j ≠ i ∧ (s.input j).latch = true ∧ s.inputLevel j = level := by
  rw [State.anyLatchOfLevel_iff]
  constructor
  · rintro ⟨j, hlatch, hlevel⟩
    by_cases hj : j = i
    · subst hj; exact .inl ⟨hlevel, hlatch⟩
    · obtain ⟨hl, hv⟩ := h j hj
      exact .inr ⟨j, hj, hl ▸ hlatch, hv ▸ hlevel⟩
  · rintro (⟨hlevel, hlatch⟩ | ⟨j, hj, hlatch, hlevel⟩)
    · exact ⟨i, hlatch, hlevel⟩
    · obtain ⟨hl, hv⟩ := h j hj
      exact ⟨j, hl ▸ hlatch, hv ▸ hlevel⟩

/-- The latches of a level that the one input has neither before nor after. -/
theorem State.SameBut.anyLatchOfLevel (h : s.SameBut t i) {level : Nat}
    (ht : t.inputLevel i ≠ level ∨ (t.input i).latch = false) (hs : s.inputLevel i ≠ level ∨ (s.input i).latch = false) :
    t.anyLatchOfLevel level = s.anyLatchOfLevel level := by
  have hnot {u : State} (hu : u.inputLevel i ≠ level ∨ (u.input i).latch = false) :
      ¬ (u.inputLevel i = level ∧ (u.input i).latch = true) :=
    fun ⟨hlevel, hlatch⟩ => hu.elim (· hlevel) fun hclear => by simp [hclear] at hlatch
  rw [Bool.eq_iff_iff, h.anyLatchOfLevel_iff, (State.SameBut.refl s i).anyLatchOfLevel_iff]
  simp only [hnot ht, hnot hs, false_or]

end

/-- R106: an event in which a checkpoint is asked for exactly when the run has moved. -/
theorem State.finishEvent_of_moved {s v : State} (hd : s.due = .none) (hm : v.memory = s.memory)
    (hsame : v.run.state = s.run.state → v.due = s.due)
    (hchanged : v.run.state ≠ s.run.state → v.due = { s.due with checkpoint := true }) :
    v.finishEvent = { v with due := s.due, memory := v.finishEvent.memory } ∧
      (v.run.state = s.run.state → v.finishEvent.memory = s.memory) ∧
      (v.run.state ≠ s.run.state → AsksCheckpoint s v.finishEvent) := by
  obtain ⟨hblocks, hrun, hmemory, hasks⟩ := State.finishEvent_goesOn v.run hd hm hsame hchanged
  exact ⟨hblocks.trans (by rw [hrun]), hmemory, hasks⟩

/-! ### The Run Controller takes a latch signal (R98, R101, R147) -/

section
variable (s : State) (i : Input)

theorem State.runOnLatchSignal_of_calm (h : s.latchBringsSafe i = false) : s.runOnLatchSignal i = s.judgeInterlock := by
  simp [State.runOnLatchSignal, h]

theorem State.runOnLatchSignal_of_safe (h : s.latchBringsSafe i = true) :
    s.runOnLatchSignal i = (s.enterSafe i).judgeInterlock := by
  simp [State.runOnLatchSignal, h]

theorem State.enterSafe_run : (s.enterSafe i).run = { s.run with state := .safe, inBand := false } := by
  rw [State.enterSafe_eq]; rfl

theorem State.enterSafe_fans : (s.enterSafe i).fans = s.fans.stopped := by rw [State.enterSafe_eq]; rfl

theorem State.enterSafe_due : (s.enterSafe i).due = { s.due with checkpoint := true } := by rw [State.enterSafe_eq]; rfl

theorem State.enterSafe_notices : (s.enterSafe i).notices = noticesAfter s [(.runSafe, i.number, 0)] := by
  rw [State.enterSafe_eq]; rfl

/-- R101, R132: the vent of a driven zone is at its safe position. -/
theorem State.enterSafe_vent {z : ZoneId} (hr : s.ready = true) (hz : s.zoneActive z = true) :
    ((s.enterSafe i).outputs.get z).vent.condition = .safe ∧
      ((s.enterSafe i).outputs.get z).vent.current = 4000 + 16 * s.settings.ventSafePosition := by
  rw [State.enterSafe_eq, State.fansEnterStopped, State.refreshOutputs_vent,
    State.ventConditionFor_safe (by exact hr) (by exact hz) rfl]
  exact ⟨rfl, ventCurrent_eq _⟩

theorem State.ValvesSound.enterSafe {s : State} (h : s.ValvesSound) (i : Input) : (s.enterSafe i).AllValvesForced := by
  rw [State.enterSafe_eq]
  exact (State.ValvesSound.fansEnterStopped (s := s.runEntersSafe i) h).1

/-- The notice of the entry into SAFE. -/
def safeNotices (i : Input) (safe : Bool) : List (NoticeKind × Nat × Nat) :=
  if safe then [(.runSafe, i.number, 0)] else []

/-- R98, R101: SAFE comes first, and INTERLOCK is judged in the run it leaves (log 8). -/
theorem State.runOnLatchSignal_judged :
    ∃ notices,
      ReasonJudged (if s.latchBringsSafe i then { s.run with state := .safe, inBand := false } else s.run) .interlock 5
        (s.anyLatchOfLevel 2 = true) (s.runOnLatchSignal i).run notices ∧
      (s.runOnLatchSignal i).notices = noticesAfter s (safeNotices i (s.latchBringsSafe i) ++ notices) := by
  cases h : s.latchBringsSafe i with
  | false =>
    rw [s.runOnLatchSignal_of_calm i h]
    exact (s.judgeReason_judges .interlock _).1
  | true =>
    rw [s.runOnLatchSignal_of_safe i h]
    obtain ⟨notices, hjudged, hqueue⟩ :=
      ((s.enterSafe i).judgeReason_judges .interlock ((s.enterSafe i).anyLatchOfLevel 2)).1
    rw [State.anyLatchOfLevel_congr (s := s) (by simp) (by simp), s.enterSafe_run] at hjudged
    exact ⟨notices, hjudged, hqueue.trans (noticesAfter_append (by simp) (s.enterSafe_notices i) notices)⟩

/-- R106: a checkpoint is asked for exactly when the run has moved. -/
theorem State.runOnLatchSignal_due :
    ((s.runOnLatchSignal i).run.state = s.run.state → (s.runOnLatchSignal i).due = s.due) ∧
      ((s.runOnLatchSignal i).run.state ≠ s.run.state →
        (s.runOnLatchSignal i).due = { s.due with checkpoint := true }) := by
  cases h : s.latchBringsSafe i with
  | false =>
    rw [s.runOnLatchSignal_of_calm i h]
    exact (s.judgeReason_judges .interlock _).2
  | true =>
    rw [s.runOnLatchSignal_of_safe i h]
    have hgoing : s.run.state.going = true := State.latchBringsSafe_going h
    have hstill : (s.enterSafe i).judgeInterlock.run.state.going = false := by
      rw [State.judgeInterlock, (State.judgeReason_state _ _ _).1, s.enterSafe_run]; rfl
    have hasks := (s.enterSafe i).judgeReason_asksAtMost .interlock ((s.enterSafe i).anyLatchOfLevel 2)
    rw [State.AsksAtMost, s.enterSafe_due] at hasks
    exact ⟨fun hsame => absurd (hsame ▸ hgoing) (Bool.eq_false_iff.1 hstill), fun _ => hasks.elim id id⟩

theorem State.runOnLatchSignal_kept (h : s.latchBringsSafe i = false) :
    (s.runOnLatchSignal i).fans = s.fans ∧ (s.runOnLatchSignal i).outputs = s.outputs := by
  rw [s.runOnLatchSignal_of_calm i h]; simp

theorem State.runOnLatchSignal_stops (h : s.latchBringsSafe i = true) :
    (s.runOnLatchSignal i).fans = s.fans.stopped ∧ (s.runOnLatchSignal i).outputs = (s.enterSafe i).outputs := by
  rw [s.runOnLatchSignal_of_safe i h]; simp [s.enterSafe_fans]

/-- R106: the event of a latch signal ends with the checkpoint that a run which has moved asks for. -/
theorem State.runOnLatchSignal_finishEvent {s₀ : State} (hd : s₀.due = .none) (hdue : s.due = s₀.due)
    (hm : s.memory = s₀.memory) (hr : s.run = s₀.run) :
    (s.runOnLatchSignal i).finishEvent =
        { s.runOnLatchSignal i with due := s₀.due, memory := (s.runOnLatchSignal i).finishEvent.memory } ∧
      ((s.runOnLatchSignal i).run.state = s₀.run.state → (s.runOnLatchSignal i).finishEvent.memory = s₀.memory) ∧
      ((s.runOnLatchSignal i).run.state ≠ s₀.run.state → AsksCheckpoint s₀ (s.runOnLatchSignal i).finishEvent) := by
  obtain ⟨hsame, hchanged⟩ := s.runOnLatchSignal_due i
  rw [hr, hdue] at hsame hchanged
  exact State.finishEvent_of_moved hd (by simpa using hm) hsame hchanged

end

/-! ### What a trip records (R146) -/

section
variable {s : State} {i : Input}

/-- R146: a trip's notice queued, and a clear latch set. -/
def State.tripRecorded (s : State) (i : Input) : State :=
  { s with
    notices := noticesAfter s [(.interlockTripped, i.number, s.inputLevel i)]
    interlocks :=
      if (s.input i).latch then s.interlocks
      else s.interlocks.set i { s.input i with latch := true, trippedAt := some s.clock.minute } }

theorem State.trip_of_set (h : (s.input i).latch = true) : s.trip i = s.tripRecorded i := by
  simp only [State.trip, State.tripRecorded, if_pos h]; rfl

/-- R147: but for FAN_RUN the Run Controller alone takes the signal of the latch. -/
theorem State.trip_of_clear (hi : i ≠ .fanRun) (h : (s.input i).latch = false) :
    s.trip i = (s.tripRecorded i).runOnLatchSignal i := by
  simp only [State.trip, State.tripRecorded, State.signalLatchSet, if_neg hi, h]; rfl

theorem State.tripRecorded_latch (s : State) (i : Input) : ((s.tripRecorded i).input i).latch = true := by
  unfold State.tripRecorded
  split
  · assumption
  · exact congrArg InputRecord.latch (inputs_get_set_self _ _ _)

theorem State.tripRecorded_sameBut (s : State) (i : Input) : s.SameBut (s.tripRecorded i) i := by
  refine fun j hj => ⟨?_, rfl⟩
  unfold State.tripRecorded
  split
  · rfl
  · exact congrArg InputRecord.latch (inputs_get_set_ne _ _ _ _ hj)

/-- R101: a trip at level 3 brings SAFE to a run that goes. -/
theorem State.tripRecorded_bringsSafe (s : State) (i : Input) :
    (s.tripRecorded i).latchBringsSafe i = true ↔ s.inputLevel i = 3 ∧ s.run.state.going = true := by
  rw [State.latchBringsSafe_iff]
  exact and_congr_left' ⟨fun h => h.2, fun h => ⟨s.tripRecorded_latch i, h⟩⟩

/-- R98: the latch of another level than 2 is no reason. -/
theorem State.InterlockAgrees.tripRecorded (h : s.InterlockAgrees) (hlevel : s.inputLevel i ≠ 2) :
    (s.tripRecorded i).InterlockAgrees := by
  intro hp
  rw [(s.tripRecorded_sameBut i).anyLatchOfLevel (.inl hlevel) (.inl hlevel)]
  exact h hp

/-- R97, R98: a run whose reasons have INTERLOCK as its condition has it stays as it is. -/
theorem ReasonJudged.agrees {r after : Run} {code : Nat} {present : Bool} {notices : List (NoticeKind × Nat × Nat)}
    (h : ReasonJudged r .interlock code (present = true) after notices)
    (ha : r.state.inProgress = true → r.reasons.interlock = present) : after = r ∧ notices = [] := by
  obtain ⟨hkept, -⟩ := h
  refine hkept ?_
  cases hp : r.state.inProgress with
  | false => exact .inl rfl
  | true => exact .inr (by rw [← ha hp]; exact Iff.rfl)

end

end Sys2Proof.Machine
end

section
/-! SUPPORT. A change of the live level of an input other than FAN_RUN (R143 to R147), and LiveLevelChangeTripsByLevel
(O35). -/

namespace Sys2Proof.Machine

section
variable {s : State} {i : Input} {closed : Bool}

/-- R144: an input reads as given, before it is judged. -/
def State.reads (s : State) (i : Input) (closed : Bool) : State := s.setInput i { s.input i with live := closed }

theorem State.reads_input (s : State) (i : Input) (closed : Bool) :
    (s.reads i closed).input i = { s.input i with live := closed } := s.setInput_input _ _

theorem State.InterlockAgrees.reads (h : s.InterlockAgrees) (i : Input) (closed : Bool) :
    (s.reads i closed).InterlockAgrees := fun hp =>
  (h hp).trans (State.anyLatchOfLevel_of_latches (fun j => s.setLive_latch i j closed) (fun _ _ => rfl) 2).symm

/-- R143: an input other than FAN_RUN has its expected level and its comparison from its settings. -/
theorem State.expectedClosed_of_ne (hi : i ≠ .fanRun) :
    s.expectedClosed i = (s.settings.interlocks.get i).expectedClosed := by
  cases i with
  | fanRun => exact absurd rfl hi
  | door | heatSupply | spraySupply | estop | overtemp | aux1 | aux2 => rfl

theorem State.comparisonActive_of_ne (hi : i ≠ .fanRun) :
    s.comparisonActive i = (s.ready && (s.settings.interlocks.get i).compare) := by
  cases i with
  | fanRun => exact absurd rfl hi
  | door | heatSupply | spraySupply | estop | overtemp | aux1 | aux2 => rfl

/-- R143 to R145: the input changes to a level that it is judged by and does not conform with. -/
def State.Lapses (s : State) (i : Input) (closed : Bool) : Prop :=
  closed ≠ (s.input i).live ∧ s.ready = true ∧ (s.settings.interlocks.get i).compare = true ∧ 1 ≤ s.inputLevel i ∧
    closed ≠ (s.settings.interlocks.get i).expectedClosed

theorem exec_liveLevelChange_of_same (h : s.Awake) (hc : closed = (s.input i).live) :
    exec (.liveLevelChange i closed) s = .next s := by
  have hkept : s.changeLive i closed = s := if_pos hc.symm
  have hevent := s.event_of_awake h fun t => t.changeLive i closed
  rw [hkept, s.finishEvent_of_due_none h.due_none] at hevent
  exact congrArg Host.Outcome.next hevent

section
variable (h : s.Awake) (hi : i ≠ .fanRun)
include h hi

theorem exec_liveLevelChange_of_change (hc : closed ≠ (s.input i).live) :
    exec (.liveLevelChange i closed) s =
      .next ((s.reads i closed).judgeTrip i (s.conforms i) (s.judged i)).finishEvent := by
  have hchange : s.changeLive i closed = (s.reads i closed).judgeTrip i (s.conforms i) (s.judged i) := by
    simp only [State.changeLive, if_neg (Ne.symm hc), if_neg hi]; rfl
  have hevent := s.event_of_awake h fun t => t.changeLive i closed
  rw [hchange] at hevent
  exact congrArg Host.Outcome.next hevent

/-- R143, R145: a change that does not trip is that of the live level alone. -/
theorem exec_liveLevelChange_of_calm (hcalm : ¬ s.Lapses i closed) :
    exec (.liveLevelChange i closed) s = .next (s.reads i closed) := by
  by_cases hc : closed = (s.input i).live
  · have hsame : s.reads i closed = s := by
      rw [State.reads, hc]
      exact congrArg (fun x => ({ s with interlocks := x } : State)) (inputs_set_get _ _)
    rw [exec_liveLevelChange_of_same h hc, hsame]
  · have hquiet : (s.reads i closed).judged i = false ∨ (s.reads i closed).conforms i = true := by
      rw [State.judged, State.conforms, State.comparisonActive_of_ne hi, State.expectedClosed_of_ne hi, State.reads_input]
      by_contra hlapse
      rw [not_or, Bool.not_eq_false, Bool.and_eq_true, Bool.and_eq_true, decide_eq_true_eq, beq_iff_eq] at hlapse
      obtain ⟨⟨⟨hready, hcompare⟩, hlevel⟩, hdiffers⟩ := hlapse
      exact hcalm ⟨hc, hready, hcompare, hlevel, hdiffers⟩
    rw [exec_liveLevelChange_of_change h hi hc, State.judgeTrip_of_calm hquiet,
      State.finishEvent_of_due_none _ (by exact h.due_none)]

/-- R145: an input that lapses did conform, and trips. -/
theorem exec_liveLevelChange_of_lapse (ht : s.Lapses i closed) :
    exec (.liveLevelChange i closed) s = .next ((s.reads i closed).trip i).finishEvent := by
  obtain ⟨hc, hready, hcompare, hlevel, hdiffers⟩ := ht
  have hconformed : s.conforms i = true := by
    rw [State.conforms, State.expectedClosed_of_ne hi, beq_iff_eq, Bool.eq_not_of_ne hdiffers.symm,
      Bool.eq_not_of_ne hc.symm]
  have hjudged : (s.reads i closed).judged i = true := by
    rw [State.judged, State.comparisonActive_of_ne hi, Bool.and_eq_true, Bool.and_eq_true]
    exact ⟨⟨hready, hcompare⟩, decide_eq_true hlevel⟩
  have hlapsed : (s.reads i closed).conforms i = false := by
    rw [State.conforms, State.expectedClosed_of_ne hi, State.reads_input]
    exact beq_eq_false_iff_ne.2 hdiffers
  rw [exec_liveLevelChange_of_change h hi hc, hconformed, State.judgeTrip_of_lapse hjudged hlapsed]

end

/-! ### A trip that sets the latch, by its level -/

/-- The input reads as given, its trip recorded. -/
def State.lapsed (s : State) (i : Input) (closed : Bool) : State := (s.reads i closed).tripRecorded i

theorem State.lapsed_of_clear (h : (s.input i).latch = false) :
    s.lapsed i closed =
      { s with
        interlocks := s.interlocks.set i { live := closed, latch := true, trippedAt := some s.clock.minute }
        notices := noticesAfter s [(.interlockTripped, i.number, s.inputLevel i)] } := by
  have hclear : ((s.reads i closed).input i).latch = false := by rw [State.reads_input]; exact h
  rw [State.lapsed, State.tripRecorded, hclear, if_neg Bool.false_ne_true, State.reads_input]
  exact congrArg (fun x => ({ s with interlocks := x, notices := _ } : State)) (inputs_set_set _ _ _ _)

theorem State.lapsed_of_set (h : (s.input i).latch = true) :
    s.lapsed i closed =
      { s with
        interlocks := s.interlocks.set i { s.input i with live := closed }
        notices := noticesAfter s [(.interlockTripped, i.number, s.inputLevel i)] } := by
  have hset : ((s.reads i closed).input i).latch = true := by rw [State.reads_input]; exact h
  rw [State.lapsed, State.tripRecorded, if_pos hset]
  rfl

theorem State.lapsed_noticesAfter (h : (s.input i).latch = false) (xs : List (NoticeKind × Nat × Nat)) :
    noticesAfter (s.lapsed i closed) xs = noticesAfter s ((.interlockTripped, i.number, s.inputLevel i) :: xs) := by
  rw [State.lapsed_of_clear h]
  exact noticesAfter_append (s := s) (t := { s with interlocks := _, notices := noticesAfter s _ }) rfl rfl xs

/-- R146, R147: a change that sets the latch: the signal taken, and the event over. -/
def State.lapseTaken (s : State) (i : Input) (closed : Bool) : State :=
  ((s.lapsed i closed).runOnLatchSignal i).finishEvent

theorem State.lapseTaken_eq (s : State) (i : Input) (closed : Bool) :
    (s.lapseTaken i closed).run = ((s.lapsed i closed).runOnLatchSignal i).run ∧
      (s.lapseTaken i closed).notices = ((s.lapsed i closed).runOnLatchSignal i).notices ∧
      (s.lapseTaken i closed).fans = ((s.lapsed i closed).runOnLatchSignal i).fans ∧
      (s.lapseTaken i closed).outputs = ((s.lapsed i closed).runOnLatchSignal i).outputs := by
  simp [State.lapseTaken]

section
variable (hd : s.due = .none) (hlatch : (s.input i).latch = false)
include hd hlatch

theorem State.lapseTaken_blocks :
    s.lapseTaken i closed =
      { s with
        interlocks := s.interlocks.set i { live := closed, latch := true, trippedAt := some s.clock.minute }
        notices := (s.lapseTaken i closed).notices, run := (s.lapseTaken i closed).run
        fans := (s.lapseTaken i closed).fans, outputs := (s.lapseTaken i closed).outputs
        memory := (s.lapseTaken i closed).memory } ∧
    ((s.lapseTaken i closed).run.state = s.run.state → (s.lapseTaken i closed).memory = s.memory) ∧
    ((s.lapseTaken i closed).run.state ≠ s.run.state → AsksCheckpoint s (s.lapseTaken i closed)) := by
  obtain ⟨hblocks, hmemory, hasks⟩ :=
    (s.lapsed i closed).runOnLatchSignal_finishEvent i hd rfl rfl rfl
  refine ⟨State.eq_of_blocks ?_, by simpa [State.lapseTaken] using hmemory, by simpa [State.lapseTaken] using hasks⟩
  have hdue : (s.lapseTaken i closed).due = s.due := by rw [State.lapseTaken, hblocks]
  rw [hdue]
  simp [State.lapseTaken, State.lapsed_of_clear hlatch]

omit hd in
/-- R97, R101: the run and the notices, as they are judged. -/
theorem State.lapseTaken_judged {safe : Bool} (hsafe : safe = true ↔ s.inputLevel i = 3 ∧ s.run.state.going = true) :
    ∃ notices,
      ReasonJudged (if safe then { s.run with state := .safe, inBand := false } else s.run) .interlock 5
        ((s.lapsed i closed).anyLatchOfLevel 2 = true) (s.lapseTaken i closed).run notices ∧
      (s.lapseTaken i closed).notices =
        noticesAfter s ((.interlockTripped, i.number, s.inputLevel i) :: (safeNotices i safe ++ notices)) := by
  obtain rfl : (s.lapsed i closed).latchBringsSafe i = safe :=
    Bool.eq_iff_iff.2 (((s.reads i closed).tripRecorded_bringsSafe i).trans hsafe.symm)
  obtain ⟨notices, hjudged, hnotices⟩ := (s.lapsed i closed).runOnLatchSignal_judged i
  obtain ⟨hrun, hqueue, -, -⟩ := s.lapseTaken_eq i closed
  rw [State.lapsed_noticesAfter hlatch] at hnotices
  rw [hrun, hqueue]
  exact ⟨notices, hjudged, hnotices⟩

omit hd hlatch in
theorem State.lapseTaken_kept (hsafe : ¬ (s.inputLevel i = 3 ∧ s.run.state.going = true)) :
    (s.lapseTaken i closed).fans = s.fans ∧ (s.lapseTaken i closed).outputs = s.outputs := by
  have hcalm : (s.lapsed i closed).latchBringsSafe i = false :=
    Bool.eq_false_iff.2 fun h => hsafe (((s.reads i closed).tripRecorded_bringsSafe i).1 h)
  obtain ⟨-, -, hfans, houtputs⟩ := s.lapseTaken_eq i closed
  rw [hfans, houtputs]
  exact (s.lapsed i closed).runOnLatchSignal_kept i hcalm

/-- Level 1, or a run that is not in progress: the run stays. -/
theorem State.lapseTaken_alone (ha : s.InterlockAgrees) (h : s.inputLevel i = 1 ∨ s.run.state.inProgress = false) :
    (s.lapseTaken i closed).notices = noticesAfter s [(.interlockTripped, i.number, s.inputLevel i)] ∧
      (s.lapseTaken i closed).run = s.run ∧ (s.lapseTaken i closed).fans = s.fans ∧
      (s.lapseTaken i closed).outputs = s.outputs ∧ (s.lapseTaken i closed).memory = s.memory := by
  have hsafe : ¬ (s.inputLevel i = 3 ∧ s.run.state.going = true) := fun ⟨h3, hg⟩ =>
    h.elim (fun h1 => by omega) fun hover => Bool.eq_false_iff.1 hover (RunState.inProgress_of_going hg)
  obtain ⟨notices, hjudged, hnotices⟩ := State.lapseTaken_judged hlatch (safe := false) (by simpa using hsafe)
  obtain ⟨hfans, houtputs⟩ := State.lapseTaken_kept (closed := closed) hsafe
  obtain ⟨-, hmemory, -⟩ := State.lapseTaken_blocks (closed := closed) hd hlatch
  have hkept : (s.lapseTaken i closed).run = s.run ∧ notices = [] := by
    refine hjudged.agrees fun hp => ?_
    obtain h1 | hover := h
    · exact State.InterlockAgrees.tripRecorded (ha.reads i closed) (by change s.inputLevel i ≠ 2; omega) hp
    · exact absurd hp (Bool.eq_false_iff.1 hover)
  obtain ⟨hrun, rfl⟩ := hkept
  exact ⟨hnotices, hrun, hfans, houtputs, hmemory (by rw [hrun])⟩

/-- Level 2: a RUNNING run with no reason is HELD. -/
theorem State.lapseTaken_holds (h2 : s.inputLevel i = 2) (hs : s.run.state = .running) (hr : s.run.reasons = .empty) :
    (s.lapseTaken i closed).notices =
        noticesAfter s [(.interlockTripped, i.number, s.inputLevel i), (.runHeld, 5, 1)] ∧
      HeldByInterlock s (s.lapseTaken i closed) ∧ (s.lapseTaken i closed).fans = s.fans ∧
      (s.lapseTaken i closed).outputs = s.outputs := by
  have hsafe : ¬ (s.inputLevel i = 3 ∧ s.run.state.going = true) := fun h => by omega
  obtain ⟨notices, ⟨-, hadds, -⟩, hnotices⟩ := State.lapseTaken_judged hlatch (safe := false) (by simpa using hsafe)
  obtain ⟨hfans, houtputs⟩ := State.lapseTaken_kept (closed := closed) hsafe
  obtain ⟨-, -, hasks⟩ := State.lapseTaken_blocks (closed := closed) hd hlatch
  have hset : (s.lapsed i closed).anyLatchOfLevel 2 = true :=
    ((s.reads i closed).tripRecorded_sameBut i).anyLatchOfLevel_iff 2 |>.2 (.inl ⟨h2, State.tripRecorded_latch _ i⟩)
  obtain ⟨hholds, -⟩ := hadds (by rw [if_neg Bool.false_ne_true, hs]; rfl) hset
    (by rw [if_neg Bool.false_ne_true, hr]; rfl)
  rw [if_neg Bool.false_ne_true, hr] at hholds
  obtain ⟨hrun, rfl⟩ := hholds hs
  exact ⟨hnotices, ⟨hrun, hasks (by rw [hrun, hs]; simp)⟩, hfans, houtputs⟩

/-- Level 3: a run that is RUNNING or HELD enters SAFE. -/
theorem State.lapseTaken_safe (ha : s.InterlockAgrees) (hv : s.ValvesSound) (h3 : s.inputLevel i = 3)
    (hg : s.run.state.going = true) :
    (s.lapseTaken i closed).notices =
        noticesAfter s [(.interlockTripped, i.number, s.inputLevel i), (.runSafe, i.number, 0)] ∧
      EntersSafe s (s.lapseTaken i closed) := by
  obtain ⟨notices, hjudged, hnotices⟩ := State.lapseTaken_judged hlatch (safe := true) (by simp [h3, hg])
  obtain ⟨-, -, hasks⟩ := State.lapseTaken_blocks (closed := closed) hd hlatch
  have hbrings : (s.lapsed i closed).latchBringsSafe i = true :=
    ((s.reads i closed).tripRecorded_bringsSafe i).2 ⟨h3, hg⟩
  obtain ⟨hfans, houtputs⟩ := (s.lapsed i closed).runOnLatchSignal_stops i hbrings
  obtain ⟨-, -, hfans', houtputs'⟩ := s.lapseTaken_eq i closed
  have hout : (s.lapseTaken i closed).outputs = ((s.lapsed i closed).enterSafe i).outputs := houtputs'.trans houtputs
  obtain ⟨hrun, rfl⟩ := hjudged.agrees fun _ =>
    State.InterlockAgrees.tripRecorded (ha.reads i closed) (by change s.inputLevel i ≠ 2; omega)
      (RunState.inProgress_of_going hg)
  have hmoved : (s.lapseTaken i closed).run.state ≠ s.run.state := by
    rw [hrun]; intro hsame; rw [← hsame] at hg; cases hg
  refine ⟨hnotices, hrun, hfans'.trans hfans, ?_, hasks hmoved, fun z hready hz => ?_⟩
  · exact (State.ValvesSound.enterSafe (s := s.lapsed i closed) hv i).congr hout
  · rw [hout]
    exact State.enterSafe_vent (s.lapsed i closed) i hready hz

end

end

/-- Settles O35, by whether the change trips and by the level of the trip. -/
theorem liveLevelChangeTripsByLevel : Obligations.LiveLevelChangeTripsByLevel := by
  unfold Obligations.LiveLevelChangeTripsByLevel
  intro s i closed h hi ha hv c r level trips tripped
  have hd := h.due_none
  refine ⟨exec_liveLevelChange_of_same h, exec_liveLevelChange_of_calm h hi, fun ht hlatch => ?_, fun ht hlatch => ?_⟩
  · have hset : ((s.reads i closed).input i).latch = true := by rw [State.reads_input]; exact hlatch
    have hexec := exec_liveLevelChange_of_lapse h hi ht
    rw [State.trip_of_set hset, State.finishEvent_of_due_none _ (by exact hd)] at hexec
    exact hexec.trans (congrArg Host.Outcome.next (State.lapsed_of_set hlatch))
  · have hclear : ((s.reads i closed).input i).latch = false := by rw [State.reads_input]; exact hlatch
    have hexec := exec_liveLevelChange_of_lapse h hi ht
    rw [State.trip_of_clear hi hclear] at hexec
    exact ⟨s.lapseTaken i closed, hexec, (State.lapseTaken_blocks hd hlatch).1, State.lapseTaken_alone hd hlatch ha,
      State.lapseTaken_holds hd hlatch, State.lapseTaken_safe hd hlatch ha hv⟩

end Sys2Proof.Machine
end

section
/-! SUPPORT. INTERLOCK_CLEAR (R151, R147, R98, R97, R140): the handler, and the latch released; and
InterlockClearReleasesTheLatch (O52). -/

namespace Sys2Proof.Machine

/-! ### The input that a byte names -/

theorem inputOfNumber_byte (i : Input) : inputOfNumber (BitVec.ofNat 8 i.number).toNat = some i := by
  cases i <;> rfl

theorem inputOfNumber_eq_none {n : Nat} (h : n = 0 ∨ 8 < n) : inputOfNumber n = none := by
  obtain rfl | h := h
  · rfl
  · obtain ⟨k, rfl⟩ := Nat.exists_eq_add_of_le' h
    rfl

theorem inputOfNumber_byte_eq_none {b : Byte} (h : b = 0 ∨ 8 < b.toNat) : inputOfNumber b.toNat = none :=
  inputOfNumber_eq_none (h.imp_left (congrArg BitVec.toNat))

/-- R143: the expected level: FAN_RUN's is the Fan Sequencer's. -/
theorem State.expectedClosed_eq (s : State) (i : Input) :
    s.expectedClosed i = if i = .fanRun then s.fans.expectRunning else (s.settings.interlocks.get i).expectedClosed := by
  split
  · rename_i hi; rw [hi]; rfl
  · exact State.expectedClosed_of_ne ‹_›

/-! ### The handler -/

section
variable {s : State} {i : Input}

theorem handleInterlockClear_clear (h : (s.input i).latch = false) :
    handleInterlockClear [BitVec.ofNat 8 i.number] s = (s, .of .ok []) := by
  simp only [handleInterlockClear, inputOfNumber_byte, h]; rfl

theorem handleInterlockClear_nonconforming (h : (s.input i).latch = true) (hc : s.conforms i = false) :
    handleInterlockClear [BitVec.ofNat 8 i.number] s = (s, .of .stillNonconforming []) := by
  simp only [handleInterlockClear, inputOfNumber_byte, h, hc]; rfl

theorem handleInterlockClear_releases (h : (s.input i).latch = true) (hc : s.conforms i = true) :
    handleInterlockClear [BitVec.ofNat 8 i.number] s = (s.clearLatch i, .of .ok []) := by
  simp only [handleInterlockClear, inputOfNumber_byte, h, hc]; rfl

theorem handleInterlockClear_badLength (s : State) {p : List Byte} (h : p.length ≠ 1) :
    handleInterlockClear p s = (s, .of .badLength []) := by
  match p with
  | [] | _ :: _ :: _ => rfl
  | [_] => exact absurd rfl h

theorem handleInterlockClear_unnamed (s : State) {b : Byte} (h : b = 0 ∨ 8 < b.toNat) :
    handleInterlockClear [b] s = (s, { status := .badValue, detail := [1], body := [] }) := by
  simp only [handleInterlockClear, inputOfNumber_byte_eq_none h]; rfl

end

/-! ### The fans as FAN_RUN's latch clears (R140) -/

section
variable {s : State}

/-- R136: the fans as they enter STARTING. -/
def Fans.started (f : Fans) : Fans :=
  { f with state := .starting, compareActive := false, confirmTimer := 0, confirmed := false }

theorem State.fansOnLatchClear_of_not_failed (h : s.fans.state ≠ .failed) : s.fansOnLatchClear = s := by
  unfold State.fansOnLatchClear
  cases hs : s.fans.state with
  | failed => exact absurd hs h
  | stopped | starting | runningFwd | runningRev | coasting => rfl

/-- R140, R136: FAILED fans of a run that goes start, unconfirmed while FAN_RUN reads stopped. -/
theorem State.fansOnLatchClear_starts (hs : s.fans.state = .failed) (hg : s.run.state.going = true)
    (hlive : (s.input .fanRun).live = false) :
    s.fansOnLatchClear = ({ s with fans := s.fans.started } : State).refreshOutputs := by
  have hclear : s.fansOnLatchClear = s.fansEnterStarting := by simp [State.fansOnLatchClear, hs, hg]
  rw [hclear]
  exact if_neg (by exact Bool.eq_false_iff.1 hlive)

theorem State.fansOnLatchClear_stops (hs : s.fans.state = .failed) (hg : s.run.state.going = false) :
    s.fansOnLatchClear = s.fansEnterStopped := by
  simp [State.fansOnLatchClear, hs, hg]

theorem State.fansOnLatchClear_notices (hlive : (s.input .fanRun).live = false) :
    s.fansOnLatchClear.notices = s.notices := by
  by_cases hs : s.fans.state = .failed
  · cases hg : s.run.state.going with
    | true => rw [State.fansOnLatchClear_starts hs hg hlive]; rfl
    | false => rw [State.fansOnLatchClear_stops hs hg]; rfl
  · rw [State.fansOnLatchClear_of_not_failed hs]

end

/-! ### A latch released (R151, R147) -/

section
variable {s : State} {i : Input}

/-- R151: a latch cleared, before its signal. -/
def State.latchReleased (s : State) (i : Input) : State :=
  s.setInput i { s.input i with latch := false, trippedAt := none }

theorem State.latchReleased_input (s : State) (i : Input) :
    (s.latchReleased i).input i = { s.input i with latch := false, trippedAt := none } := s.setInput_input _ _

theorem State.latchReleased_sameBut (s : State) (i : Input) : s.SameBut (s.latchReleased i) i :=
  fun _ hj => ⟨congrArg InputRecord.latch (s.setInput_input_ne hj _), rfl⟩

/-- R98: the level-2 latches that stay set. -/
theorem State.latchReleased_anyLatch (s : State) (i : Input) :
    (s.latchReleased i).anyLatchOfLevel 2 = true ↔ ∃ j, j ≠ i ∧ (s.input j).latch = true ∧ s.inputLevel j = 2 := by
  rw [(s.latchReleased_sameBut i).anyLatchOfLevel_iff, State.latchReleased_input]
  simp

/-- R98: the release of a latch that is no reason of the run leaves INTERLOCK as its condition has it. -/
theorem State.latchReleased_idle (ha : s.InterlockAgrees) (h : s.inputLevel i ≠ 2 ∨ s.run.state.inProgress = false) :
    s.run.state.inProgress = false ∨
      ((∃ j, j ≠ i ∧ (s.input j).latch = true ∧ s.inputLevel j = 2) ↔ s.run.reasons.has .interlock = true) := by
  cases hp : s.run.state.inProgress with
  | false => exact .inl rfl
  | true =>
    have hne : s.inputLevel i ≠ 2 := h.resolve_right (by simp [hp])
    refine .inr ((s.latchReleased_anyLatch i).symm.trans ?_)
    rw [(s.latchReleased_sameBut i).anyLatchOfLevel (.inl hne) (.inl hne), ← ha hp]
    exact Iff.rfl

/-- R101: a clear latch brings no SAFE. -/
theorem State.latchReleased_signal (s : State) (i : Input) :
    (s.latchReleased i).runOnLatchSignal i = (s.latchReleased i).judgeInterlock :=
  State.runOnLatchSignal_of_calm _ _ (by simp [State.latchBringsSafe, State.latchReleased_input])

theorem State.clearLatch_of_ne (hi : i ≠ .fanRun) : s.clearLatch i = (s.latchReleased i).judgeInterlock := by
  rw [← s.latchReleased_signal i]
  exact if_neg hi

theorem State.clearLatch_fanRun (s : State) :
    s.clearLatch .fanRun = (s.latchReleased .fanRun).judgeInterlock.fansOnLatchClear := by
  rw [← s.latchReleased_signal .fanRun]; rfl

/-- R98: INTERLOCK is judged by the latches that stay set; the fans' part of the signal leaves the run alone. -/
theorem State.clearLatch_judges (hlive : i = .fanRun → (s.input i).live = false) :
    s.Judges (s.clearLatch i) .interlock ((s.latchReleased i).anyLatchOfLevel 2) := by
  have hjudges : s.Judges (s.latchReleased i).judgeInterlock .interlock ((s.latchReleased i).anyLatchOfLevel 2) :=
    (s.latchReleased i).judgeReason_judges .interlock _
  by_cases hi : i = .fanRun
  · subst hi
    have hopen : ((s.latchReleased .fanRun).judgeInterlock.input .fanRun).live = false := by
      have hinput : (s.latchReleased .fanRun).judgeInterlock.input .fanRun = (s.latchReleased .fanRun).input .fanRun := by
        simp [State.input]
      rw [hinput, State.latchReleased_input]
      exact hlive rfl
    rw [State.clearLatch_fanRun]
    simpa only [State.Judges, State.fansOnLatchClear_frame, State.fansOnLatchClear_notices hopen] using hjudges
  · rw [State.clearLatch_of_ne hi]
    exact hjudges

theorem State.clearLatch_keepsFans (h : i ≠ .fanRun ∨ s.fans.state = .stopped) :
    (s.clearLatch i).fans = s.fans ∧ (s.clearLatch i).outputs = s.outputs := by
  by_cases hi : i = .fanRun
  · subst hi
    have hs : s.fans.state = .stopped := h.resolve_left (absurd rfl)
    rw [State.clearLatch_fanRun, State.fansOnLatchClear_of_not_failed (by simp [State.latchReleased, hs])]
    simp [State.latchReleased]
  · rw [State.clearLatch_of_ne hi]; simp [State.latchReleased]

/-- R140: FAILED fans start with a run that goes, and stop with any other. -/
theorem State.clearLatch_failedFans (hs : s.fans.state = .failed) (hlive : (s.input .fanRun).live = false) :
    (s.run.state.going = true → (s.clearLatch .fanRun).fans = s.fans.started) ∧
      (s.run.state.going = false → (s.clearLatch .fanRun).fans = s.fans.stopped) := by
  obtain ⟨u, hu⟩ : ∃ u, u = (s.latchReleased .fanRun).judgeInterlock := ⟨_, rfl⟩
  have hfans : u.fans = s.fans := by rw [hu]; simp [State.latchReleased]
  have hgoing : u.run.state.going = s.run.state.going := by
    rw [hu]; exact (State.judgeReason_state (s.latchReleased .fanRun) _ _).1
  have hopen : (u.input .fanRun).live = false := by
    have hinput : u.input .fanRun = (s.latchReleased .fanRun).input .fanRun := by rw [hu]; simp [State.input]
    rw [hinput, State.latchReleased_input]; exact hlive
  rw [State.clearLatch_fanRun, ← hu, ← hfans]
  refine ⟨fun hg => ?_, fun hg => ?_⟩
  · rw [State.fansOnLatchClear_starts (hfans ▸ hs) (hgoing.trans hg) hopen]; rfl
  · rw [State.fansOnLatchClear_stops (hfans ▸ hs) (hgoing.trans hg)]; rfl

end

/-! ### The request served -/

section
variable {s : State} {tag : Byte} {i : Input} (h : s.Receptive)
include h

theorem interlockClear_refused {payload : List Byte} {r : Reply} (hr : handleInterlockClear payload s = (s, r)) :
    ServedUnchanged (.interlockClear tag payload) s r :=
  servedUnchanged_of_handled (c := .interlockClear tag payload) h rfl (by simp) rfl hr

/-- R151, R147, R97: the latch of a conforming input is released, and INTERLOCK judged by those left. -/
theorem interlockClear_served (hlatch : (s.input i).latch = true) (hc : s.conforms i = true)
    (hlive : i = .fanRun → (s.input i).live = false) :
    ∃ t notices, Served (.interlockClear tag [BitVec.ofNat 8 i.number]) s t (.of .ok []) ∧
      ReasonJudged s.run .interlock 5 (∃ j, j ≠ i ∧ (s.input j).latch = true ∧ s.inputLevel j = 2) t.run notices ∧
      t =
        { s with
          interlocks := s.interlocks.set i { s.input i with latch := false, trippedAt := none }, run := t.run
          fans := t.fans, outputs := t.outputs, notices := noticesAfter s notices, memory := t.memory
          link := t.link } ∧
      (t.run.state = s.run.state → t.memory = s.memory) ∧ (t.run.state ≠ s.run.state → AsksCheckpoint s t) ∧
      t.fans = (s.clearLatch i).fans ∧ t.outputs = (s.clearLatch i).outputs := by
  obtain ⟨⟨notices, hjudged, hqueue⟩, hsame, hchanged⟩ := State.clearLatch_judges hlive
  rw [State.latchReleased_anyLatch] at hjudged
  obtain ⟨hblocks, hmemory, hasks⟩ := State.finishEvent_of_moved h.1.due_none (by simp) hsame hchanged
  have hserved := served_of_handled (c := .interlockClear tag _) h rfl (by simp) rfl
    (handleInterlockClear_releases hlatch hc) (by simp)
  rw [State.finishEvent_of_answer, hblocks] at hserved
  refine ⟨_, notices, hserved, hjudged, State.eq_of_blocks ?_, hmemory, fun hmoved => ?_, rfl, rfl⟩
  · have hreleased : (s.clearLatch i).interlocks =
        s.interlocks.set i { s.input i with latch := false, trippedAt := none } := by simp [State.clearLatch]
    simp [hqueue, hreleased]
  · have hask := hasks hmoved
    rw [hblocks] at hask
    exact hask

end

/-- Settles O52: the refusals, and the latch released; an input whose latch is no reason leaves the run as it is. -/
theorem interlockClearReleasesTheLatch : Obligations.InterlockClearReleasesTheLatch := by
  unfold Obligations.InterlockClearReleasesTheLatch
  intro s tag i h c expected released level2
  have hconforms : s.conforms i = true ↔ (s.input i).live = expected := by
    rw [State.conforms, s.expectedClosed_eq, beq_iff_eq]
  refine ⟨fun hclear => interlockClear_refused h (handleInterlockClear_clear hclear), fun hlatch hne => ?_,
    fun hlatch hlive hlevel ha hi => ?_, fun hlatch hlive hfan => ?_, fun p b => ⟨fun hp => ?_, fun hb => ?_⟩⟩
  · exact interlockClear_refused h
      (handleInterlockClear_nonconforming hlatch (Bool.eq_false_iff.2 fun hc => hne (hconforms.1 hc)))
  · obtain ⟨t, notices, hserved, ⟨hkept, -⟩, ht, hmemory, -, hfans, houtputs⟩ :=
      interlockClear_served (tag := tag) h hlatch (hconforms.2 hlive) (absurd · hi)
    obtain ⟨hf, ho⟩ := State.clearLatch_keepsFans (s := s) (.inl hi)
    obtain ⟨hrun, rfl⟩ := hkept (State.latchReleased_idle ha hlevel)
    refine ⟨t, hserved, ?_⟩
    rw [ht, hmemory (by rw [hrun]), hrun, hfans, houtputs, hf, ho]
    rfl
  · obtain ⟨t, notices, hserved, hjudged, ht, hmemory, hasks, hfans, houtputs⟩ :=
      interlockClear_served (tag := tag) h hlatch (hconforms.2 hlive) fun hi => (hfan hi).2.2
    refine ⟨t, notices, hserved, hjudged, ht, hmemory, hasks, fun hkeeps => ?_, fun hi hs => ?_⟩
    · rw [hfans, houtputs]; exact State.clearLatch_keepsFans hkeeps
    · subst hi
      rw [hfans]
      exact State.clearLatch_failedFans hs (hfan rfl).2.2
  · exact interlockClear_refused h (handleInterlockClear_badLength s hp)
  · exact interlockClear_refused h (handleInterlockClear_unnamed s hb)

end Sys2Proof.Machine
end

section
/-! SUPPORT. INTERLOCK_CONFIG (R149, R150): the checks and the handler, and the input judged once under its new
settings; and InterlockConfigJudgesTheInput (O51). -/

namespace Sys2Proof.Machine

/-! ### The checks (R149) -/

section
variable {i : Input} {expected compare level : Nat}

theorem interlockChecks_of_plain (hf : i ≠ .fanRun) (he : i ≠ .estop) :
    interlockChecks i expected compare level =
      [(2, inRange 0 1 expected), (3, inRange 0 1 compare), (4, inRange 0 3 level)] := by
  cases i with
  | fanRun => exact absurd rfl hf
  | estop => exact absurd rfl he
  | door | heatSupply | spraySupply | overtemp | aux1 | aux2 => rfl

/-- Three checks report the first that fails. -/
theorem firstBad_three (a b c : Bool) :
    firstBad [(2, a), (3, b), (4, c)] =
      if a = false then some 2 else if b = false then some 3 else if c = false then some 4 else none := by
  cases a <;> cases b <;> cases c <;> rfl

theorem interlockChecks_plain (hf : i ≠ .fanRun) (he : i ≠ .estop) :
    firstBad (interlockChecks i expected compare level) =
      if 1 < expected then some 2 else if 1 < compare then some 3 else if 3 < level then some 4 else none := by
  rw [interlockChecks_of_plain hf he, firstBad_three]
  simp [inRange]

theorem interlockChecks_estop :
    firstBad (interlockChecks .estop expected compare level) =
      if expected ≠ 1 then some 2 else if compare ≠ 1 then some 3 else if level ≠ 3 then some 4 else none := by
  rw [interlockChecks, firstBad_three]
  simp

theorem interlockChecks_fanRun :
    firstBad (interlockChecks .fanRun expected compare level) = if 3 < level then some 4 else none := by
  rcases Nat.lt_or_ge 3 level with h | h
  · simp [interlockChecks, firstBad, inRange, h]
  · simp [interlockChecks, firstBad, inRange, h, Nat.not_lt.2 h]

/-- R149: the settings that a write gives an input. -/
theorem interlockWrite_eq (i : Input) (old : InputSettings) :
    interlockWrite i old expected compare level =
      if i = .fanRun then { old with level }
      else { expectedClosed := decide (expected = 1), compare := decide (compare = 1), level } := by
  cases i <;> rfl

end

/-! ### The handler -/

section
variable {s : State} {i : Input} {expected compare level : Byte}

theorem handleInterlockConfig_badField {field : Nat}
    (h : firstBad (interlockChecks i expected.toNat compare.toNat level.toNat) = some field) :
    handleInterlockConfig [BitVec.ofNat 8 i.number, expected, compare, level] s =
      (s, .badField field (s.inputPart i)) := by
  simp only [handleInterlockConfig, inputOfNumber_byte, h]

/-- R149: the settings written. -/
def State.inputWritten (s : State) (i : Input) (expected compare level : Byte) : InputSettings :=
  interlockWrite i (s.settings.interlocks.get i) expected.toNat compare.toNat level.toNat

theorem handleInterlockConfig_write
    (h : firstBad (interlockChecks i expected.toNat compare.toNat level.toNat) = none) :
    handleInterlockConfig [BitVec.ofNat 8 i.number, expected, compare, level] s =
      (s.configureInput i (s.inputWritten i expected compare level),
        .of .ok ((s.configureInput i (s.inputWritten i expected compare level)).inputPart i)) := by
  simp only [handleInterlockConfig, inputOfNumber_byte, h, State.inputWritten]

theorem handleInterlockConfig_badLength (s : State) (i : Input) {rest : List Byte} (h0 : rest.length ≠ 0)
    (h3 : rest.length ≠ 3) :
    handleInterlockConfig (BitVec.ofNat 8 i.number :: rest) s = (s, .of .badLength (s.inputPart i)) := by
  rw [← refusedLength_of_named (inputOfNumber_byte i) s.inputPart rest]
  match rest with
  | [] => exact absurd rfl h0
  | [_, _, _] => exact absurd rfl h3
  | [_] | [_, _] | _ :: _ :: _ :: _ :: _ => rfl

theorem refusedLength_noInput (s : State) {p : List Byte} (h : ∀ b, p.head? = some b → b = 0 ∨ 8 < b.toNat) :
    refusedLength inputOfNumber s.inputPart p = .of .badLength [] := by
  cases p with
  | nil => rfl
  | cons b rest => simp [refusedLength, inputOfNumber_byte_eq_none (h b rfl)]

theorem handleInterlockConfig_unnamed (s : State) {p : List Byte} (h : ∀ b, p.head? = some b → b = 0 ∨ 8 < b.toNat) :
    handleInterlockConfig p s =
      (s, if p.length = 1 ∨ p.length = 4 then { status := .badValue, detail := [1], body := [] }
        else .of .badLength []) := by
  have hrefused := refusedLength_noInput s h
  match p with
  | [] | [_, _] | [_, _, _] | _ :: _ :: _ :: _ :: _ :: _ => simp [handleInterlockConfig, hrefused]
  | [b] | [b, _, _, _] =>
    simp only [handleInterlockConfig, inputOfNumber_byte_eq_none (h b rfl)]
    rfl

end

/-! ### An input judged once under its new settings (R145, R150) -/

section
variable {s : State} {i : Input} {x : InputSettings}

/-- R150: the settings of an input replaced. -/
def State.withInput (s : State) (i : Input) (x : InputSettings) : State :=
  { s with settings := { s.settings with interlocks := s.settings.interlocks.set i x } }

theorem State.withInput_get (s : State) (i : Input) (x : InputSettings) :
    (s.withInput i x).settings.interlocks.get i = x := inputs_get_set_self _ _ _

theorem State.withInput_level (s : State) (i : Input) (x : InputSettings) : (s.withInput i x).inputLevel i = x.level :=
  congrArg InputSettings.level (s.withInput_get i x)

theorem State.withInput_sameBut (s : State) (i : Input) (x : InputSettings) : s.SameBut (s.withInput i x) i :=
  fun _ hj => ⟨rfl, congrArg InputSettings.level (inputs_get_set_ne _ _ _ _ hj)⟩

/-- R143: an input is judged under some settings, and does not conform with them. -/
abbrev State.JudgedOut (s : State) (i : Input) (y : InputSettings) : Prop :=
  (if i = .fanRun then s.fans.compareActive else y.compare) = true ∧ 1 ≤ y.level ∧
    (s.input i).live ≠ (if i = .fanRun then s.fans.expectRunning else y.expectedClosed)

theorem State.judgedOut_iff (hr : s.ready = true) :
    s.JudgedOut i (s.settings.interlocks.get i) ↔ s.judged i = true ∧ s.conforms i = false := by
  have hcompares : s.comparisonActive i =
      if i = .fanRun then s.fans.compareActive else (s.settings.interlocks.get i).compare := by
    split
    · rename_i hi; rw [hi]; rfl
    · rw [State.comparisonActive_of_ne ‹_›, hr, Bool.true_and]
  rw [State.JudgedOut, State.judged, State.conforms, hcompares, s.expectedClosed_eq, Bool.and_eq_true, decide_eq_true_eq,
    beq_eq_false_iff_ne, and_assoc]
  rfl

/-- R145: the input trips when its settings are replaced. -/
abbrev State.TripsAs (s : State) (i : Input) (x : InputSettings) : Prop :=
  s.JudgedOut i x ∧ ¬ s.JudgedOut i (s.settings.interlocks.get i)

theorem State.withInput_judgeTrip (hr : s.ready = true) :
    (s.withInput i x).judgeTrip i (s.conforms i) (s.judged i) =
      if s.TripsAs i x then (s.withInput i x).trip i else s.withInput i x := by
  have hnow : s.JudgedOut i x ↔ (s.withInput i x).judged i = true ∧ (s.withInput i x).conforms i = false := by
    rw [← State.judgedOut_iff (s := s.withInput i x) hr, State.withInput_get]; rfl
  refine if_congr ?_ rfl rfl
  rw [State.TripsAs, hnow, State.judgedOut_iff hr]
  cases s.judged i <;> cases s.conforms i <;> simp

/-- R147, R150: what is signalled: a latch so set, and a new level of a latch already set. -/
abbrev State.SignalsAs (s : State) (i : Input) (x : InputSettings) : Prop :=
  s.TripsAs i x ∧ (s.input i).latch = false ∨
    (s.input i).latch = true ∧ x.level ≠ (s.settings.interlocks.get i).level

/-- R150, R146: the settings replaced, and the trip they bring recorded, before the signal. -/
def State.judgedAs (s : State) (i : Input) (x : InputSettings) : State :=
  { s.withInput i x with
    interlocks :=
      if s.TripsAs i x ∧ (s.input i).latch = false then
        s.interlocks.set i { s.input i with latch := true, trippedAt := some s.clock.minute }
      else s.interlocks
    notices := noticesAfter s (if s.TripsAs i x then [(.interlockTripped, i.number, x.level)] else []) }

theorem State.judgedAs_of_trips (h : s.TripsAs i x) : s.judgedAs i x = (s.withInput i x).tripRecorded i := by
  rw [State.judgedAs, State.tripRecorded, State.withInput_level, if_pos h]
  cases hl : (s.input i).latch with
  | false => rw [if_pos ⟨h, rfl⟩, if_neg (by exact Bool.eq_false_iff.1 hl)]; rfl
  | true => rw [if_neg (by simp), if_pos (by exact hl)]; rfl

theorem State.judgedAs_of_calm (h : ¬ s.TripsAs i x) : s.judgedAs i x = s.withInput i x := by
  rw [State.judgedAs, if_neg h, if_neg fun hboth => h hboth.1]
  rfl

theorem State.judgedAs_latch : ((s.judgedAs i x).input i).latch = true ↔ (s.input i).latch = true ∨ s.TripsAs i x := by
  by_cases h : s.TripsAs i x
  · rw [State.judgedAs_of_trips h]
    exact ⟨fun _ => .inr h, fun _ => State.tripRecorded_latch _ i⟩
  · rw [State.judgedAs_of_calm h]
    exact ⟨.inl, fun hl => hl.resolve_right h⟩

theorem State.judgedAs_sameBut : s.SameBut (s.judgedAs i x) i := by
  by_cases h : s.TripsAs i x
  · rw [State.judgedAs_of_trips h]
    intro j hj
    obtain ⟨hl, hv⟩ := (s.withInput i x).tripRecorded_sameBut i j hj
    obtain ⟨hl', hv'⟩ := s.withInput_sameBut i x j hj
    exact ⟨hl.trans hl', hv.trans hv'⟩
  · rw [State.judgedAs_of_calm h]
    exact s.withInput_sameBut i x

/-- R98: the level-2 latches, with the input's at its new level. -/
theorem State.judgedAs_anyLatch :
    (s.judgedAs i x).anyLatchOfLevel 2 = true ↔
      x.level = 2 ∧ ((s.input i).latch = true ∨ s.TripsAs i x) ∨
        ∃ j, j ≠ i ∧ (s.input j).latch = true ∧ s.inputLevel j = 2 := by
  have hlevel : (s.judgedAs i x).inputLevel i = x.level := s.withInput_level i x
  rw [State.judgedAs_sameBut.anyLatchOfLevel_iff, hlevel, State.judgedAs_latch]

/-- R101: what is signalled is a set latch: at level 3 it brings SAFE to a run that goes. -/
theorem State.judgedAs_bringsSafe (h : s.SignalsAs i x) :
    (s.judgedAs i x).latchBringsSafe i = true ↔ x.level = 3 ∧ s.run.state.going = true := by
  have hlevel : (s.judgedAs i x).inputLevel i = x.level := s.withInput_level i x
  have hset : ((s.judgedAs i x).input i).latch = true :=
    State.judgedAs_latch.2 (h.elim (fun htrips => .inr htrips.1) fun hlatch => .inl hlatch.1)
  rw [State.latchBringsSafe_iff, hlevel]
  exact and_congr_left' ⟨fun hboth => hboth.2, fun h3 => ⟨hset, h3⟩⟩

theorem State.judgedAs_noticesAfter (ys : List (NoticeKind × Nat × Nat)) :
    noticesAfter (s.judgedAs i x) ys =
      noticesAfter s ((if s.TripsAs i x then [(.interlockTripped, i.number, x.level)] else []) ++ ys) :=
  noticesAfter_append (s := s) (t := s.judgedAs i x) rfl rfl ys

/-- R146, R147, R150: but where FAN_RUN sets its latch, the Run Controller alone takes what is signalled. -/
theorem State.configureInput_eq (hr : s.ready = true)
    (hfan : ¬ (i = .fanRun ∧ s.TripsAs i x ∧ (s.input i).latch = false)) :
    s.configureInput i x =
      if s.SignalsAs i x then (s.judgedAs i x).runOnLatchSignal i else s.judgedAs i x := by
  have hconfigure : s.configureInput i x =
      if (s.input i).latch && decide (x.level ≠ s.inputLevel i) then
        ((s.withInput i x).judgeTrip i (s.conforms i) (s.judged i)).runOnLatchSignal i
      else (s.withInput i x).judgeTrip i (s.conforms i) (s.judged i) := rfl
  rw [hconfigure, State.withInput_judgeTrip hr]
  by_cases hl : (s.input i).latch = true
  · have hjudged : (if s.TripsAs i x then (s.withInput i x).trip i else s.withInput i x) = s.judgedAs i x := by
      split
      · rename_i ht; rw [State.trip_of_set (by exact hl), State.judgedAs_of_trips ht]
      · rename_i ht; rw [State.judgedAs_of_calm ht]
    rw [hjudged]
    refine if_congr ?_ rfl rfl
    rw [hl, Bool.true_and, decide_eq_true_eq]
    exact ⟨fun hlevel => .inr ⟨hl, hlevel⟩, fun hs => hs.elim (fun h => absurd (hl.symm.trans h.2) (by simp)) (·.2)⟩
  · have hclear : (s.input i).latch = false := Bool.eq_false_iff.2 hl
    rw [if_neg (by simp [hclear])]
    by_cases ht : s.TripsAs i x
    · have hi : i ≠ .fanRun := fun hi => hfan ⟨hi, ht, hclear⟩
      rw [if_pos ht, State.trip_of_clear hi (by exact hclear), ← State.judgedAs_of_trips ht, if_pos (.inl ⟨ht, hclear⟩)]
    · rw [if_neg ht, ← State.judgedAs_of_calm ht, if_neg fun hs => hs.elim (fun h => ht h.1) fun h => hl h.1]

/-! ### What the write leaves (R150) -/

/-- R101: the write puts the run into SAFE. -/
abbrev State.SafeAs (s : State) (i : Input) (x : InputSettings) : Prop :=
  s.SignalsAs i x ∧ x.level = 3 ∧ s.run.state.going = true

/-- R145 to R147, R150: the settings replaced, the input judged once, and the signal taken by the run. -/
def InputConfigured (s t : State) (i : Input) (x : InputSettings) (notices : List (NoticeKind × Nat × Nat)) : Prop :=
  (¬ s.SignalsAs i x → t.run = s.run ∧ notices = []) ∧
  (s.SignalsAs i x →
    ReasonJudged (if s.SafeAs i x then { s.run with state := .safe, inBand := false } else s.run) .interlock 5
      (x.level = 2 ∧ ((s.input i).latch = true ∨ s.TripsAs i x) ∨
        ∃ j, j ≠ i ∧ (s.input j).latch = true ∧ s.inputLevel j = 2)
      t.run notices) ∧
  t =
    { s with
      settings := { s.settings with interlocks := s.settings.interlocks.set i x }
      run := t.run, fans := t.fans, outputs := t.outputs, memory := t.memory, link := t.link
      interlocks :=
        if s.TripsAs i x ∧ (s.input i).latch = false then
          s.interlocks.set i { s.input i with latch := true, trippedAt := some s.clock.minute }
        else s.interlocks
      notices :=
        noticesAfter s
          ((if s.TripsAs i x then [(.interlockTripped, i.number, x.level)] else []) ++
            (if s.SafeAs i x then [(.runSafe, i.number, 0)] else []) ++ notices) } ∧
  (¬ s.SafeAs i x → t.fans = s.fans ∧ t.outputs = s.outputs) ∧
  (s.SafeAs i x → s.ValvesSound → t.AllValvesForced ∧ t.fans.state = .stopped) ∧
  (t.run.state = s.run.state → t.memory = s.memory) ∧ (t.run.state ≠ s.run.state → AsksCheckpoint s t)

theorem InputConfigured.withLink {t : State} {notices : List (NoticeKind × Nat × Nat)}
    (h : InputConfigured s t i x notices) (link : Link) : InputConfigured s { t with link } i x notices := by
  obtain ⟨hcalm, hjudged, hblocks, hkeeps, hstops, hmemory, hasks⟩ := h
  refine ⟨hcalm, hjudged, ?_, hkeeps, hstops, hmemory, hasks⟩
  exact congrArg (fun u : State => ({ u with link } : State)) hblocks

theorem State.judgedAs_configured (hs : ¬ s.SignalsAs i x) : InputConfigured s (s.judgedAs i x) i x [] := by
  have hsafe : ¬ s.SafeAs i x := fun h => hs h.1
  refine ⟨fun _ => ⟨rfl, rfl⟩, fun h => absurd h hs, ?_, fun _ => ⟨rfl, rfl⟩, fun h => absurd h hsafe, fun _ => rfl,
    fun h => absurd rfl h⟩
  rw [if_neg hsafe, List.append_nil, List.append_nil]
  rfl

theorem State.signal_configured (hd : s.due = .none) (hs : s.SignalsAs i x) :
    ∃ notices, InputConfigured s ((s.judgedAs i x).runOnLatchSignal i).finishEvent i x notices := by
  obtain ⟨u, hu⟩ : ∃ u, u = s.judgedAs i x := ⟨_, rfl⟩
  have hsafe : u.latchBringsSafe i = true ↔ s.SafeAs i x := by
    rw [hu, State.judgedAs_bringsSafe hs]
    exact ⟨fun h => ⟨hs, h⟩, fun h => h.2⟩
  obtain ⟨notices, hjudged, hqueue⟩ := u.runOnLatchSignal_judged i
  obtain ⟨hblocks, hmemory, hasks⟩ :=
    u.runOnLatchSignal_finishEvent i hd (by rw [hu]; rfl) (by rw [hu]; rfl) (by rw [hu]; rfl)
  have hrun : (u.runOnLatchSignal i).finishEvent.run = (u.runOnLatchSignal i).run := by simp
  have hfans : (u.runOnLatchSignal i).finishEvent.fans = (u.runOnLatchSignal i).fans := by simp
  have houtputs : (u.runOnLatchSignal i).finishEvent.outputs = (u.runOnLatchSignal i).outputs := by simp
  rw [← hu]
  refine ⟨notices, fun h => absurd hs h, fun _ => ?_, State.eq_of_blocks ?_, fun h => ?_, fun h hv => ?_,
    hrun ▸ hmemory, hrun ▸ hasks⟩
  · rw [hrun, ← State.judgedAs_anyLatch, ← hu, ← if_congr hsafe rfl rfl]
    subst hu
    exact hjudged
  · have hdue : (u.runOnLatchSignal i).finishEvent.due = s.due := by rw [hblocks]
    have hnotices : (u.runOnLatchSignal i).notices =
        noticesAfter s ((if s.TripsAs i x then [(.interlockTripped, i.number, x.level)] else []) ++
          (if s.SafeAs i x then [(.runSafe, i.number, 0)] else []) ++ notices) := by
      rw [hqueue, safeNotices, if_congr hsafe rfl rfl, hu, State.judgedAs_noticesAfter, List.append_assoc]
    simp [hdue, hnotices]
    simp [hu, State.judgedAs, State.withInput]
  · obtain ⟨hf, ho⟩ := u.runOnLatchSignal_kept i (Bool.eq_false_iff.2 fun hb => h (hsafe.1 hb))
    rw [hfans, houtputs, hf, ho, hu]
    exact ⟨rfl, rfl⟩
  · obtain ⟨hf, ho⟩ := u.runOnLatchSignal_stops i (hsafe.2 h)
    have hsound : u.ValvesSound := by rw [hu]; exact hv
    refine ⟨(hsound.enterSafe i).congr (houtputs.trans ho), ?_⟩
    rw [hfans, hf]
    rfl

end

/-! ### The request served -/

section
variable {s : State} {i : Input}

theorem State.inputPart_congr {t : State} (hs : t.settings = s.settings) (hf : t.fans = s.fans)
    (hi : t.interlocks = s.interlocks) (hr : t.ready = s.ready) : t.inputPart i = s.inputPart i := by
  have hclosed : t.expectedClosed i = s.expectedClosed i := by rw [State.expectedClosed_eq, State.expectedClosed_eq, hs, hf]
  have hactive : t.comparisonActive i = s.comparisonActive i := by
    cases i <;> simp only [State.comparisonActive, hs, hf, hr]
  simp only [State.inputPart, State.comparisonCode, State.conforms, State.judged, State.input, State.inputLevel, hclosed,
    hactive, hs, hi]
  rfl

/-- R150: the write served, with the input as it then stands. -/
theorem interlockConfig_served {tag expected compare level : Byte} (h : s.Receptive)
    (hok : firstBad (interlockChecks i expected.toNat compare.toNat level.toNat) = none) :
    ∃ t, Served (.interlockConfig tag [BitVec.ofNat 8 i.number, expected, compare, level]) s t (.of .ok (t.inputPart i)) ∧
      t = { (s.configureInput i (s.inputWritten i expected compare level)).finishEvent with link := t.link } := by
  obtain ⟨u, hu⟩ : ∃ u, u = s.configureInput i (s.inputWritten i expected compare level) := ⟨_, rfl⟩
  have hhandled := handleInterlockConfig_write (s := s) hok
  rw [← hu] at hhandled ⊢
  have hserved := served_of_handled (c := .interlockConfig tag _) h rfl (by simp) rfl hhandled (by rw [hu]; simp)
  rw [State.finishEvent_of_answer] at hserved
  obtain ⟨t, ht⟩ : ∃ t : State, t =
      { u.finishEvent with link := (u.answer 0x38 tag (.of .ok (u.inputPart i))).link } := ⟨_, rfl⟩
  have hpart : t.inputPart i = u.inputPart i :=
    State.inputPart_congr (by simp [ht]) (by simp [ht]) (by simp [ht]) (by simp [ht])
  rw [← ht, ← hpart] at hserved
  exact ⟨t, hserved, by rw [ht]⟩

section
variable {tag expected compare level : Byte} {x : InputSettings} (h : s.Receptive)
  (hok : firstBad (interlockChecks i expected.toNat compare.toNat level.toNat) = none)
  (hx : s.inputWritten i expected compare level = x)
include h hok hx

/-- R150: the write of an input whose trip, if any, the Run Controller alone takes. -/
theorem interlockConfig_configures (hfan : ¬ (i = .fanRun ∧ s.TripsAs i x ∧ (s.input i).latch = false)) :
    ∃ t notices, Served (.interlockConfig tag [BitVec.ofNat 8 i.number, expected, compare, level]) s t
        (.of .ok (t.inputPart i)) ∧
      InputConfigured s t i x notices := by
  obtain ⟨t, hserved, ht⟩ := interlockConfig_served (tag := tag) h hok
  rw [hx, State.configureInput_eq h.2.1 hfan] at ht
  have hconfigured : ∃ notices, InputConfigured s t i x notices := by
    rw [ht]
    split
    · obtain ⟨notices, hsignal⟩ := State.signal_configured h.1.due_none ‹_›
      exact ⟨notices, hsignal.withLink t.link⟩
    · rw [State.finishEvent_of_due_none _ (by exact h.1.due_none)]
      exact ⟨[], (State.judgedAs_configured ‹_›).withLink t.link⟩
  obtain ⟨notices, hconfigured⟩ := hconfigured
  exact ⟨t, notices, hserved, hconfigured⟩

/-- R150, R145, R146: FAN_RUN of running fans that read stopped trips when its level leaves 0. -/
theorem interlockConfig_fanRunTrips (hi : i = .fanRun) (hf : s.fans.state.isRunning = true)
    (hlatch : (s.input i).latch = false) (hlive : (s.input i).live = false)
    (hold : (s.settings.interlocks.get i).level = 0) (hlevel : 1 ≤ x.level) (ha : s.fans.Agrees) (hagrees : s.InterlockAgrees)
    (hv : s.ValvesSound) :
    ∃ t u, Served (.interlockConfig tag [BitVec.ofNat 8 i.number, expected, compare, level]) s t
        (.of .ok (t.inputPart i)) ∧
      t = { u with link := t.link } ∧
      FanRunTrips (s.withInput i x) u (if s.fans.state = .runningFwd then 2 else 3) := by
  obtain ⟨t, hserved, ht⟩ := interlockConfig_served (tag := tag) h hok
  subst hi
  obtain ⟨hexpect, hactive⟩ := ha.of_running hf
  have htrips : s.TripsAs .fanRun x :=
    ⟨⟨hactive, hlevel, by simp [hlive, hexpect]⟩, fun ⟨_, hbefore, _⟩ => by omega⟩
  have hconfigure : s.configureInput .fanRun x = (s.withInput .fanRun x).trip .fanRun := by
    have hjudged : (s.withInput .fanRun x).judgeTrip .fanRun (s.conforms .fanRun) (s.judged .fanRun) =
        (s.withInput .fanRun x).trip .fanRun := (State.withInput_judgeTrip h.2.1).trans (if_pos htrips)
    rw [← hjudged]
    exact if_neg (by simp [hlatch])
  have hstill : (s.withInput .fanRun x).InterlockAgrees := fun hp =>
    (hagrees hp).trans ((s.withInput_sameBut .fanRun x).anyLatchOfLevel (.inr hlatch) (.inr hlatch)).symm
  rw [hx, hconfigure] at ht
  rw [← FanState.leftCode_of_running hf]
  exact ⟨t, _, hserved, ht, State.trip_fanRun_trips (s := s.withInput .fanRun x) (FanState.driven_of_running hf) hlive
    hlatch hv hstill h.1.due_none⟩

end

theorem interlockConfig_refused {tag : Byte} {payload : List Byte} {r : Reply} (h : s.Receptive)
    (hr : handleInterlockConfig payload s = (s, r)) : ServedUnchanged (.interlockConfig tag payload) s r :=
  servedUnchanged_of_handled (c := .interlockConfig tag payload) h rfl (by simp) rfl hr

end

/-- Settles O51: the checks by the input, and an accepted write by whether FAN_RUN sets its latch. -/
theorem interlockConfigJudgesTheInput : Obligations.InterlockConfigJudgesTheInput := by
  unfold Obligations.InterlockConfigJudgesTheInput
  intro s tag expected compare level i h c old r x judgedOut trips signalled safe level2 settings refuses accepted
  have hone (b : Byte) : b = 1 ↔ b.toNat = 1 := BitVec.toNat_inj.symm
  have hthree : level = 3 ↔ level.toNat = 3 := BitVec.toNat_inj.symm
  have hx : s.inputWritten i expected compare level = x := by
    rw [State.inputWritten, interlockWrite_eq]
    simp only [x, hone]
    rfl
  have haccepted (hok : firstBad (interlockChecks i expected.toNat compare.toNat level.toNat) = none) : accepted :=
    ⟨interlockConfig_configures h hok hx, fun hi hf hlatch hlive hold hlevel ha hagrees hv _ =>
      interlockConfig_fanRunTrips h hok hx hi hf hlatch hlive hold hlevel ha hagrees hv⟩
  have hrefused {field : Nat}
      (hbad : firstBad (interlockChecks i expected.toNat compare.toNat level.toNat) = some field) :
      refuses (BitVec.ofNat 8 field) :=
    interlockConfig_refused h (handleInterlockConfig_badField hbad)
  refine ⟨fun hf he => ?_, fun he => ?_, fun hf => ?_, fun rest h0 h3 => ?_, fun p hp => ?_⟩
  · have hchecks := interlockChecks_plain (expected := expected.toNat) (compare := compare.toNat) (level := level.toNat)
      hf he
    refine ⟨fun h2 => hrefused (hchecks.trans (if_pos h2)), fun h2 h3 => hrefused ?_, fun h2 h3 h4 => hrefused ?_,
      fun h2 h3 h4 => haccepted ?_⟩
    · rw [hchecks, if_neg (Nat.not_lt.2 h2), if_pos h3]
    · rw [hchecks, if_neg (Nat.not_lt.2 h2), if_neg (Nat.not_lt.2 h3), if_pos h4]
    · rw [hchecks, if_neg (Nat.not_lt.2 h2), if_neg (Nat.not_lt.2 h3), if_neg (Nat.not_lt.2 h4)]
  · subst he
    have hchecks := interlockChecks_estop (expected := expected.toNat) (compare := compare.toNat) (level := level.toNat)
    simp only [ne_eq, ← hone, ← hthree] at hchecks
    refine ⟨fun h2 => hrefused (hchecks.trans (if_pos h2)), fun h2 h3 => hrefused ?_, fun h2 h3 h4 => hrefused ?_,
      fun h2 h3 h4 => haccepted ?_⟩
    · rw [hchecks, if_neg (not_not.2 h2), if_pos h3]
    · rw [hchecks, if_neg (not_not.2 h2), if_neg (not_not.2 h3), if_pos h4]
    · rw [hchecks, if_neg (not_not.2 h2), if_neg (not_not.2 h3), if_neg (not_not.2 h4)]
  · subst hf
    have hchecks := interlockChecks_fanRun (expected := expected.toNat) (compare := compare.toNat) (level := level.toNat)
    exact ⟨fun h4 => hrefused (hchecks.trans (if_pos h4)),
      fun h4 => haccepted (hchecks.trans (if_neg (Nat.not_lt.2 h4)))⟩
  · exact interlockConfig_refused h (handleInterlockConfig_badLength s i h0 h3)
  · exact interlockConfig_refused h (handleInterlockConfig_unnamed s hp)

end Sys2Proof.Machine
end

section
/-! SUPPORT. The Notice Queue (R159), and the handlers of HISTORY_READ, NOTICE_FETCH, SETTINGS_SAVE and RESTART_PART
(R156, R160, R176, R177): what each answers to an empty payload and to any other. -/

namespace Sys2Proof.Machine

/-! ### The queue (R159) -/

theorem pushNotice_of_room {queue : List Notice} (h : queue.length < 32) (n : Notice) :
    pushNotice queue n = queue ++ [n] := if_pos h

/-- R159: a full queue loses its oldest notice, and the one that is then oldest is marked. -/
theorem pushNotice_of_full {oldest next : Notice} {rest : List Notice} (h : (oldest :: next :: rest).length = 32)
    (n : Notice) : pushNotice (oldest :: next :: rest) n = { next with lostBefore := true } :: rest ++ [n] := by
  rw [pushNotice, if_neg (Nat.not_lt.2 h.ge)]
  rfl

/-! ### The save slot (R175, R176) -/

theorem Memory.saveBusy_iff (m : Memory) :
    m.saveBusy = true ↔ m.pendingSave.isSome = true ∨ ∃ i, m.op = .saveWrite i := by
  cases h : m.op <;> simp [Memory.saveBusy, h]

theorem Memory.requestSave_of_idle {m : Memory} (h : m.op = .none) (i : Image) :
    m.requestSave i = { m with op := .saveWrite i } := by
  simp only [Memory.requestSave, h]

theorem Memory.requestSave_of_inFlight {m : Memory} (h : m.op ≠ .none) (i : Image) :
    m.requestSave i = { m with pendingSave := some i } := by
  cases hop : m.op with
  | none => exact absurd hop h
  | load | checkpointWrite _ _ | saveWrite _ => simp only [Memory.requestSave, hop]

/-! ### The handlers -/

section
variable {s : State}

theorem handleHistoryRead_frame {f : Frame} {rest : List Frame} (h : s.history.frames = f :: rest) :
    handleHistoryRead [] s =
      ({ s with history := { s.history with frames := rest } },
        .of .ok (BitVec.ofNat 8 rest.length :: flag1 s.history.slip ++ f.bytes)) := by
  simp only [handleHistoryRead, h]
  rfl

theorem handleHistoryRead_empty (h : s.history.frames = []) :
    handleHistoryRead [] s = (s, .of .empty (0 :: flag1 s.history.slip)) := by
  simp only [handleHistoryRead, h]
  rfl

/-- R160: the count of a fetch is the pending count, four at most. -/
theorem handleNoticeFetch_some (h : s.notices ≠ []) :
    handleNoticeFetch [] s =
      ({ s with notices := s.notices.drop 4 },
        .of .ok (BitVec.ofNat 8 (min 4 s.notices.length) :: (s.notices.take 4).flatMap Notice.bytes)) := by
  rw [← List.length_take]
  cases hn : s.notices with
  | nil => exact absurd hn h
  | cons n rest => simp only [handleNoticeFetch, hn]; rfl

theorem handleNoticeFetch_empty (h : s.notices = []) : handleNoticeFetch [] s = (s, .of .empty []) := by
  simp only [handleNoticeFetch, h]
  rfl

theorem handleSettingsSave_busy (h : s.memory.saveBusy = true) : handleSettingsSave [] s = (s, .of .busy []) :=
  if_pos h

theorem handleSettingsSave_free (h : ¬ s.memory.saveBusy = true) :
    handleSettingsSave [] s = ({ s with memory := s.memory.requestSave s.imageNow }, .of .ok []) :=
  if_neg h

variable (s) {p : List Byte} (hp : p ≠ [])
include hp

theorem handleHistoryRead_badLength : handleHistoryRead p s = (s, .of .badLength []) := by
  obtain ⟨_, _, rfl⟩ := List.exists_cons_of_ne_nil hp
  rfl

theorem handleNoticeFetch_badLength : handleNoticeFetch p s = (s, .of .badLength []) := by
  obtain ⟨_, _, rfl⟩ := List.exists_cons_of_ne_nil hp
  rfl

theorem handleSettingsSave_badLength : handleSettingsSave p s = (s, .of .badLength []) := by
  obtain ⟨_, _, rfl⟩ := List.exists_cons_of_ne_nil hp
  rfl

theorem handleRestartPart_badLength : handleRestartPart p s = (s, .of .badLength []) := by
  obtain ⟨_, _, rfl⟩ := List.exists_cons_of_ne_nil hp
  rfl

end

/-! ### The served requests -/

section
variable {s : State} {tag : Byte} (h : s.Receptive)
include h

/-- A request whose handler leaves the link and the work due to the reply leaves what its handler makes of the part. -/
theorem served_of_handled_quiet {c : Instr} {u : State} {kind : Byte} {payload : List Byte} {r : Reply}
    {f : List Byte → State → State × Reply} (hc : requestOf c = some (kind, tag, payload))
    (hk : ∀ k t p, c ≠ .unknownRequest k t p) (hf : handlerOf kind.toNat = some f) (hu : f payload s = (u, r))
    (hl : u.link = s.link) (hd : u.due = s.due) : ∃ t, Served c s t r ∧ t = { u with link := t.link } := by
  have hserved := served_of_handled h hc hk hf hu hl
  rw [State.finishEvent_answer (hd.trans h.1.due_none)] at hserved
  exact ⟨_, hserved, rfl⟩

/-- R176: a save that is not BUSY is handed to the Settings Memory Controller. -/
theorem settingsSave_served (hfree : ¬ s.memory.saveBusy = true) {m : Memory}
    (hm : s.memory.requestSave s.imageNow = m) :
    ∃ t, Served (.settingsSave tag []) s t (.of .ok []) ∧ t = { s with memory := m, link := t.link } := by
  subst hm
  exact served_of_handled_quiet (c := .settingsSave tag []) h rfl (by simp) rfl (handleSettingsSave_free hfree) rfl rfl

/-- R165, R177: RESTART_PART is answered, and the restart waits for the end of the reply. -/
theorem restartPart_answered :
    exec (.restartPart tag []) s =
      .next (({ s with link := { s.link with restart := true } } : State).answer 0x4A tag (.of .ok [])) := by
  rw [exec_eq_requestEvent (c := .restartPart tag []) rfl (by simp), s.request_event h 0x4A tag [] handleRestartPart rfl]
  exact congrArg Host.Outcome.next (State.finishEvent_answer (by exact h.1.due_none) 0x4A tag _)

end

end Sys2Proof.Machine
end

section
/-! QueueAndMemoryRequests. -/

namespace Sys2Proof.Machine

/-- Settles O53: the queue with room and full, and each of the four requests by what its owner holds. -/
theorem queueAndMemoryRequests : Obligations.QueueAndMemoryRequests := by
  unfold Obligations.QueueAndMemoryRequests
  refine ⟨fun queue n => ⟨fun hroom => pushNotice_of_room hroom n, ?_⟩, fun s tag h => ?_⟩
  · rintro oldest next rest rfl hfull
    exact pushNotice_of_full hfull n
  refine ⟨fun f rest hframes => ?_, fun hframes => ?_, fun hnotices => ?_, fun hnotices => ?_, ?_, ?_, fun p hp => ?_⟩
  · exact served_of_handled_quiet (c := .historyRead tag []) h rfl (by simp) rfl (handleHistoryRead_frame hframes) rfl rfl
  · exact servedUnchanged_of_handled (c := .historyRead tag []) h rfl (by simp) rfl (handleHistoryRead_empty hframes)
  · exact served_of_handled_quiet (c := .noticeFetch tag []) h rfl (by simp) rfl (handleNoticeFetch_some hnotices) rfl rfl
  · exact servedUnchanged_of_handled (c := .noticeFetch tag []) h rfl (by simp) rfl (handleNoticeFetch_empty hnotices)
  · intro busy image
    have hbusy : s.memory.saveBusy = true ↔ busy := s.memory.saveBusy_iff
    refine ⟨fun hb => ?_, fun hb hop => ?_, fun hb hop => ?_⟩
    · exact servedUnchanged_of_handled (c := .settingsSave tag []) h rfl (by simp) rfl
        (handleSettingsSave_busy (hbusy.2 hb))
    · exact settingsSave_served h (mt hbusy.1 hb) (Memory.requestSave_of_idle hop s.imageNow)
    · exact settingsSave_served h (mt hbusy.1 hb) (Memory.requestSave_of_inFlight hop s.imageNow)
  · exact ⟨_, restartPart_answered h, rfl, rfl⟩
  · exact ⟨servedUnchanged_of_handled (c := .historyRead tag p) h rfl (by simp) rfl (handleHistoryRead_badLength s hp),
      servedUnchanged_of_handled (c := .noticeFetch tag p) h rfl (by simp) rfl (handleNoticeFetch_badLength s hp),
      servedUnchanged_of_handled (c := .settingsSave tag p) h rfl (by simp) rfl (handleSettingsSave_badLength s hp),
      servedUnchanged_of_handled (c := .restartPart tag p) h rfl (by simp) rfl (handleRestartPart_badLength s hp)⟩

end Sys2Proof.Machine
end

section
/-! SUPPORT. The receiver (R163 to R165): what each character and each event of the line does in each of its states, and
what they leave to the next event. -/

namespace Sys2Proof.Machine

section
variable {s : State}

/-! ### The receiver's state replaced -/

theorem State.setReceiver_of_receiver {r : Receiver} (h : s.link.receiver = r) : s.setReceiver r = s := by
  subst h; rfl

/-- R165, R177: while the part is not ANSWERING, no restart waits in an awake part. -/
theorem State.Awake.restart_eq_false (h : s.Awake) (hr : s.link.receiver ≠ .answering) : s.link.restart = false := by
  obtain ⟨-, -, -, -, -, -, hdue⟩ := h
  simpa [State.restartIsDue, hr] using hdue

/-- With no restart waiting, nothing is due for the receiver. -/
theorem State.Awake.setReceiver (h : s.Awake) (hr : s.link.restart = false) (r : Receiver) : (s.setReceiver r).Awake := by
  obtain ⟨hpowered, hdue, hcoast, hconfirm, hscan, hreversal, -⟩ := h
  exact ⟨hpowered, hdue, hcoast, hconfirm, hscan, hreversal, by simp [State.restartIsDue, State.setReceiver, hr]⟩

/-! ### The table of R163 -/

section
variable {a length high b : Byte} {bytes : List Byte}

theorem State.receiveByte_of_hunt (h : s.link.receiver = .hunt) :
    s.receiveByte b = s.setReceiver (if b = 0xC3 then .address else .hunt) := by
  simp only [State.receiveByte, h]
  by_cases hb : b = 0xC3
  · exact (if_pos hb).trans (by rw [if_pos hb])
  · exact (if_neg hb).trans (by rw [if_neg hb, State.setReceiver_of_receiver h])

theorem State.receiveByte_of_address (h : s.link.receiver = .address) : s.receiveByte b = s.setReceiver (.length b) := by
  simp only [State.receiveByte, h]

theorem State.receiveByte_of_length (h : s.link.receiver = .length a) :
    s.receiveByte b = s.setReceiver (afterLength s.linkAddress a b) := by
  simp only [State.receiveByte, h]

theorem State.receiveByte_of_body (h : s.link.receiver = .body a length bytes) :
    s.receiveByte b = s.setReceiver (afterBody a length (bytes ++ [b])) := by
  simp only [State.receiveByte, h]

theorem State.receiveByte_of_crcHigh (h : s.link.receiver = .crc a length bytes none) :
    s.receiveByte b = s.setReceiver (.crc a length bytes (some b)) := by
  simp only [State.receiveByte, h]

theorem State.receiveByte_of_skip {n : Nat} (h : s.link.receiver = .skip n) :
    s.receiveByte b = s.setReceiver (afterSkipped n) := by
  simp only [State.receiveByte, h]

theorem State.receiveByte_of_answering (h : s.link.receiver = .answering) : s.receiveByte b = s := by
  simp only [State.receiveByte, h]

/-- R164: the CRC of the covered bytes is not that of the two CRC bytes. -/
theorem crcAgrees_eq_false {covered : List Byte} (h : crcBytes (crcOf covered) ≠ [high, b]) :
    crcAgrees covered high b = false := beq_eq_false_iff_ne.2 h

theorem State.receiveByte_of_badCrc (h : s.link.receiver = .crc a length bytes (some high))
    (hcrc : crcBytes (crcOf (a :: length :: bytes)) ≠ [high, b]) : s.receiveByte b = s.setReceiver .hunt := by
  simp only [State.receiveByte, h, State.judgeFrame, crcAgrees_eq_false hcrc]
  rfl

/-! ### The receiver's next states -/

theorem lengthInvalid_eq_true (h : b.toNat < 2 ∨ 250 < b.toNat) : lengthInvalid b = true := by
  simpa [lengthInvalid] using h

theorem lengthInvalid_eq_false (h2 : 2 ≤ b.toNat) (h250 : b.toNat ≤ 250) : lengthInvalid b = false := by
  simp only [lengthInvalid, Bool.or_eq_false_iff, decide_eq_false_iff_not]
  omega

theorem afterLength_of_invalid (h : b.toNat < 2 ∨ 250 < b.toNat) (n : Nat) : afterLength n a b = .hunt :=
  if_pos (lengthInvalid_eq_true h)

theorem afterLength_of_valid (h2 : 2 ≤ b.toNat) (h250 : b.toNat ≤ 250) (n : Nat) :
    afterLength n a b = if a.toNat = n then .body a b [] else .skip (b.toNat + 2) := by
  simp [afterLength, lengthInvalid_eq_false h2 h250]

theorem afterBody_append (a length b : Byte) (bytes : List Byte) :
    afterBody a length (bytes ++ [b]) =
      if bytes.length + 1 < length.toNat then .body a length (bytes ++ [b])
      else .crc a length (bytes ++ [b]) none := by
  simp only [afterBody, List.length_append, List.length_singleton]

/-! ### The line's own events -/

/-- R163: a gap ends every partial frame, and HUNT stays HUNT. -/
theorem State.gap_of_ne_answering (h : s.link.receiver ≠ .answering) : s.gap = s.setReceiver .hunt := by
  cases hr : s.link.receiver with
  | answering => exact absurd hr h
  | hunt => simp only [State.gap, hr, State.setReceiver_of_receiver hr]
  | address | length | body | crc | skip => simp only [State.gap, hr]

theorem State.refuseLength_of_invalid (h : s.link.receiver = .length a) (hb : b.toNat < 2 ∨ 250 < b.toNat) :
    s.refuseLength b = s.setReceiver .hunt := by
  simp only [State.refuseLength, h, lengthInvalid_eq_true hb, if_true]

theorem State.endSkip_of_skip {n : Nat} (h : s.link.receiver = .skip n) : s.endSkip = s.setReceiver .hunt := by
  simp only [State.endSkip, h]

theorem State.refuseCrc_of_badCrc (h : s.link.receiver = .crc a length bytes (some high))
    (hcrc : crcBytes (crcOf (a :: length :: bytes)) ≠ [high, b]) : s.refuseCrc b = s.setReceiver .hunt := by
  simp only [State.refuseCrc, h, crcAgrees_eq_false hcrc]
  rfl

end

/-! ### The events of an awake part -/

theorem exec_of_event_link {c : Instr} {f : State → State} {l : Link} (ha : s.Awake) (hc : exec c s = .next (s.event f))
    (hf : f s = { s with link := l }) : exec c s = .next { s with link := l } := by
  rw [hc, s.event_of_awake ha, hf]
  exact congrArg Host.Outcome.next (State.finishEvent_of_due_none _ ha.due_none)

theorem exec_characterReceived_of_awake (ha : s.Awake) (b : Byte) :
    exec (.characterReceived b) s = .next (s.receiveByte b).finishEvent :=
  congrArg Host.Outcome.next (s.event_of_awake ha _)

/-- A character of a frame that is not accepted. -/
theorem exec_characterReceived_setReceiver (ha : s.Awake) {b : Byte} {r : Receiver}
    (h : s.receiveByte b = s.setReceiver r) :
    exec (.characterReceived b) s = .next (s.setReceiver r) :=
  exec_of_event_link ha rfl h

/-- R163: the gap in every state but ANSWERING. -/
theorem exec_gapTimeout_of_ne_answering (ha : s.Awake) (h : s.link.receiver ≠ .answering) :
    exec .gapTimeout s = .next (s.setReceiver .hunt) :=
  exec_of_event_link ha rfl (State.gap_of_ne_answering h)

/-- R165: ANSWERING is deaf to the line, and ends with its reply. -/
theorem exec_of_answering (ha : s.Awake) (h : s.link.receiver = .answering) (b : Byte) :
    exec (.characterReceived b) s = .next s ∧ exec .gapTimeout s = .next s ∧
      (s.link.reply.isSome = true →
        exec .replyFirstCharacter s = .next { s with link := { s.link with driver := true } }) ∧
      exec .replyEnd s = .next { s with link := { s.link with receiver := .hunt, reply := none, driver := false } } := by
  refine ⟨?_, ?_, fun hreply => ?_, ?_⟩
  · exact exec_of_event_link (l := s.link) ha rfl (State.receiveByte_of_answering h)
  · exact exec_of_event_link (l := s.link) ha rfl (by simp only [State.gap, h])
  · exact exec_of_event_link ha rfl (by simp [State.startReply, h, hreply])
  · exact exec_of_event_link ha rfl (by simp only [State.endReply, h])

end

end Sys2Proof.Machine
end

section
/-! ReceiverFollowsItsTable. -/

namespace Sys2Proof.Machine

/-- Settles O39, state by state of the receiver. -/
theorem receiverFollowsItsTable : Obligations.ReceiverFollowsItsTable := by
  unfold Obligations.ReceiverFollowsItsTable
  intro s b ha becomes char
  have hchar {r : Receiver} (h : s.receiveByte b = s.setReceiver r) : becomes char r :=
    exec_characterReceived_setReceiver ha h
  have hgap {r : Receiver} (h : s.link.receiver = r) (hr : r ≠ .answering) : becomes .gapTimeout .hunt :=
    exec_gapTimeout_of_ne_answering ha (h ▸ hr)
  refine ⟨fun h => ?hunt, fun h => ?address, fun a h => ?length, fun a length bytes h => ?body,
    fun a length bytes h => ?crcHigh, fun a length bytes high h hcrc => ?crcLow, fun n h => ?skip,
    fun h => exec_of_answering ha h b⟩
  case hunt => exact ⟨hchar (State.receiveByte_of_hunt h), hgap h (by simp)⟩
  case address => exact ⟨hchar (State.receiveByte_of_address h), hgap h (by simp)⟩
  case length =>
    have hnext := State.receiveByte_of_length (b := b) h
    refine ⟨fun hb => ⟨hchar ?_, ?_⟩, fun h2 h250 => hchar ?_, hgap h (by simp)⟩
    · rw [hnext, afterLength_of_invalid hb]
    · exact exec_of_event_link ha rfl (State.refuseLength_of_invalid h hb)
    · rw [hnext, afterLength_of_valid h2 h250]; rfl
  case body =>
    refine ⟨hchar ?_, hgap h (by simp)⟩
    rw [State.receiveByte_of_body h, afterBody_append]
  case crcHigh => exact ⟨hchar (State.receiveByte_of_crcHigh h), hgap h (by simp)⟩
  case crcLow =>
    exact ⟨hchar (State.receiveByte_of_badCrc h hcrc),
      exec_of_event_link ha rfl (State.refuseCrc_of_badCrc h hcrc), hgap h (by simp)⟩
  case skip =>
    exact ⟨hchar (State.receiveByte_of_skip h), exec_of_event_link ha rfl (State.endSkip_of_skip h), hgap h (by simp)⟩

end Sys2Proof.Machine
end

section
/-! SUPPORT. A frame met character by character (R163, R164), and the requests of the catalogue (10.5): the payload that
each carries, its owner, and the event that takes it. -/

namespace Sys2Proof.Machine

/-! ### The requests of the catalogue -/

/-- 10.5: a kind has an owner exactly when the catalogue lists it. -/
theorem handlerOf_isSome (n : Nat) : (handlerOf n).isSome = catalogue.contains n := by
  unfold handlerOf
  split
  case h_41 => simp_all [catalogue]
  all_goals rfl

theorem handlerOf_eq_none {n : Nat} (h : catalogue.contains n = false) : handlerOf n = none := by
  rw [← Option.not_isSome_iff_eq_none, handlerOf_isSome, h]
  exact Bool.false_ne_true

theorem exists_handlerOf {n : Nat} (h : catalogue.contains n = true) : ∃ f, handlerOf n = some f :=
  Option.isSome_iff_exists.1 ((handlerOf_isSome n).trans h)

theorem handlerOf_of_unknownRequest {kind tag : Byte} {payload : List Byte}
    (h : wellFormed (.unknownRequest kind tag payload) = true) : handlerOf kind.toNat = none := by
  obtain ⟨hkind, -⟩ := Bool.and_eq_true_iff.1 h
  exact handlerOf_eq_none (by simpa using hkind)

section
variable {c : Instr} {kind tag : Byte} {payload : List Byte}

/-- 10.2: a request that can be sent fits a frame. -/
theorem payload_length_of_wellFormed (hc : requestOf c = some (kind, tag, payload)) (hw : wellFormed c = true) :
    payload.length ≤ 248 := by
  cases c <;> cases hc
  case unknownRequest => exact of_decide_eq_true (Bool.and_eq_true_iff.1 hw).2
  case schedAdoptNow | schedAdoptAtStepEnd | scannerBlockReset | probesBlockReset | zoneBlockReset | historyBlockReset
    | noticesBlockReset =>
    exact Nat.succ_le_succ (of_decide_eq_true hw)
  all_goals exact of_decide_eq_true hw

/-- A request that can be sent is one event that takes its frame, UNKNOWN_REQUEST among them. -/
theorem exec_eq_requestEvent_of_wellFormed (hc : requestOf c = some (kind, tag, payload)) (hw : wellFormed c = true)
    (s : State) : exec c s = .next (s.event fun t => t.request kind tag payload) := by
  by_cases hk : ∀ k t p, c ≠ .unknownRequest k t p
  · exact exec_eq_requestEvent hc hk s
  · push Not at hk
    obtain ⟨k, t, p, rfl⟩ := hk
    cases hc
    show Host.Outcome.next (s.event fun u => if (handlerOf kind.toNat).isNone then u.request kind tag payload else u) = _
    rw [handlerOf_of_unknownRequest hw]
    rfl

/-- R164: in HUNT the frame of a request is accepted. -/
theorem exec_request_of_hunt {s : State} (hc : requestOf c = some (kind, tag, payload)) (hw : wellFormed c = true)
    (ha : s.Awake) (h : s.link.receiver = .hunt) : exec c s = .next (s.accept kind tag payload).finishEvent := by
  rw [exec_eq_requestEvent_of_wellFormed hc hw, s.event_of_awake ha, s.request_of_hunt h]

end

/-! ### Characters received one after another -/

section
variable {s : State} (ha : s.Awake) (hr : s.link.restart = false)
include ha hr

/-- A character that changes the receiver alone. -/
theorem receiveAll_cons {r r' : Receiver} {b : Byte} (rest : List Byte)
    (h : (s.setReceiver r).receiveByte b = s.setReceiver r') :
    receiveAll (b :: rest) (s.setReceiver r) = receiveAll rest (s.setReceiver r') := by
  rw [receiveAll, exec_characterReceived_setReceiver (ha.setReceiver hr r) (r := r') h]
  rfl

/-- R163: the start byte and the address byte of a frame. -/
theorem receiveAll_start (address : Byte) (rest : List Byte) :
    receiveAll (0xC3 :: address :: rest) (s.setReceiver .hunt) = receiveAll rest (s.setReceiver (.length address)) := by
  rw [receiveAll_cons ha hr (r' := .address) _ rfl, receiveAll_cons ha hr (r' := .length address) _ rfl]

/-- R163: the counted bytes of a frame are stored up to the last. -/
theorem receiveAll_counted (a length : Byte) (counted rest : List Byte) (stored : List Byte) (hne : counted ≠ [])
    (hlength : stored.length + counted.length = length.toNat) :
    receiveAll (counted ++ rest) (s.setReceiver (.body a length stored)) =
      receiveAll rest (s.setReceiver (.crc a length (stored ++ counted) none)) := by
  induction counted generalizing stored with
  | nil => exact absurd rfl hne
  | cons b more ih =>
    have hbyte : (s.setReceiver (.body a length stored)).receiveByte b =
        s.setReceiver (afterBody a length (stored ++ [b])) := State.receiveByte_of_body rfl
    rw [List.cons_append, receiveAll_cons ha hr _ hbyte, afterBody_append]
    rw [List.length_cons] at hlength
    cases more with
    | nil =>
      rw [List.length_nil] at hlength
      rw [if_neg (by omega)]
      rfl
    | cons b' more' =>
      rw [List.length_cons] at hlength
      rw [if_pos (by omega), ih (stored ++ [b]) (List.cons_ne_nil _ _) (by simp; omega)]
      simp

/-- R163: the bytes of a frame for another part are counted down to HUNT. -/
theorem receiveAll_skipped (bytes : List Byte) (hne : bytes ≠ []) :
    receiveAll bytes (s.setReceiver (.skip bytes.length)) = .next (s.setReceiver .hunt) := by
  induction bytes with
  | nil => exact absurd rfl hne
  | cons b more ih =>
    have hbyte : (s.setReceiver (.skip (b :: more).length)).receiveByte b =
        s.setReceiver (afterSkipped (b :: more).length) := State.receiveByte_of_skip rfl
    rw [receiveAll_cons ha hr _ hbyte]
    cases more with
    | nil => rfl
    | cons b' more' => exact ih (List.cons_ne_nil _ _)

end

/-! ### A whole frame -/

/-- The receiver before the last byte of a frame. -/
def lastByteReceiver (address : Nat) (kind tag : Byte) (payload : List Byte) (high : Byte) : Receiver :=
  .crc (BitVec.ofNat 8 address) (BitVec.ofNat 8 (payload.length + 2)) (kind :: tag :: payload) (some high)

theorem State.linkAddress_toNat (s : State) : (BitVec.ofNat 8 s.linkAddress).toNat = s.linkAddress := by
  have := s.straps.address.isLt
  rw [BitVec.toNat_ofNat, State.linkAddress]
  omega

section
variable {s : State} (ha : s.Awake) (h : s.link.receiver = .hunt) {payload : List Byte} (hp : payload.length ≤ 248)
  (kind tag high low : Byte)
include ha h hp

/-- R163: the address and the length bytes of a frame, for this part or for another. -/
theorem receiveAll_frame {address : Nat} (hle : address ≤ 255) :
    receiveAll ([0xC3] ++ frameBody address kind tag payload ++ [high, low]) s =
      receiveAll (kind :: tag :: payload ++ [high, low])
        (s.setReceiver
          (if address = s.linkAddress then .body (BitVec.ofNat 8 address) (BitVec.ofNat 8 (payload.length + 2)) []
          else .skip (kind :: tag :: payload ++ [high, low]).length)) := by
  have hr : s.link.restart = false := ha.restart_eq_false (by simp [h])
  have hlength : (BitVec.ofNat 8 (payload.length + 2)).toNat = payload.length + 2 := by
    rw [BitVec.toNat_ofNat]; omega
  have haddress : (BitVec.ofNat 8 address).toNat = address := by rw [BitVec.toNat_ofNat]; omega
  have hstart := receiveAll_start ha hr (BitVec.ofNat 8 address)
    (BitVec.ofNat 8 (payload.length + 2) :: (kind :: tag :: payload ++ [high, low]))
  rw [State.setReceiver_of_receiver h] at hstart
  refine hstart.trans (receiveAll_cons ha hr _ ?_)
  have hbyte : (s.setReceiver (.length (BitVec.ofNat 8 address))).receiveByte (BitVec.ofNat 8 (payload.length + 2)) =
      s.setReceiver (afterLength s.linkAddress (BitVec.ofNat 8 address) (BitVec.ofNat 8 (payload.length + 2))) :=
    State.receiveByte_of_length rfl
  rw [hbyte, afterLength_of_valid (by omega) (by omega), haddress, hlength]
  simp

/-- R164: a frame for this part comes to its last byte, which is judged. -/
theorem receiveAll_own :
    receiveAll ([0xC3] ++ frameBody s.linkAddress kind tag payload ++ [high, low]) s =
      .next ((s.setReceiver (lastByteReceiver s.linkAddress kind tag payload high)).receiveByte low).finishEvent := by
  have hr : s.link.restart = false := ha.restart_eq_false (by simp [h])
  have haddress := s.linkAddress_toNat
  rw [receiveAll_frame ha h hp kind tag high low (by omega), if_pos rfl,
    receiveAll_counted ha hr _ _ _ _ [] (List.cons_ne_nil _ _) (by simp; omega), List.nil_append,
    receiveAll_cons ha hr (r' := lastByteReceiver s.linkAddress kind tag payload high) _ rfl, receiveAll,
    exec_characterReceived_of_awake (ha.setReceiver hr _)]
  rfl

/-- R163: a frame for another part is passed over. -/
theorem receiveAll_other {address : Nat} (hle : address ≤ 255) (hne : address ≠ s.linkAddress) :
    receiveAll ([0xC3] ++ frameBody address kind tag payload ++ [high, low]) s = .next s := by
  have hr : s.link.restart = false := ha.restart_eq_false (by simp [h])
  rw [receiveAll_frame ha h hp kind tag high low hle, if_neg hne, receiveAll_skipped ha hr _ (by simp),
    State.setReceiver_of_receiver h]

/-- R164: a frame for this part whose CRC agrees is accepted. -/
theorem receiveAll_own_agrees (hcrc : crcBytes (crcOf (frameBody s.linkAddress kind tag payload)) = [high, low]) :
    receiveAll ([0xC3] ++ frameBody s.linkAddress kind tag payload ++ [high, low]) s =
      .next
        ((s.setReceiver (lastByteReceiver s.linkAddress kind tag payload high)).accept kind tag payload).finishEvent := by
  rw [receiveAll_own ha h hp, State.receiveByte_of_lastByte (p := payload) ⟨_, _, _, rfl, hcrc⟩]

/-- R164: a frame whose CRC does not agree is dropped. -/
theorem receiveAll_own_disagrees (hcrc : [high, low] ≠ crcBytes (crcOf (frameBody s.linkAddress kind tag payload))) :
    receiveAll ([0xC3] ++ frameBody s.linkAddress kind tag payload ++ [high, low]) s = .next s := by
  have hdropped : (s.setReceiver (lastByteReceiver s.linkAddress kind tag payload high)).receiveByte low = s :=
    (State.receiveByte_of_badCrc rfl (Ne.symm hcrc)).trans (State.setReceiver_of_receiver h)
  rw [receiveAll_own ha h hp, hdropped, State.finishEvent_of_due_none s ha.due_none]

end

end Sys2Proof.Machine
end

section
/-! FramesAreReadBackAsTheirRequests. -/

namespace Sys2Proof.Machine

/-- Settles O40: the frame by its address, and by its CRC. -/
theorem framesAreReadBackAsTheirRequests : Obligations.FramesAreReadBackAsTheirRequests := by
  unfold Obligations.FramesAreReadBackAsTheirRequests
  intro c kind tag payload s hc hw ha h body
  have hp := payload_length_of_wellFormed hc hw
  refine ⟨exec_request_of_hunt hc hw ha h, ?own, fun address hne hle => ?other, fun high low hcrc => ?badCrc⟩
  case own => exact ⟨s.setReceiver _, rfl, receiveAll_own_agrees ha h hp kind tag _ _ rfl⟩
  case other => exact receiveAll_other ha h hp kind tag _ _ hle hne
  case badCrc => exact receiveAll_own_disagrees ha h hp kind tag high low hcrc

end Sys2Proof.Machine
end

section
/-! SUPPORT. The dispatch of an accepted frame (R165), and what IDENTIFY shows (R167). -/

namespace Sys2Proof.Machine

section
variable {s : State} {c : Instr} {kind tag : Byte} {payload : List Byte}

/-! ### The cases of the dispatch, in order -/

theorem State.dispatch_of_unknown (h : handlerOf kind.toNat = none) :
    s.dispatch kind payload = (s, .of .unknownRequest []) := by
  simp only [State.dispatch, h]
  rfl

theorem State.dispatch_of_notReady (h : catalogue.contains kind.toNat = true) (hr : s.ready = false)
    (hk : servedEarly kind = false) : s.dispatch kind payload = (s, .of .notReady []) := by
  obtain ⟨f, hf⟩ := exists_handlerOf h
  simp only [State.dispatch, hf, hr, hk]
  rfl

/-- R165: IDENTIFY and STATUS are served before READY too. -/
theorem State.dispatch_of_servedEarly {f : List Byte → State → State × Reply} (hf : handlerOf kind.toNat = some f)
    (hk : servedEarly kind = true) : s.dispatch kind payload = f payload s := by
  simp only [State.dispatch, hf, hk, Bool.or_true, if_true]

/-! ### Requests taken in HUNT, and lost in ANSWERING -/

/-- A request whose dispatch changes nothing, before or after READY. -/
theorem servedUnchanged_of_dispatch {r : Reply} (hc : requestOf c = some (kind, tag, payload)) (ha : s.Awake)
    (hexec : exec c s = .next (s.accept kind tag payload).finishEvent) (hd : s.dispatch kind payload = (s, r)) :
    ServedUnchanged c s r := by
  have haccept : (s.accept kind tag payload).finishEvent = s.answer kind tag r := by
    rw [State.accept, hd, State.finishEvent_answer ha.due_none]
  exact ⟨_, ⟨kind, tag, payload, hc, hexec.trans (congrArg _ haccept), rfl⟩, rfl⟩

/-- R165: no request is taken while the part is ANSWERING. -/
theorem exec_request_of_answering {request : Byte × Byte × List Byte} (hc : requestOf c = some request) (ha : s.Awake)
    (h : s.link.receiver = .answering) : exec c s = .next s := by
  have hlost (k t : Byte) (p : List Byte) : s.request k t p = s := by simp only [State.request, h]
  obtain ⟨kind, tag, payload⟩ := request
  by_cases hk : ∀ k t p, c ≠ .unknownRequest k t p
  · exact exec_of_event_link (l := s.link) ha (exec_eq_requestEvent hc hk s) (hlost ..)
  · push Not at hk
    obtain ⟨k, t, p, rfl⟩ := hk
    exact exec_of_event_link (l := s.link) ha rfl ((congrArg (ite _ · s) (hlost ..)).trans (ite_self s))

/-- R165: IDENTIFY and STATUS, taken in HUNT before or after READY. -/
theorem servedUnchanged_of_servedEarly {r : Reply} {f : List Byte → State → State × Reply} (ha : s.Awake)
    (h : s.link.receiver = .hunt) (hc : requestOf c = some (kind, tag, payload)) (hk : ∀ k t p, c ≠ .unknownRequest k t p)
    (hf : handlerOf kind.toNat = some f) (hearly : servedEarly kind = true) (hr : f payload s = (s, r)) :
    ServedUnchanged c s r :=
  servedUnchanged_of_dispatch hc ha (by rw [exec_eq_requestEvent hc hk, s.event_of_awake ha, s.request_of_hunt h])
    ((State.dispatch_of_servedEarly hf hearly).trans hr)

end

/-! ### IDENTIFY (R167) -/

section
variable (s : State)

theorem handleIdentify_badLength {p : List Byte} (hp : p ≠ []) : handleIdentify p s = (s, .of .badLength []) := by
  obtain ⟨_, _, rfl⟩ := List.exists_cons_of_ne_nil hp
  rfl

/-- R162: the link address, one more than its straps, as a byte. -/
theorem State.linkAddress_byte : BitVec.ofNat 8 s.linkAddress = s.straps.address.setWidth 8 + 1 := by
  rw [State.linkAddress, BitVec.ofNat_add, BitVec.ofNat_toNat]
  rfl

/-- R167: the fields of IDENTIFY, the byte-order pattern low byte first. -/
theorem State.identifyPart_eq :
    s.identifyPart =
      [0x26, 0x58, 0x0A, BitVec.ofNat 8 (Config.siliconRevisionLessOne.val + 1), 0x39, 0x4B,
        s.straps.address.setWidth 8 + 1, s.straps.baud.setWidth 8] := by
  simp only [State.identifyPart, byte1, byte2, s.linkAddress_byte, BitVec.ofNat_toNat]
  rfl

end

end Sys2Proof.Machine
end

section
/-! RequestsAreDispatchedInOrder. -/

namespace Sys2Proof.Machine

/-- Settles O41: a kind without an owner, a part that is not READY, and a part that is ANSWERING. -/
theorem requestsAreDispatchedInOrder : Obligations.RequestsAreDispatchedInOrder := by
  unfold Obligations.RequestsAreDispatchedInOrder
  refine ⟨fun s kind tag payload ha h hw => ?unknown,
    fun c kind tag payload s hc hw ha h hready hk hone htwo => ?notReady,
    fun c request s hc ha h => exec_request_of_answering hc ha h⟩
  case unknown =>
    exact servedUnchanged_of_dispatch rfl ha (exec_request_of_hunt rfl hw ha h)
      (State.dispatch_of_unknown (handlerOf_of_unknownRequest hw))
  case notReady =>
    have hlate : servedEarly kind = false := by simpa [servedEarly] using And.intro hone htwo
    exact servedUnchanged_of_dispatch hc ha (exec_request_of_hunt hc hw ha h)
      (State.dispatch_of_notReady hk hready hlate)

end Sys2Proof.Machine
end

section
/-! IdentifyGivesItsFields. -/

namespace Sys2Proof.Machine

/-- Settles O42, with the revision that the model leaves open. -/
theorem identifyGivesItsFields : Obligations.IdentifyGivesItsFields := by
  unfold Obligations.IdentifyGivesItsFields
  refine ⟨Config.siliconRevisionLessOne.val + 1, by omega, fun s tag ha h => ⟨?_, fun p hp => ?_⟩⟩
  · rw [← s.identifyPart_eq]
    exact servedUnchanged_of_servedEarly (c := .identify tag []) ha h rfl (by simp) rfl rfl rfl
  · exact servedUnchanged_of_servedEarly (c := .identify tag p) ha h rfl (by simp) rfl rfl (handleIdentify_badLength s hp)

end Sys2Proof.Machine
end

section
/-! SUPPORT. The requests that only read (R36, R55, R61, R72, R105, R124, R152, R157, R168): their handlers' answers, by
what their bytes name. -/

namespace Sys2Proof.Machine

/-! ### STATUS (R168) -/

section
variable (s : State)

/-- R168: the latch mask, input by input from bit 0. -/
theorem State.latchMask_eq_ofBits :
    s.latchMask = Nat.ofBits fun k : Fin 8 => (s.input (Input.all.get k)).latch := by
  have hbit (b : Bool) (n : Nat) : (if b then n else 0) = n * b.toNat := by cases b <;> simp
  simp only [State.latchMask, hbit, Input.all, Input.number, List.map_cons, List.map_nil, List.sum_cons, List.sum_nil,
    Nat.ofBits_succ, Nat.ofBits_zero, Function.comp_apply, List.get_cons_succ', List.get_cons_zero]
  omega

/-- R168: bit n - 1 of the mask is the latch of input n. -/
theorem State.latchMask_testBit (i : Input) : s.latchMask.testBit (i.number - 1) = (s.input i).latch := by
  have hlt : i.number - 1 < 8 := by cases i <;> decide
  rw [s.latchMask_eq_ofBits, Nat.testBit_ofBits_lt _ _ hlt]
  cases i <;> rfl

theorem State.latchMask_eq_zero (h : ∀ i, (s.input i).latch = false) : s.latchMask = 0 := by
  simp [State.latchMask, h]

/-- R168: before READY the scanner is shown OFF, the fans STOPPED, no latch set and the outputs released. -/
theorem State.statusPart_of_cold (hr : s.ready = false) (hcold : s.ColdAgrees) :
    s.statusPart =
      [0] ++ byte4 s.clock.minute ++ [0] ++ byte2 s.scanner.scanNumber ++ [0, 0] ++ byte1 s.history.frames.length ++
        byte1 s.memory.op.code ++ flag1 s.memory.pendingCheckpoint.isSome ++ flag1 s.memory.pendingSave.isSome ++ [0] := by
  obtain ⟨hlatch, -, hscanner, hfans, -⟩ := hcold hr
  simp only [State.statusPart, hr, hscanner, hfans, s.latchMask_eq_zero hlatch]
  rfl

theorem handleStatus_badLength {p : List Byte} (hp : p ≠ []) : handleStatus p s = (s, .of .badLength []) := by
  obtain ⟨_, _, rfl⟩ := List.exists_cons_of_ne_nil hp
  rfl

end

/-! ### The requests that name nothing: STATS_GET, RUN_GET and HISTORY_LATEST -/

section
variable {s : State}

theorem handleStatsGet_some {publication : Publication} (h : s.statistics.latest = some publication) :
    handleStatsGet [] s = (s, .of .ok publication.part) := by
  simp only [handleStatsGet, h]

theorem handleStatsGet_none (h : s.statistics.latest = none) : handleStatsGet [] s = (s, .of .empty []) := by
  simp only [handleStatsGet, h]
  rfl

theorem handleHistoryLatest_some {f : Frame} (h : s.history.latest = some f) :
    handleHistoryLatest [] s =
      (s, .of .ok (f.bytes ++ byte1 s.history.frames.length ++ flag1 s.history.slip)) := by
  simp only [handleHistoryLatest, h]

theorem handleHistoryLatest_none (h : s.history.latest = none) : handleHistoryLatest [] s = (s, .of .empty []) := by
  simp only [handleHistoryLatest, h]
  rfl

section
variable (s) {p : List Byte} (hp : p ≠ [])
include hp

theorem handleStatsGet_badLength : handleStatsGet p s = (s, .of .badLength []) := by
  obtain ⟨_, _, rfl⟩ := List.exists_cons_of_ne_nil hp
  rfl

theorem handleRunGet_badLength : handleRunGet p s = (s, .of .badLength []) := by
  obtain ⟨_, _, rfl⟩ := List.exists_cons_of_ne_nil hp
  rfl

theorem handleHistoryLatest_badLength : handleHistoryLatest p s = (s, .of .badLength []) := by
  obtain ⟨_, _, rfl⟩ := List.exists_cons_of_ne_nil hp
  rfl

end

/-! ### The requests that name a probe, a group, a zone or an input by one byte -/

variable (s)

theorem handleProbeGet_named (p : Fin 48) : handleProbeGet [probeByte p] s = (s, .of .ok (s.probePart p)) := by
  simp only [handleProbeGet, withProbe, probeOfNumber_probeByte]
  rfl

theorem handleCurveGet_named (g : Fin 8) : handleCurveGet [BitVec.ofNat 8 g.val] s = (s, .of .ok (s.curvePart g)) := by
  simp only [handleCurveGet, withGroup, groupOfNumber_toNat]

theorem handleZoneGet_named (z : ZoneId) : handleZoneGet [BitVec.ofNat 8 z.number] s = (s, .of .ok (s.zonePart z)) := by
  simp only [handleZoneGet, zoneOfNumber_byte]
  rfl

theorem handleZoneConfig_named (z : ZoneId) :
    handleZoneConfig [BitVec.ofNat 8 z.number] s = (s, .of .ok (s.zonePart z)) := by
  simp only [handleZoneConfig, zoneOfNumber_byte]
  rfl

theorem handleInterlockGet_named (i : Input) :
    handleInterlockGet [BitVec.ofNat 8 i.number] s = (s, .of .ok (s.inputPart i)) := by
  simp only [handleInterlockGet, inputOfNumber_byte]

theorem handleInterlockConfig_named (i : Input) :
    handleInterlockConfig [BitVec.ofNat 8 i.number] s = (s, .of .ok (s.inputPart i)) := by
  simp only [handleInterlockConfig, inputOfNumber_byte]

section
variable {b : Byte}

theorem handleProbeGet_unnamed (h : b = 0 ∨ 48 < b.toNat) : handleProbeGet [b] s = (s, .badField 1 []) := by
  simp only [handleProbeGet, withProbe, probeOfNumber_eq_none h]

theorem handleCurveGet_unnamed (h : 7 < b.toNat) : handleCurveGet [b] s = (s, .badField 1 []) := by
  simp only [handleCurveGet, withGroup, groupOfNumber_of_gt h]

theorem handleZoneGet_unnamed (h : b = 0 ∨ 4 < b.toNat) : handleZoneGet [b] s = (s, .badField 1 []) := by
  simp only [handleZoneGet, zoneOfNumber_byte_eq_none h]

theorem handleInterlockGet_unnamed (h : b = 0 ∨ 8 < b.toNat) : handleInterlockGet [b] s = (s, .badField 1 []) := by
  simp only [handleInterlockGet, inputOfNumber_byte_eq_none h]

end

section
variable {p : List Byte} (hp : p.length ≠ 1)
include hp

theorem handleProbeGet_badLength : handleProbeGet p s = (s, .of .badLength []) := by
  match p with
  | [] | _ :: _ :: _ => rfl
  | [_] => exact absurd rfl hp

theorem handleCurveGet_badLength : handleCurveGet p s = (s, .of .badLength []) := by
  match p with
  | [] | _ :: _ :: _ => rfl
  | [_] => exact absurd rfl hp

theorem handleZoneGet_badLength : handleZoneGet p s = (s, .of .badLength []) := by
  match p with
  | [] | _ :: _ :: _ => rfl
  | [_] => exact absurd rfl hp

end

theorem handleInterlockGet_badLength {p : List Byte} (hp : 1 < p.length) :
    handleInterlockGet p s = (s, .of .badLength []) := by
  match p with
  | [] | [_] => simp at hp
  | _ :: _ :: _ => rfl

/-! ### SCHED_GET_STEP (R72) -/

theorem ScheduleStore.byRole_eq_none (x : ScheduleStore) {n : Nat} (h : 1 < n) : x.byRole n = none := by
  obtain ⟨k, rfl⟩ := Nat.exists_eq_add_of_le' h
  rfl

section
variable {buffer index : Byte} {steps : List StepRecord}

theorem handleSchedGetStep_step (hb : s.schedule.byRole buffer.toNat = some steps) {x : StepRecord}
    (hx : steps[index.toNat]? = some x) :
    handleSchedGetStep [buffer, index] s = (s, .of .ok (s.summary ++ x.bytes)) := by
  simp only [handleSchedGetStep, hb, hx]

theorem handleSchedGetStep_badBuffer (h : 1 < buffer.toNat) :
    handleSchedGetStep [buffer, index] s = (s, .badField 1 s.summary) := by
  simp only [handleSchedGetStep, s.schedule.byRole_eq_none h]

theorem handleSchedGetStep_badIndex (hb : s.schedule.byRole buffer.toNat = some steps)
    (h : steps.length ≤ index.toNat) : handleSchedGetStep [buffer, index] s = (s, .badField 2 s.summary) := by
  simp only [handleSchedGetStep, hb, List.getElem?_eq_none h]

theorem handleSchedGetStep_badLength {p : List Byte} (hp : p.length ≠ 2) :
    handleSchedGetStep p s = (s, .of .badLength s.summary) := by
  match p with
  | [] | [_] | _ :: _ :: _ :: _ => rfl
  | [_, _] => exact absurd rfl hp

end

end

/-! ### The requests served -/

section
variable {s : State} {tag : Byte} {payload : List Byte} {r : Reply} (h : s.Receptive)
include h

theorem probeGet_unchanged (hr : handleProbeGet payload s = (s, r)) : ServedUnchanged (.probeGet tag payload) s r :=
  servedUnchanged_of_handled (c := .probeGet tag payload) h rfl (by simp) rfl hr

theorem statsGet_unchanged (hr : handleStatsGet payload s = (s, r)) : ServedUnchanged (.statsGet tag payload) s r :=
  servedUnchanged_of_handled (c := .statsGet tag payload) h rfl (by simp) rfl hr

theorem curveGet_unchanged (hr : handleCurveGet payload s = (s, r)) : ServedUnchanged (.curveGet tag payload) s r :=
  servedUnchanged_of_handled (c := .curveGet tag payload) h rfl (by simp) rfl hr

theorem schedGetStep_unchanged (hr : handleSchedGetStep payload s = (s, r)) :
    ServedUnchanged (.schedGetStep tag payload) s r :=
  servedUnchanged_of_handled (c := .schedGetStep tag payload) h rfl (by simp) rfl hr

theorem runGet_unchanged (hr : handleRunGet payload s = (s, r)) : ServedUnchanged (.runGet tag payload) s r :=
  servedUnchanged_of_handled (c := .runGet tag payload) h rfl (by simp) rfl hr

theorem zoneGet_unchanged (hr : handleZoneGet payload s = (s, r)) : ServedUnchanged (.zoneGet tag payload) s r :=
  servedUnchanged_of_handled (c := .zoneGet tag payload) h rfl (by simp) rfl hr

theorem zoneConfig_unchanged (hr : handleZoneConfig payload s = (s, r)) :
    ServedUnchanged (.zoneConfig tag payload) s r :=
  servedUnchanged_of_handled (c := .zoneConfig tag payload) h rfl (by simp) rfl hr

theorem interlockGet_unchanged (hr : handleInterlockGet payload s = (s, r)) :
    ServedUnchanged (.interlockGet tag payload) s r :=
  servedUnchanged_of_handled (c := .interlockGet tag payload) h rfl (by simp) rfl hr

theorem historyLatest_unchanged (hr : handleHistoryLatest payload s = (s, r)) :
    ServedUnchanged (.historyLatest tag payload) s r :=
  servedUnchanged_of_handled (c := .historyLatest tag payload) h rfl (by simp) rfl hr

/-- R72: a step of the buffer that a byte names by its role. -/
theorem schedGetStep_byRole {buffer : Byte} {steps : List StepRecord} {x : StepRecord} {i : Nat}
    (hb : s.schedule.byRole buffer.toNat = some steps) (hi : i < 24) (hx : steps[i]? = some x) :
    ServedUnchanged (.schedGetStep tag [buffer, BitVec.ofNat 8 i]) s (.of .ok (s.summary ++ x.bytes)) := by
  have hindex : (BitVec.ofNat 8 i).toNat = i := by rw [BitVec.toNat_ofNat]; omega
  exact schedGetStep_unchanged h (handleSchedGetStep_step s hb (by rwa [hindex]))

end

end Sys2Proof.Machine
end

section
/-! ReadingRequestsChangeNothing. -/

namespace Sys2Proof.Machine

/-- Settles O43: STATUS before and after READY, then each reading request of a part that is READY. -/
theorem readingRequestsChangeNothing : Obligations.ReadingRequestsChangeNothing := by
  unfold Obligations.ReadingRequestsChangeNothing
  refine ⟨fun s tag ha hunt => ?_, fun s tag h => ?_⟩
  · have hstatus {p : List Byte} {r : Reply} (hr : handleStatus p s = (s, r)) : ServedUnchanged (.status tag p) s r :=
      servedUnchanged_of_servedEarly (c := .status tag p) ha hunt rfl (by simp) rfl rfl hr
    refine ⟨hstatus rfl, s.latchMask_testBit, fun hr hcold => ?_, fun p hp => hstatus (handleStatus_badLength s hp)⟩
    rw [← s.statusPart_of_cold hr hcold]
    exact hstatus rfl
  · refine ⟨fun p => probeGet_unchanged h (handleProbeGet_named s p),
      fun publication hlatest => statsGet_unchanged h (handleStatsGet_some hlatest),
      fun hlatest => statsGet_unchanged h (handleStatsGet_none hlatest),
      fun g => curveGet_unchanged h (handleCurveGet_named s g),
      fun i x hi => ⟨fun hx => schedGetStep_byRole h rfl hi hx, fun hx => schedGetStep_byRole h rfl hi hx⟩,
      fun buffer index => ⟨fun hb => ?_, fun hb hi => ?_, fun hb hi => ?_⟩,
      runGet_unchanged h rfl,
      fun z => ⟨zoneGet_unchanged h (handleZoneGet_named s z), zoneConfig_unchanged h (handleZoneConfig_named s z)⟩,
      fun i => ⟨interlockGet_unchanged h (handleInterlockGet_named s i),
        interlockConfig_refused h (handleInterlockConfig_named s i)⟩,
      interlockGet_unchanged h rfl,
      fun f hlatest => historyLatest_unchanged h (handleHistoryLatest_some hlatest),
      fun hlatest => historyLatest_unchanged h (handleHistoryLatest_none hlatest),
      fun b => ⟨fun hb => ?_, fun hb => ?_, fun hb => ⟨?_, ?_⟩, fun hb => ⟨?_, ?_⟩⟩,
      fun p => ⟨fun hp => ?_, fun hp => ?_, fun hp => ?_, fun hp => ?_⟩⟩
    · exact schedGetStep_unchanged h (handleSchedGetStep_badBuffer s hb)
    · subst hb; exact schedGetStep_unchanged h (handleSchedGetStep_badIndex s rfl hi)
    · subst hb; exact schedGetStep_unchanged h (handleSchedGetStep_badIndex s rfl hi)
    · exact probeGet_unchanged h (handleProbeGet_unnamed s hb)
    · exact curveGet_unchanged h (handleCurveGet_unnamed s hb)
    · exact zoneGet_unchanged h (handleZoneGet_unnamed s hb)
    · exact zoneConfig_unchanged h (handleZoneConfig_noZone s (p := [b]) (by simpa using hb))
    · exact interlockGet_unchanged h (handleInterlockGet_unnamed s hb)
    · exact interlockConfig_refused h (handleInterlockConfig_unnamed s (p := [b]) (by simpa using hb))
    · exact ⟨statsGet_unchanged h (handleStatsGet_badLength s hp), runGet_unchanged h (handleRunGet_badLength s hp),
        historyLatest_unchanged h (handleHistoryLatest_badLength s hp)⟩
    · exact ⟨probeGet_unchanged h (handleProbeGet_badLength s hp), curveGet_unchanged h (handleCurveGet_badLength s hp),
        zoneGet_unchanged h (handleZoneGet_badLength s hp)⟩
    · exact schedGetStep_unchanged h (handleSchedGetStep_badLength s hp)
    · exact interlockGet_unchanged h (handleInterlockGet_badLength s hp)

end Sys2Proof.Machine
end

section
/-! SUPPORT. The supply, the memory's operations and the clock events (11.2, R171 to R177): what is due taken first, and what
each command then comes to. -/

namespace Sys2Proof.Machine

/-! ### The work that is due (log 2) -/

@[simp] theorem State.takeMinuteWork_frame (s : State) :
    s.takeMinuteWork.powered = s.powered ∧ s.takeMinuteWork.straps = s.straps ∧
    s.takeMinuteWork.clock = s.clock ∧ s.takeMinuteWork.interlocks = s.interlocks ∧
    s.takeMinuteWork.history = s.history ∧ s.takeMinuteWork.link = s.link ∧
    s.takeMinuteWork.draws = s.draws ∧ s.takeMinuteWork.pending = s.pending := by
  simp [State.takeMinuteWork]

theorem State.takeRestart_pending (s : State) : s.takeRestart.pending = s.pending := by
  unfold State.takeRestart
  split <;> rfl

/-- What is due does not touch the commands that wait. -/
theorem State.caughtUp_pending (s : State) : s.caughtUp.pending = s.pending := by
  unfold State.caughtUp
  split
  · simp [State.takeDue, State.takeRestart_pending]
  · rfl

/-- An event that changes no mark of due work is its own effect. -/
theorem State.event_of_effect {s : State} {f : State → State} (ha : s.Awake) (hd : (f s).due.checkpoint = false) :
    s.event f = f s := by
  rw [s.event_of_awake ha, State.finishEvent_of_no_request _ hd]

/-- Without supply no command but POWER_ON does anything (log 6). -/
theorem exec_of_unpowered {c : Instr} {s : State} (hp : s.powered = false)
    (hc : ∀ straps contacts, c ≠ .powerOn straps contacts) : exec c s = .next s := by
  have hevent (f : State → State) : s.event f = s := by simp [State.event, hp]
  have hdue (f : State → State) : s.dueEvent f = s := by simp [State.dueEvent, hp]
  cases c with
  | powerOn straps contacts => exact absurd rfl (hc straps contacts)
  | powerLoss tear => exact congrArg Host.Outcome.next (by simp [hp])
  | scanTimerExpiry | hoursTestPass | settleTimerPass | stepTimeout | runHourCheckpoint | startConfirmExpiry | reversalDue
  | coastEnd | partRestart => exact congrArg Host.Outcome.next (hdue _)
  | _ => exact congrArg Host.Outcome.next (hevent _)

/-! ### The memory's operations (R175, R177) -/

theorem Memory.tear_of_noWrite {m : Memory} (h : m.op = .none ∨ m.op = .load) (t : Tear) : m.tear t = m := by
  obtain h | h := h <;> simp [Memory.tear, h]

theorem Memory.restart_of_idle {m : Memory} (h : m.op = .none) (hc : m.pendingCheckpoint = none) :
    m.restart = { m with op := .load, pendingSave := none, loadWaits := false } := by
  simp [Memory.restart, Memory.startNext, h, hc]

theorem Memory.restart_of_busy {m : Memory} (h : m.op ≠ .none) :
    m.restart = { m with pendingSave := none, loadWaits := true } := by
  unfold Memory.restart
  cases hop : m.op with
  | none => exact absurd hop h
  | load | checkpointWrite | saveWrite => rfl

/-- R175, R177: the end of an operation starts the pending checkpoint, else the load that a restart waits for, else the
pending save. -/
theorem Memory.startNext_goesOn (m : Memory) :
    (∀ c, m.pendingCheckpoint = some c →
      m.startNext =
        { m with op := .checkpointWrite c m.checkpointRegion, checkpointRegion := .writing, pendingCheckpoint := none }) ∧
    (m.pendingCheckpoint = none → m.loadWaits = true → m.startNext = { m with op := .load, loadWaits := false }) ∧
    (m.pendingCheckpoint = none → m.loadWaits = false → ∀ i, m.pendingSave = some i →
      m.startNext = { m with op := .saveWrite i, pendingSave := none }) ∧
    (m.pendingCheckpoint = none → m.loadWaits = false → m.pendingSave = none →
      m.startNext = { m with op := .none }) := by
  refine ⟨fun c hc => ?_, fun hc hl => ?_, fun hc hl i hi => ?_, fun hc hl hi => ?_⟩
  · simp only [Memory.startNext, hc]; rfl
  · simp [Memory.startNext, hc, hl]
  · simp [Memory.startNext, hc, hl, hi]
  · simp [Memory.startNext, hc, hl, hi]

/-! ### The ends of writes (R175) -/

theorem saveEndNotice_eq (result : SaveEnd) :
    saveEndNotice result = if result = .agrees then .saveDone else .saveFailed := by
  cases result <;> rfl

section
variable {s : State} (ha : s.Awake)
include ha

theorem exec_checkpointWriteEnd {contents : Checkpoint} {before : CheckpointRegion} {result : CheckpointEnd}
    (hop : s.memory.op = .checkpointWrite contents before) :
    exec (.checkpointWriteEnd result) s =
      .next
        { s with
          memory :=
            ({ s.memory with checkpointRegion := checkpointEndRegion contents before result } : Memory).startNext } := by
  have heffect : s.endCheckpointWrite result =
      { s with
        memory :=
          ({ s.memory with checkpointRegion := checkpointEndRegion contents before result } : Memory).startNext } := by
    simp only [State.endCheckpointWrite, hop]
  rw [← heffect]
  exact congrArg Host.Outcome.next (State.event_of_effect ha (by rw [heffect, ha.due_none]; rfl))

/-- R175, R177: a save's end is noticed unless a restart has been taken since. -/
theorem exec_saveWriteEnd {image : Image} {result : SaveEnd} (hop : s.memory.op = .saveWrite image) :
    exec (.saveWriteEnd result) s =
      .next
        { s with
          memory :=
            ({ s.memory with settingsRegion := saveEndRegion image s.memory.settingsRegion result } : Memory).startNext
          notices :=
            if s.memory.loadWaits = true then s.notices else noticesAfter s [(saveEndNotice result, 0, 0)] } := by
  have heffect : s.endSaveWrite result =
      { s with
        memory :=
          ({ s.memory with settingsRegion := saveEndRegion image s.memory.settingsRegion result } : Memory).startNext
        notices :=
          if s.memory.loadWaits = true then s.notices else noticesAfter s [(saveEndNotice result, 0, 0)] } := by
    simp only [State.endSaveWrite, hop]
    split <;> rfl
  rw [← heffect]
  exact congrArg Host.Outcome.next (State.event_of_effect ha (by rw [heffect, ha.due_none]; rfl))

end

end Sys2Proof.Machine
end

section
/-! PowerOnStartsEveryBlockAfresh, PartRestartKeepsClockRingAndStraps, PowerLossTearsOnlyTheRegionBeingWritten and
WriteEndsStartTheNextOperation. -/

namespace Sys2Proof.Machine

/-- Settles O2: with no write in flight there is nothing to tear, and every block has its power-on values. -/
theorem powerOnStartsEveryBlockAfresh : Obligations.PowerOnStartsEveryBlockAfresh := by
  unfold Obligations.PowerOnStartsEveryBlockAfresh
  refine ⟨fun s straps contacts => ?_, fun s h => ?_⟩
  · intro u hop
    show Host.Outcome.next (u.takePowerOn straps contacts) = _
    rw [State.takePowerOn, Memory.tear_of_noWrite hop, ← s.caughtUp_pending]
    rfl
  · obtain hp | hquiet := h
    · simp [State.caughtUp, hp]
    · exact s.caughtUp_of_quiet hquiet

/-- Settles O7: the minute event in hand is finished, and the restart then gives every block its power-on values but for
what the finished event has left of the clock, the ring, the straps and the memory. -/
theorem partRestartKeepsClockRingAndStraps : Obligations.PartRestartKeepsClockRingAndStraps := by
  unfold Obligations.PartRestartKeepsClockRingAndStraps
  refine ⟨fun s hp hrestart hreceiver => ?_, State.takeMinuteWork_of_due_none⟩
  intro u hpending
  have hdue : u.restartIsDue = true := by simp [u, State.restartIsDue, hrestart, hreceiver]
  have hmemory : u.memory.restart =
      if u.memory.op = .none then { u.memory with op := .load, pendingSave := none, loadWaits := false }
      else { u.memory with pendingSave := none, loadWaits := true } := by
    split
    · exact Memory.restart_of_idle ‹_› (hpending ‹_›)
    · exact Memory.restart_of_busy ‹_›
  show Host.Outcome.next (s.afterMinute State.takeRestart) = _
  rw [State.afterMinute, State.dueEvent_of_powered hp, State.takeRestart, if_pos hdue,
    State.finishEvent_of_due_none _ rfl, State.restartNow, hmemory]
  simp [u, State.powerOnBlocks, State.contactsNow, State.reset, interlocksPowerOn, hp]
  rfl

/-- Settles O3: the tear of the write in flight, whatever was due before the loss; and nothing is taken without supply. -/
theorem powerLossTearsOnlyTheRegionBeingWritten : Obligations.PowerLossTearsOnlyTheRegionBeingWritten := by
  unfold Obligations.PowerLossTearsOnlyTheRegionBeingWritten
  refine ⟨fun s tear hp => ?_, fun c s hp hc => exec_of_unpowered hp hc⟩
  intro u
  have hexec : exec (.powerLoss tear) s = .next (u.losePower tear) := congrArg Host.Outcome.next (if_pos hp)
  refine ⟨_, hexec, rfl, rfl, rfl, rfl, rfl, ?_, ?_, rfl, rfl, rfl, rfl, fun z k => ?_⟩
  · show (u.memory.tear tear).checkpointRegion = _
    unfold Memory.tear
    cases u.memory.op <;> cases tear <;> rfl
  · show (u.memory.tear tear).settingsRegion = _
    unfold Memory.tear
    cases u.memory.op <;> rfl
  · have houtputs : (u.losePower tear).outputs.get z = .powerOn := zones_get_replicate _ z
    rw [houtputs]
    cases k <;> exact ⟨rfl, rfl, rfl⟩

/-- Settles O6: the region takes what the end leaves, and the controller goes on with what waits. -/
theorem writeEndsStartTheNextOperation : Obligations.WriteEndsStartTheNextOperation := by
  unfold Obligations.WriteEndsStartTheNextOperation
  refine ⟨fun s contents before result ha hop => ?_, fun s image result ha hop => ?_⟩
  · refine ⟨_, checkpointEndRegion contents before result, exec_checkpointWriteEnd ha hop, rfl, ?_,
      Memory.startNext_goesOn { s.memory with checkpointRegion := checkpointEndRegion contents before result }⟩
    rintro rfl; cases contents <;> rfl
  · refine ⟨_, saveEndRegion image s.memory.settingsRegion result, exec_saveWriteEnd ha hop, rfl, ?_,
      fun hl => if_pos hl, fun hl => ?_,
      Memory.startNext_goesOn { s.memory with settingsRegion := saveEndRegion image s.memory.settingsRegion result }⟩
    · rintro rfl; rfl
    · rw [← saveEndNotice_eq]; exact if_neg (by simp [hl])

end Sys2Proof.Machine
end

section
/-! SUPPORT. The Part Clock's events (R172): what a second event and a minute event count, block by block. -/

namespace Sys2Proof.Machine

/-! ### The blocks that count (R12, R87, R91, R109, R137 to R139) -/

/-- R109: the sampler after a second event. -/
def State.sampledSecond (s : State) : Sampler := if s.ready then s.sampler.countSecond else s.sampler

theorem samplerCounts_of_sampledSecond {s t : State} (h : t.sampler = s.sampledSecond) : SamplerCounts s t := by
  refine ⟨?_, fun hr => ?_, fun hr ht => ?_, fun hr ht => ?_⟩
  · rw [h, State.sampledSecond, Sampler.countSecond]; (repeat' split) <;> rfl
  · simp [h, State.sampledSecond, hr]
  · simp [h, State.sampledSecond, hr, Sampler.countSecond, ht]
  · have hcounted : t.sampler = s.sampler.countSecond := by simp [h, State.sampledSecond, hr]
    rw [hcounted, Sampler.countSecond, if_neg (by omega)]
    refine ⟨rfl, fun hm => ?_, fun hm => by simp [hm]⟩
    cases hmark : s.sampler.mark with
    | early => exact absurd hmark hm
    | none | due => rfl

/-- R137, R139: running fans count no seconds. -/
theorem Fans.countSecond_of_running {f : Fans} (h : f.state.isRunning = true) : f.countSecond = f := by
  unfold Fans.countSecond
  cases hs : f.state <;> simp [hs, FanState.isRunning] at h ⊢

theorem Fans.countSecond_state (f : Fans) : f.countSecond.state = f.state := by
  unfold Fans.countSecond
  split <;> rfl

theorem Fans.countMinute_of_running {f : Fans} (h : f.state.isRunning = true) :
    f.countMinute = { f with reversalTimer := if f.reversalTimer < 480 then f.reversalTimer + 1 else f.reversalTimer } := by
  by_cases ht : f.reversalTimer < 480 <;> simp [Fans.countMinute, h, ht]

theorem Fans.countMinute_of_not_running {f : Fans} (h : f.state.isRunning = false) : f.countMinute = f := by
  simp [Fans.countMinute, h]

theorem Scanner.countMinute_eq (x : Scanner) (enable : Bool) (interval : Nat) :
    x.countMinute enable interval =
      { x with timer := if enable = true ∧ x.state ≠ .off ∧ x.timer < interval then x.timer + 1 else x.timer } := by
  by_cases h : enable = true ∧ x.state ≠ .off ∧ x.timer < interval
  · simp [Scanner.countMinute, h]
  · rw [if_neg h, Scanner.countMinute, if_neg (by simpa [and_assoc] using h)]

section
variable (r : Run) (minute : Nat)

/-- R87: the step minutes count in RUNNING. -/
theorem Run.countMinute_stepMinutes :
    (r.state = .running → r.stepMinutes < 4294967295 → (r.countMinute minute).stepMinutes = r.stepMinutes + 1) ∧
      (r.state ≠ .running → (r.countMinute minute).stepMinutes = r.stepMinutes) :=
  ⟨fun hs hlt => by simp [Run.countMinute, Run.nextStepMinutes, bumpMinutes, hs, hlt],
    fun hs => by simp [Run.countMinute, Run.nextStepMinutes, hs]⟩

/-- R87: the total counts while the run is in progress. -/
theorem Run.countMinute_totalMinutes :
    (r.state.inProgress = true → r.totalMinutes < 4294967295 →
        (r.countMinute minute).totalMinutes = r.totalMinutes + 1) ∧
      (r.state.inProgress = false → (r.countMinute minute).totalMinutes = r.totalMinutes) :=
  ⟨fun hp hlt => by simp [Run.countMinute, bumpMinutes, hp, hlt], fun hp => by simp [Run.countMinute, hp]⟩

/-- R91: the settle timer counts in RUNNING and in band. -/
theorem Run.countMinute_settleTimer :
    (r.state = .running → r.inBand = true → r.settleTimer < 240 →
        (r.countMinute minute).settleTimer = r.settleTimer + 1) ∧
      (r.state ≠ .running ∨ r.inBand = false → (r.countMinute minute).settleTimer = r.settleTimer) := by
  refine ⟨fun hs hb hlt => ?_, fun h => ?_⟩
  · simp only [Run.countMinute, hs, hb, decide_true, Bool.and_self, if_true]
    omega
  · obtain h | h := h <;> simp [Run.countMinute, h]

end

/-! ### The events -/

section
variable {s : State}

theorem State.countSecond_within_minute (h : s.clock.second < 59) :
    s.countSecond =
      { s with
        clock := { minute := s.clock.minute, second := s.clock.second + 1 }
        fans := s.fans.countSecond, sampler := s.sampledSecond } := by
  simp [State.countSecond, State.sampledSecond, Clock.tick, h]

/-- The uptime minute that the minute event brings (R172). -/
def Clock.nextMinute (c : Clock) : Nat := (c.minute + 1) % 4294967296

/-- The judgements that a minute event leaves due in a state (R87, log 2). -/
def State.minuteDue (s : State) : Due :=
  { s.due with
    hours := decide (s.run.state = .running), settle := decide (s.run.state = .running) && s.run.inBand
    timeout := decide (s.run.state = .running)
    hourCheckpoint := s.run.state.inProgress && (s.run.countMinute s.clock.nextMinute).totalMinutes % 60 == 0 }

theorem State.countSecond_at_minute (h : s.clock.second = 59) :
    s.countSecond =
      { s with
        clock := { minute := s.clock.nextMinute, second := 0 }
        fans := s.fans.countSecond.countMinute, sampler := s.sampledSecond
        scanner := s.scanner.countMinute s.settings.scanEnable s.settings.scanInterval
        run := s.run.countMinute s.clock.nextMinute, due := s.minuteDue } := by
  simp [State.countSecond, State.sampledSecond, State.countMinute, State.runCountMinute, State.minuteDue, Clock.nextMinute,
    Clock.tick, h]

variable (ha : s.Awake)
include ha

theorem exec_secondEvent : exec .secondEvent s = .next s.countSecond := by
  refine congrArg Host.Outcome.next (State.event_of_effect ha ?_)
  have hd : s.due.checkpoint = false := by rw [ha.due_none]; rfl
  by_cases h : s.clock.second < 59
  · rw [State.countSecond_within_minute h]; exact hd
  · simp only [State.countSecond, h, if_false]; exact hd

/-- R172: MINUTE_EVENT is the second event of second 59, and no event at another second (log 1). -/
theorem exec_minuteEvent : exec .minuteEvent s = if s.clock.second = 59 then exec .secondEvent s else .next s := by
  have hevent (f : State → State) (hf : f s = s) : s.event f = s := by
    rw [State.event_of_effect ha (by rw [hf, ha.due_none]; rfl), hf]
  split
  · show Host.Outcome.next (s.event _) = Host.Outcome.next (s.event _)
    rw [s.event_of_awake ha, s.event_of_awake ha, if_pos ‹_›]
  · exact congrArg Host.Outcome.next (hevent _ (if_neg ‹_›))

end

end Sys2Proof.Machine
end

section
/-! ClockEventsCount. -/

namespace Sys2Proof.Machine

/-- Settles O8: the second event within a minute, MINUTE_EVENT at another second, and the second event that is the minute
event. -/
theorem clockEventsCount : Obligations.ClockEventsCount := by
  unfold Obligations.ClockEventsCount
  refine ⟨fun s ha hs => ?_, fun s ha hs => ?_, fun s ha hs => ?_⟩
  · refine ⟨_, exec_secondEvent ha, ?_⟩
    rw [State.countSecond_within_minute hs]
    exact ⟨rfl, rfl, rfl, samplerCounts_of_sampledSecond rfl⟩
  · rw [exec_minuteEvent ha, if_neg hs]
  · refine ⟨_, by rw [exec_minuteEvent ha, if_pos hs, exec_secondEvent ha], exec_secondEvent ha, ?_⟩
    rw [State.countSecond_at_minute hs]
    have hstep := s.run.countMinute_stepMinutes s.clock.nextMinute
    have htotal := s.run.countMinute_totalMinutes s.clock.nextMinute
    have hsettle := s.run.countMinute_settleTimer s.clock.nextMinute
    have hchecked : s.minuteDue.checkpoint = false := by rw [State.minuteDue, ha.due_none]; rfl
    refine ⟨rfl, rfl, rfl, hstep.1, hstep.2, htotal.1, htotal.2, hsettle.1, hsettle.2, Scanner.countMinute_eq _ _ _,
      fun hr => ?_, fun hr => ?_, samplerCounts_of_sampledSecond rfl, rfl, rfl, rfl, hchecked, rfl⟩
    · exact (congrArg Fans.countMinute (Fans.countSecond_of_running hr)).trans (Fans.countMinute_of_running hr)
    · exact Fans.countMinute_of_not_running (by rw [Fans.countSecond_state]; exact hr)

end Sys2Proof.Machine
end

section
/-! SUPPORT. RESET_BLOCK (R178): the answer of its handler, and what each of the five resets leaves. -/

namespace Sys2Proof.Machine

/-! ### The handler's answers -/

section
variable (s : State)

theorem handleResetBlock_scanner (b : Byte) : handleResetBlock [0x00, b] s = (s.resetScanner, .of .ok []) := rfl

theorem handleResetBlock_probes (b : Byte) : handleResetBlock [0x01, b] s = (s.resetProbes, .of .ok []) := rfl

theorem handleResetBlock_zone (z : ZoneId) :
    handleResetBlock [0x02, BitVec.ofNat 8 z.number] s = (s.resetZone z, .of .ok []) := by
  simp only [handleResetBlock, zoneOfNumber_byte]; rfl

theorem handleResetBlock_history (b : Byte) :
    handleResetBlock [0x03, b] s = ({ s with history := s.history.reset }, .of .ok []) := rfl

theorem handleResetBlock_notices (b : Byte) : handleResetBlock [0x04, b] s = ({ s with notices := [] }, .of .ok []) := rfl

theorem handleResetBlock_badZone {b : Byte} (h : b = 0 ∨ 4 < b.toNat) :
    handleResetBlock [0x02, b] s = (s, { status := .badValue, detail := [2], body := [] }) := by
  simp only [handleResetBlock, zoneOfNumber_byte_eq_none h]; rfl

theorem handleResetBlock_badTarget {target : Byte} (zone : Byte) (h : 4 < target.toNat) :
    handleResetBlock [target, zone] s = (s, { status := .badValue, detail := [1], body := [] }) := by
  simp only [handleResetBlock]
  split
  case h_7 => rfl
  all_goals omega

theorem handleResetBlock_badLength {p : List Byte} (h : p.length ≠ 2) :
    handleResetBlock p s = (s, .of .badLength []) := by
  unfold handleResetBlock
  split
  · exact absurd rfl h
  · rfl

end

/-! ### The PROBES block (R20, R62) -/

section
variable {s : State} {m : Measurement} (hm : s.scanner.measurement = some m)

/-- R62: the records as the PROBES block reset leaves them. -/
def State.tableReset (s : State) : State := { s with probes := mapTable ProbeRecord.tableReset s.probes }

theorem State.tableReset_probe (s : State) (p : Fin 48) : s.tableReset.probe p = (s.probe p).tableReset :=
  getTable_mapTable _ _ p

/-- R62: a reset neither assigns nor blocks a probe, so the same probes qualify (R10). -/
theorem ProbeRecord.tableReset_qualifies (r : ProbeRecord) : r.tableReset.qualifies = r.qualifies := by
  cases hs : r.state <;> simp [ProbeRecord.tableReset, ProbeRecord.qualifies, ProbeRecord.renew, hs]

theorem ProbeRecord.tableReset_rangeMemory (r : ProbeRecord) : r.tableReset.rangeMemory = r.rangeMemory := by
  unfold ProbeRecord.tableReset
  split <;> rfl

theorem State.tableReset_nextProbe (s : State) (above : Nat) : s.tableReset.nextProbe above = s.nextProbe above :=
  State.nextProbe_congr fun q _ => by rw [s.tableReset_probe, ProbeRecord.tableReset_qualifies]

theorem State.resetProbes_of_none (h : s.scanner.measurement = none) : s.resetProbes = s.tableReset := by
  simp only [State.resetProbes, State.discardAny, h]; rfl

include hm

theorem State.resetProbes_of_measuring : s.resetProbes = s.tableReset.advanceScan m.probe := by
  simp only [State.resetProbes, State.discardAny, hm]; rfl

/-- R20, R10: the measurement is discarded, and the next qualifying probe above it is selected. -/
theorem State.resetProbes_selects {q : Fin 48} (hpq : m.probe < q) (hq : (s.probe q).qualifies = true)
    (hbetween : ∀ x, m.probe < x → x < q → (s.probe x).qualifies = false) :
    s.resetProbes = s.tableReset.setScanner (s.scanner.select q (s.probe q).rangeMemory) := by
  have hnext : s.tableReset.nextProbe (probeNumber m.probe) = some q := by
    rw [s.tableReset_nextProbe, State.nextProbe_eq_some_iff]
    exact ⟨(probeNumber_lt_iff _ q).2 hpq, hq, fun x hx hxq => hbetween x ((probeNumber_lt_iff _ x).1 hx) hxq⟩
  rw [State.resetProbes_of_measuring hm, State.advanceScan_of_next hnext, State.selectProbe, s.tableReset_probe,
    ProbeRecord.tableReset_rangeMemory]
  rfl

/-- R20, R11: the measurement is discarded with no probe above it, and the scan is over. -/
theorem State.resetProbes_ends (hnone : ∀ x, m.probe < x → (s.probe x).qualifies = false)
    (hd : s.scanner.startDue = false) : s.resetProbes = s.tableReset.publishScan.restScan := by
  have hnext : s.tableReset.nextProbe (probeNumber m.probe) = none := by
    rw [s.tableReset_nextProbe, State.nextProbe_eq_none_iff]
    exact fun q hq => hnone q ((probeNumber_lt_iff _ q).1 hq)
  rw [State.resetProbes_of_measuring hm, State.advanceScan_of_none hnext,
    State.completeScan_of_not_due (s := s.tableReset) hd]

end

/-! ### The ZONE block (R125, R131) -/

theorem latchedOnTime_zero (p : Nat) : latchedOnTime p 0 = 0 := (latchedOnTime_spec p 0).1 (by simp)

theorem zones_set_set {α : Type} (x : Zones α) (z : ZoneId) (a b : α) : (x.set z a).set z b = x.set z b := by
  cases z <;> rfl

/-- R125, R131: a zone's outputs after its reset. -/
def State.resetOutputs (s : State) (z : ZoneId) : ZoneOutputs :=
  let o := handedOver (s.zone z).zeroDemands s.settings.ventSafePosition (s.outputs.get z)
  { o with
    heat := o.heat.restartCycle s.settings.heatPeriod, spray := o.spray.restartCycle s.settings.sprayPeriod }

theorem State.resetZone_eq (s : State) (z : ZoneId) :
    s.resetZone z =
      { s with zones := s.zones.set z (s.zone z).zeroDemands, outputs := s.outputs.set z (s.resetOutputs z) } := by
  have hzone : (s.setZone z (s.zone z).zeroDemands).zone z = (s.zone z).zeroDemands := by simp
  simp only [State.resetZone, State.handDemands, hzone, State.restartCycles, zones_get_set_self, zones_set_set]
  rfl

theorem State.resetOutputs_valve (s : State) (z : ZoneId) (k : ValveKind) :
    (s.resetOutputs z).valve k =
      ({ (s.outputs.get z).valve k with demand := 0 } : Valve).restartCycle (s.settings.period k) := by
  cases k <;> rfl

/-- R131: with its demand gone a cycling valve starts a cycle of no on-time. -/
theorem Valve.restartCycle_of_noDemand (v : Valve) (p : Nat) :
    (v.cycle = none → ({ v with demand := 0 } : Valve).restartCycle p = { v with demand := 0 }) ∧
      (v.cycle.isSome = true →
        ({ v with demand := 0 } : Valve).restartCycle p =
          { v with demand := 0, output := false, cycle := some { period := p, elapsed := 0, onTime := 0 } }) := by
  cases hc : v.cycle with
  | none => exact ⟨fun _ => by simp [Valve.restartCycle], by simp⟩
  | some c => exact ⟨by simp, fun _ => by simp [Valve.restartCycle, Valve.startCycle, latchedOnTime_zero]⟩

end Sys2Proof.Machine
end

section
/-! BlockResetsReachTheirBlockAlone. -/

namespace Sys2Proof.Machine

section
variable {s : State} {tag : Byte} (h : s.Receptive)
include h

/-- R21, R178: the SCANNER block reset. -/
theorem scannerReset_served (b : Byte) :
    ∃ t, Served (.scannerBlockReset tag [b]) s t (.of .ok []) ∧
      t = { s with scanner := s.resetScanner.scanner, probes := s.resetScanner.probes, link := t.link } :=
  served_of_handled_quiet (c := .scannerBlockReset tag [b]) h rfl (by simp) rfl (handleResetBlock_scanner s b) rfl rfl

/-- R20, R62, R178: the PROBES block reset that does not end a scan. -/
theorem probesReset_served (b : Byte) {x : Scanner} (hx : s.resetProbes = s.tableReset.setScanner x) :
    ∃ t, Served (.probesBlockReset tag [b]) s t (.of .ok []) ∧
      t = { s with probes := s.tableReset.probes, scanner := x, link := t.link } := by
  have hhandled := handleResetBlock_probes s b
  rw [hx] at hhandled
  exact served_of_handled_quiet (c := .probesBlockReset tag [b]) h rfl (by simp) rfl hhandled rfl rfl

/-- R11, R20, R62, R178: the PROBES block reset that ends a scan. -/
theorem probesReset_ends (b : Byte) {m : Measurement} (hm : s.scanner.measurement = some m)
    (hnone : ∀ x, m.probe < x → (s.probe x).qualifies = false) (hd : s.scanner.startDue = false) :
    ∃ t, Served (.probesBlockReset tag [b]) s t (.of .ok []) ∧ (∀ p, t.probe p = (s.probe p).tableReset) ∧
      ScanEnds s t := by
  have hserved := served_of_handled (c := .probesBlockReset tag [b]) h rfl (by simp) rfl (handleResetBlock_probes s b)
    (by simp)
  rw [State.resetProbes_ends hm hnone hd] at hserved
  have hstands : PublicationStands s s.tableReset.publishScan s.scanner.scanNumber :=
    s.tableReset.publishScan_stands.of_before rfl rfl rfl rfl
  refine ⟨_, hserved, fun p => ?_, ?_, (hstands.restScan.then_same ?_ ?_ ?_ ?_ ?_ ?_).finishEvent⟩
  · rw [← s.tableReset_probe]; simp [State.probe]
  · simp only [State.finishEvent_frame, State.answer_frame]
    exact State.restScan_publishScan_scanner s.tableReset
  all_goals rfl

/-- R125, R131, R178: the ZONE block reset. -/
theorem zoneReset_served (z : ZoneId) :
    ∃ t, Served (.zoneBlockReset tag [BitVec.ofNat 8 z.number]) s t (.of .ok []) ∧
      t =
        { s with
          zones := s.zones.set z (s.zone z).zeroDemands, outputs := s.outputs.set z (s.resetOutputs z)
          link := t.link } := by
  have hhandled := handleResetBlock_zone s z
  rw [s.resetZone_eq] at hhandled
  exact served_of_handled_quiet (c := .zoneBlockReset tag [BitVec.ofNat 8 z.number]) h rfl (by simp) rfl hhandled rfl rfl

/-- R178: a length that RESET_BLOCK does not have, whatever the target. -/
theorem blockReset_badLength {rest : List Byte} (hrest : rest.length ≠ 1) {c : Instr}
    (hc : c = .scannerBlockReset tag rest ∨ c = .probesBlockReset tag rest ∨ c = .zoneBlockReset tag rest ∨
      c = .historyBlockReset tag rest ∨ c = .noticesBlockReset tag rest) :
    ServedUnchanged c s (.of .badLength []) := by
  have hhandled (target : Byte) : handleResetBlock (target :: rest) s = (s, .of .badLength []) :=
    handleResetBlock_badLength s (by simpa using hrest)
  obtain rfl | rfl | rfl | rfl | rfl := hc <;> exact servedUnchanged_of_handled h rfl (by simp) rfl (hhandled _)

end

/-- Settles O54: the answer of RESET_BLOCK's handler for each target, the scan that a PROBES reset ends or goes on with, and
the refusals, those of the bytes on the line among them. -/
theorem blockResetsReachTheirBlockAlone : Obligations.BlockResetsReachTheirBlockAlone := by
  unfold Obligations.BlockResetsReachTheirBlockAlone
  refine ⟨fun s tag b h => ⟨?_, ?_, fun z => ?_, ?_, ?_, fun hb => ?_, fun rest c hrest hc => ?_⟩,
    fun s tag low p ha hr hlast => ?_⟩
  · obtain ⟨t, hserved, ht⟩ := scannerReset_served (tag := tag) h b
    refine ⟨t, hserved, ?_, ?_, fun p => ?_⟩
    · rw [ht]
    · rw [ht]; rfl
    · rw [ht]; exact getTable_mapTable _ _ p
  · intro after
    have hafter (r : ProbeRecord) : r.tableReset = after r := by
      simp only [after, ProbeRecord.tableReset, ProbeRecord.renew]
      cases r.state <;> rfl
    have hprobe (t : State) (ht : t.probes = s.tableReset.probes) (p : Fin 48) : t.probe p = after (s.probe p) := by
      rw [← hafter, ← s.tableReset_probe]; exact congrArg (getTable · p) ht
    refine ⟨fun hm => ?_, fun m q hm hpq hq hbetween => ?_, fun m hm hnone hd => ?_⟩
    · obtain ⟨t, hserved, ht⟩ := probesReset_served (tag := tag) h b (State.resetProbes_of_none hm)
      exact ⟨t, hserved, by rw [ht], hprobe t (by rw [ht])⟩
    · obtain ⟨t, hserved, ht⟩ := probesReset_served (tag := tag) h b (State.resetProbes_selects hm hpq hq hbetween)
      exact ⟨t, hserved, by rw [ht], hprobe t (by rw [ht])⟩
    · obtain ⟨t, hserved, hrecords, hends⟩ := probesReset_ends (tag := tag) h b hm hnone hd
      exact ⟨t, hserved, fun p => (hrecords p).trans (hafter _), hends⟩
  · obtain ⟨t, hserved, ht⟩ := zoneReset_served (tag := tag) h z
    have hzone : t.zone z = (s.zone z).zeroDemands := by rw [ht]; exact zones_get_set_self _ z _
    have houtputs : t.outputs.get z = s.resetOutputs z := by rw [ht]; exact zones_get_set_self _ z _
    refine ⟨t, hserved, by rw [hzone, houtputs]; exact ht, hzone, by rw [houtputs]; rfl, fun k => ?_⟩
    rw [houtputs, s.resetOutputs_valve]
    exact Valve.restartCycle_of_noDemand _ _
  · exact served_of_handled_quiet (c := .historyBlockReset tag [b]) h rfl (by simp) rfl (handleResetBlock_history s b)
      rfl rfl
  · exact served_of_handled_quiet (c := .noticesBlockReset tag [b]) h rfl (by simp) rfl (handleResetBlock_notices s b)
      rfl rfl
  · exact servedUnchanged_of_handled (c := .zoneBlockReset tag [b]) h rfl (by simp) rfl (handleResetBlock_badZone s hb)
  · exact blockReset_badLength h hrest hc
  · refine ⟨_, exec_lastByte ha hr hlast rfl, fun hp => ?_, ?_⟩
    · exact answered_of_refused ha.due_none (handleResetBlock_badLength s hp) _ _
    · rintro target zone rfl hover
      exact answered_of_refused ha.due_none (handleResetBlock_badTarget s zone hover) _ _

end Sys2Proof.Machine
end

section
/-! SUPPORT. The load (R41, R173, R174): the settings, the run and the notices that it leaves before READY. -/

namespace Sys2Proof.Machine

/-! ### Notices that follow one another -/

/-- An event's notices continue those that its first part has queued. -/
theorem State.Queues.notices_of {s t u : State} (h : t.Queues u) {xs : List (NoticeKind × Nat × Nat)}
    (hc : t.clock = s.clock) (hn : t.notices = noticesAfter s xs) : ∃ more, u.notices = noticesAfter s (xs ++ more) := by
  obtain ⟨-, ys, hys⟩ := h
  exact ⟨ys, by rw [hys, noticesAfter_append hc hn]⟩

/-! ### The settings (R173) -/

/-- R173: what the settings region gives in a state. -/
def State.settingsGiven (s : State) (reads : Bool) : SettingsLoad :=
  settingsLoad s.straps.skipSettings reads s.memory.settingsRegion

section
variable {s : State} {reads : Bool}

theorem State.settingsGiven_image {image : Image} (hregion : s.memory.settingsRegion = .image image)
    (hskip : s.straps.skipSettings = false) (hreads : reads = true) : s.settingsGiven reads = .applied image := by
  simp [State.settingsGiven, settingsLoad, hregion, hskip, hreads]

theorem State.settingsGiven_default
    (h : (∀ image, s.memory.settingsRegion ≠ .image image) ∨ s.straps.skipSettings = true ∨ reads = false) :
    ∃ cause, s.settingsGiven reads = .defaulted cause := by
  unfold State.settingsGiven settingsLoad
  obtain h | h | h := h
  · split
    · exact ⟨_, rfl⟩
    · split
      · exact ⟨_, rfl⟩
      · cases hregion : s.memory.settingsRegion with
        | image body => exact absurd hregion (h body)
        | unmarked | otherVersion | crcDisagrees => exact ⟨_, rfl⟩
  · exact ⟨_, if_pos h⟩
  · split
    · exact ⟨_, rfl⟩
    · exact ⟨_, if_pos (by simp [h])⟩

/-- R173: the notice of the settings load. -/
theorem State.applySettings_notices :
    (s.applySettings (s.settingsGiven reads)).notices =
      noticesAfter s ((defaultedCause s reads).toList.map fun cause => (.settingsDefaulted, cause, 0)) := by
  unfold State.settingsGiven settingsLoad defaultedCause
  cases s.straps.skipSettings with
  | true => rfl
  | false =>
    cases reads with
    | false => rfl
    | true => cases s.memory.settingsRegion <;> rfl

end

/-! ### The run (R65, R82, R114, R174) -/

/-- R174: what the checkpoint region gives in a state. -/
def State.runGiven (s : State) (settingsReads checkpointReads : Bool) : RunLoad :=
  runLoad (s.settingsGiven settingsReads) checkpointReads s.memory.checkpointRegion

/-- R174: the notices of a checkpoint load. -/
def RunLoad.notices : RunLoad → List (NoticeKind × Nat × Nat)
  | .idle => []
  | .lost => [(.checkpointLost, 0, 0)]
  | .restored b => [(.runRestored, b.stepIndex, 0)]

/-- R65, R82: the part with the checkpoint's schedule and run, its zones and fans still as they were. -/
def State.runLoaded (s : State) (b : CheckpointBody) : State :=
  { s with schedule := { bufferA := b.schedule, bufferB := [], active := .a, adoption := none }, run := b.run }

/-- R114: the ramp origin that the checkpoint holds for a zone, or the step's target. -/
def CheckpointBody.origin (b : CheckpointBody) (step : StepRecord) (z : ZoneId) : Int :=
  (b.origins.get z).getD step.dbTarget

section
variable (s : State) (b : CheckpointBody)

theorem State.restoreRun_of_step {step : StepRecord} (h : b.schedule[b.stepIndex]? = some step) :
    s.restoreRun b =
      (((s.runLoaded b).zonesTakeStep step (b.origin step)).handFans step).queueNotice .runRestored b.stepIndex 0 := by
  have hstep : (s.runLoaded b).currentStep = some step := h
  rw [State.runLoaded] at hstep
  simp only [State.restoreRun, hstep]
  rfl

theorem State.restoreRun_of_noStep (h : b.schedule[b.stepIndex]? = none) :
    s.restoreRun b = (s.runLoaded b).queueNotice .runRestored b.stepIndex 0 := by
  have hstep : (s.runLoaded b).currentStep = none := h
  rw [State.runLoaded] at hstep
  simp only [State.restoreRun, hstep]
  rfl

theorem State.restoreRun_loads :
    (s.restoreRun b).run = b.run ∧ (s.restoreRun b).schedule = (s.runLoaded b).schedule ∧
      (s.restoreRun b).notices = noticesAfter s [(.runRestored, b.stepIndex, 0)] := by
  cases h : b.schedule[b.stepIndex]? with
  | none => rw [s.restoreRun_of_noStep b h]; exact ⟨rfl, rfl, rfl⟩
  | some step => rw [s.restoreRun_of_step b h]; simp [State.runLoaded, noticesAfter]

/-- R114, R134: the step in force has its fans' settings handed over, and every active zone on its targets. -/
theorem State.restoreRun_step {step : StepRecord} (h : b.schedule[b.stepIndex]? = some step) :
    ((s.restoreRun b).fans.reversalInterval = step.reversalInterval ∧ (s.restoreRun b).fans.speed = step.speed) ∧
      ∀ z, s.zoneActive z = true →
        ((s.restoreRun b).zone z).ramp = some (rampFrom step (b.origin step z)) := by
  rw [s.restoreRun_of_step b h]
  refine ⟨State.handFans_settings _ _, fun z hz => ?_⟩
  have hzones : ((((s.runLoaded b).zonesTakeStep step (b.origin step)).handFans step).queueNotice
      .runRestored b.stepIndex 0).zones = ((s.runLoaded b).zonesTakeStep step (b.origin step)).zones := by simp
  have hactive : (s.runLoaded b).zoneActive z = true := hz
  rw [State.zone, hzones, State.zonesTakeStep, zones_get_map, if_pos hactive]

end

theorem State.applyRun_notices (s : State) (x : RunLoad) : (s.applyRun x).notices = noticesAfter s x.notices := by
  cases x with
  | idle | lost => rfl
  | restored b => exact (s.restoreRun_loads b).2.2

/-! ### The part as the load leaves it -/

/-- R171 to R175: the part at the end of the load, before READY. -/
def State.loaded (s : State) (settingsReads checkpointReads : Bool) : State :=
  let t := (s.applySettings (s.settingsGiven settingsReads)).applyRun (s.runGiven settingsReads checkpointReads)
  { t with memory := t.memory.startNext }

theorem State.endLoad_eq (s : State) (a b : Bool) : s.endLoad a b = (s.loaded a b).reachReady := rfl

/-- R173, R174: the two notices of the load are those that its two parts queue. -/
theorem loadNotices_eq (s : State) (a b : Bool) :
    loadNotices s a b =
      (defaultedCause s a).toList.map (fun cause => (.settingsDefaulted, cause, 0)) ++ (s.runGiven a b).notices := by
  unfold loadNotices State.runGiven State.settingsGiven
  congr 1
  cases hskip : s.straps.skipSettings with
  | true => rfl
  | false =>
    cases a with
    | false => rfl
    | true =>
      cases b <;> cases s.memory.settingsRegion <;> cases s.memory.checkpointRegion <;> rfl

section
variable (s : State) (a b : Bool)

@[simp] theorem State.loaded_frame :
    (s.loaded a b).powered = s.powered ∧ (s.loaded a b).straps = s.straps ∧ (s.loaded a b).clock = s.clock ∧
    (s.loaded a b).scanner = s.scanner ∧ (s.loaded a b).sampler = s.sampler ∧
    (s.loaded a b).interlocks = s.interlocks ∧ (s.loaded a b).history = s.history ∧ (s.loaded a b).link = s.link ∧
    (s.loaded a b).memory = s.memory.startNext ∧ (s.loaded a b).due = s.due ∧ (s.loaded a b).pending = s.pending ∧
    (s.loaded a b).settings = (s.applySettings (s.settingsGiven a)).settings ∧
    (s.loaded a b).probes = (s.applySettings (s.settingsGiven a)).probes := by
  simp [State.loaded]

theorem State.loaded_notices : (s.loaded a b).notices = noticesAfter s (loadNotices s a b) := by
  rw [loadNotices_eq, ← noticesAfter_append (by simp) State.applySettings_notices]
  exact State.applyRun_notices _ _

end

end Sys2Proof.Machine
end

section
/-! SUPPORT. READY (R133, R148, R171): its actions queue notices and leave the settings, the probes and the memory; and what
LOAD_END comes to. -/

namespace Sys2Proof.Machine

/-! ### The notices of a trip (R140, R146, R147) -/

section
variable (s : State) (i : Input)

theorem State.runEntersSafe_queues : s.Queues (s.runEntersSafe i) :=
  .then_checkpoint (.then_notice (.of_same rfl rfl) _ _ _)

theorem State.judgeInterlock_queues : s.Queues s.judgeInterlock := s.judgeReason_queues _ _

theorem State.runOnLatchSignal_queues : s.Queues (s.runOnLatchSignal i) := by
  unfold State.runOnLatchSignal
  split
  · exact ((s.runEntersSafe_queues i).trans (State.fansFollowRun_queues _)).trans (State.judgeInterlock_queues _)
  · exact s.judgeInterlock_queues

theorem State.safeThenFanLatch_queues : s.Queues s.safeThenFanLatch :=
  (((s.runEntersSafe_queues .fanRun).trans (State.fansOnLatchSet_queues _)).trans
    (State.fansFollowRun_queues _)).trans (State.judgeInterlock_queues _)

theorem State.signalLatchSet_queues : s.Queues (s.signalLatchSet i) := by
  have hdrawn : s.Queues s.drawn := .of_same rfl rfl
  unfold State.signalLatchSet
  split
  · split
    · exact (hdrawn.trans (State.fansOnLatchSet_queues _)).trans (State.runOnLatchSignal_queues _ i)
    · split
      · exact hdrawn.trans (State.safeThenFanLatch_queues _)
      · exact (hdrawn.trans (State.runOnLatchSignal_queues _ i)).trans (State.fansOnLatchSet_queues _)
    · exact (hdrawn.trans (State.runOnLatchSignal_queues _ i)).trans (State.fansOnLatchSet_queues _)
  · exact s.runOnLatchSignal_queues i

theorem State.trip_queues : s.Queues (s.trip i) := by
  have hnotice : s.Queues (s.queueNotice .interlockTripped i.number (s.inputLevel i)) := .then_notice (.refl s) _ _ _
  simp only [State.trip]
  split
  · exact hnotice
  · exact (hnotice.then_same rfl rfl).trans (State.signalLatchSet_queues _ i)

end

/-! ### The actions of READY -/

section
variable (s : State) (a : ReadyAction)

@[simp] theorem State.takeReadyAction_frame :
    (s.takeReadyAction a).powered = s.powered ∧ (s.takeReadyAction a).ready = s.ready ∧
    (s.takeReadyAction a).straps = s.straps ∧ (s.takeReadyAction a).clock = s.clock ∧
    (s.takeReadyAction a).settings = s.settings ∧ (s.takeReadyAction a).probes = s.probes ∧
    (s.takeReadyAction a).sampler = s.sampler ∧ (s.takeReadyAction a).link = s.link ∧
    (s.takeReadyAction a).memory = s.memory ∧ (s.takeReadyAction a).pending = s.pending := by
  cases a <;> simp [State.takeReadyAction]

theorem State.takeReadyAction_queues : s.Queues (s.takeReadyAction a) := by
  cases a with
  | scanStart => exact s.startScan_queues
  | trip i => exact s.trip_queues i
  | fanStart => exact s.fansFollowRun_queues

end

section
variable (s : State)

/-- R133, R171: the part READY, its outputs driven, with none of READY's actions taken. -/
def State.driven : State :=
  ({ s with ready := true, sampler := { s.sampler with timer := 0, mark := .none } } : State).refreshOutputs

@[simp] theorem State.reachReady_frame :
    s.reachReady.powered = s.powered ∧ s.reachReady.ready = true ∧ s.reachReady.straps = s.straps ∧
    s.reachReady.clock = s.clock ∧ s.reachReady.settings = s.settings ∧ s.reachReady.probes = s.probes ∧
    s.reachReady.sampler = { s.sampler with timer := 0, mark := .none } ∧ s.reachReady.link = s.link ∧
    s.reachReady.memory = s.memory ∧ s.reachReady.pending = s.pending :=
  State.reachReady_keeps
    (P := fun t => t.powered = s.powered ∧ t.ready = true ∧ t.straps = s.straps ∧ t.clock = s.clock ∧
      t.settings = s.settings ∧ t.probes = s.probes ∧ t.sampler = { s.sampler with timer := 0, mark := .none } ∧
      t.link = s.link ∧ t.memory = s.memory ∧ t.pending = s.pending)
    s (fun n => by simp) fun t a ht => by simpa using ht

theorem State.reachReady_queues : s.Queues s.reachReady :=
  State.reachReady_keeps s (fun n => .of_same (by simp) (by simp)) fun t a ht => ht.trans (t.takeReadyAction_queues a)

/-- R148, R171: with one action at READY there is nothing to order. -/
theorem State.reachReady_of_one {a : ReadyAction} (h : s.driven.readyActions = [a]) :
    s.reachReady = ({ s.driven with draws := s.draws + 1 } : State).takeReadyAction a := by
  rw [State.driven] at h
  simp only [State.reachReady, h, State.driven]
  simp [arrange]

end

/-! ### LOAD_END -/

theorem Memory.startNext_op {m : Memory} (h : m.loadWaits = false) : m.startNext.op ≠ .load := by
  obtain ⟨hcheckpoint, -, hsave, hidle⟩ := m.startNext_goesOn
  cases hc : m.pendingCheckpoint with
  | some c => simp [hcheckpoint c hc]
  | none =>
    cases hs : m.pendingSave with
    | some i => simp [hsave hc h i hs]
    | none => simp [hidle hc h hs]

theorem State.finishEvent_op {s : State} (h : s.memory.op ≠ .load) : s.finishEvent.memory.op ≠ .load := by
  obtain heq | ⟨-, -, heq⟩ := s.finishEvent_cases
  · rwa [heq]
  · rw [heq]
    obtain ⟨-, hstart⟩ | ⟨-, hslot⟩ := s.memory.requestCheckpoint_cases s.checkpointNow
    · simp [hstart, Memory.startCheckpoint]
    · simpa [hslot] using h

theorem exec_loadEnd {s : State} (ha : s.Awake) (hr : s.ready = false) (hop : s.memory.op = .load) (a b : Bool) :
    exec (.loadEnd a b) s = .next (s.loaded a b).reachReady.finishEvent := by
  show Host.Outcome.next (s.event _) = _
  rw [s.event_of_awake ha, if_pos (by simp [hr, hop]), State.endLoad_eq]

/-- R173, R174: the notices of the load stand before every notice of READY. -/
theorem State.loaded_reachReady_notices (s : State) (a b : Bool) :
    ∃ more, (s.loaded a b).reachReady.finishEvent.notices = noticesAfter s (loadNotices s a b ++ more) := by
  have hqueues := (s.loaded a b).reachReady_queues.then_same (u := (s.loaded a b).reachReady.finishEvent)
    (by simp) (by simp)
  exact hqueues.notices_of (by simp) (s.loaded_notices a b)

end Sys2Proof.Machine
end

section
/-! SUPPORT. READY of a part without a run, with its default settings, with contacts that conform and with no probe assigned:
the scan start is its one action (R9, R11, R22, R148). -/

namespace Sys2Proof.Machine

/-! ### A publication outside a run (R56, R155) -/

theorem State.evaluatedStep_of_not_running {s : State} (h : s.run.state ≠ .running) : s.evaluatedStep = none := if_neg h

section
variable {s : State} (h : s.run.state.inProgress = false)
include h

theorem State.publish_idle (n : Nat) :
    s.publish n = (s.keepPublication (s.publicationNow n)).appendFrame (s.publicationNow n) := by
  have hquiet : s.noticeQuorum (s.publicationNow n) = s := by
    simp [State.noticeQuorum, RunState.not_going h]
  have hkept : (s.keepPublication (s.publicationNow n)).run = s.run := rfl
  have hidle : s.run.state ≠ .running := fun hr => by simp [hr, RunState.inProgress] at h
  rw [State.publish_eq_judged, State.publicationJudged, hquiet, State.judgeReason_idle (by rwa [hkept]),
    State.testAtPublication_of_none (State.evaluatedStep_of_not_running (by rwa [hkept]))]

/-- R9, R11: a scan that starts without a probe outside a run publishes, and changes nothing else but the scanner. -/
theorem State.startScan_idle (hnone : s.nextProbe 0 = none) :
    s.startScan =
      { s with scanner := s.startScan.scanner, statistics := s.startScan.statistics, history := s.startScan.history } ∧
    s.startScan.history.sequence = (s.history.sequence + 1) % 65536 := by
  rw [State.startScan_of_none hnone, State.publishScan, State.publish_idle (by exact h)]
  refine ⟨rfl, ?_⟩
  show (History.append _ _).sequence = _
  unfold History.append
  split <;> rfl

end

/-! ### No trip and no fan start -/

theorem Settings.default_expectedClosed {i : Input} (h : i ≠ .fanRun) :
    (Settings.default.interlocks.get i).expectedClosed = true := by
  cases i with
  | fanRun => exact absurd rfl h
  | _ => rfl

/-- R143: with the default settings an input that conforms where it is compared does not trip at READY. -/
theorem State.readyActions_calm {s : State} (hs : s.settings = .default) (hrun : s.run.state.going = false)
    (hfan : s.fans.compareActive = false)
    (hlive : ∀ i, (s.settings.interlocks.get i).compare = true → i ≠ .fanRun → (s.input i).live = true) :
    s.readyActions = [.scanStart] := by
  have hcalm (i : Input) (hj : s.judged i = true) : s.conforms i = true := by
    have hactive : s.comparisonActive i = true := (Bool.and_eq_true_iff.1 hj).1
    by_cases hi : i = .fanRun
    · subst hi; exact absurd (hfan.symm.trans hactive) (by simp)
    · rw [State.comparisonActive_of_ne hi, Bool.and_eq_true] at hactive
      rw [State.conforms, State.expectedClosed_of_ne hi, hlive i hactive.2 hi, hs, Settings.default_expectedClosed hi]
      rfl
  have htrips : Input.all.filter (fun i => s.judged i && !s.conforms i) = [] :=
    List.filter_eq_nil_iff.2 fun i _ => by
      cases hj : s.judged i <;> simp [hcalm i, hj]
  simp only [State.readyActions, htrips, hrun, hs]
  rfl

end Sys2Proof.Machine
end

section
/-! LoadEndReachesReady. -/

namespace Sys2Proof.Machine

/-! ### What the load gives (R41, R173) -/

section
variable {s : State} {settingsReads checkpointReads : Bool}

theorem State.loaded_of_image {image : Image} (hregion : s.memory.settingsRegion = .image image)
    (hskip : s.straps.skipSettings = false) (hreads : settingsReads = true) :
    (s.loaded settingsReads checkpointReads).settings = image.settings ∧
      ∀ p, (s.loaded settingsReads checkpointReads).probe p = (getTable image.probes p).record := by
  simp only [State.probe, State.loaded_frame, State.settingsGiven_image hregion hskip hreads]
  exact ⟨rfl, fun p => getTable_mapTable _ _ p⟩

theorem State.loaded_of_default
    (h : (∀ image, s.memory.settingsRegion ≠ .image image) ∨ s.straps.skipSettings = true ∨ settingsReads = false) :
    (s.loaded settingsReads checkpointReads).settings = s.settings ∧
      (s.loaded settingsReads checkpointReads).probes = s.probes := by
  obtain ⟨cause, hcause⟩ := State.settingsGiven_default h
  simp only [State.loaded_frame, hcause]
  exact ⟨rfl, rfl⟩

/-- R173, R174: with the settings defaulted and no run restored the load leaves its notices, and the memory to go on. -/
theorem State.loaded_of_nothing
    (h : (∀ image, s.memory.settingsRegion ≠ .image image) ∨ s.straps.skipSettings = true ∨ settingsReads = false)
    (hrun : ∀ body, s.runGiven settingsReads checkpointReads ≠ .restored body) :
    s.loaded settingsReads checkpointReads =
      { s with
        notices := noticesAfter s (loadNotices s settingsReads checkpointReads), memory := s.memory.startNext } := by
  obtain ⟨cause, hcause⟩ := State.settingsGiven_default h
  rw [← State.loaded_notices, State.loaded, hcause]
  cases hgiven : s.runGiven settingsReads checkpointReads with
  | idle | lost => rfl
  | restored body => exact absurd hgiven (hrun body)

/-- R174: a run is restored from a region that marks one, read after a settings region that was read. -/
theorem State.runGiven_restored {body : CheckpointBody} (h : s.runGiven settingsReads checkpointReads = .restored body) :
    s.memory.checkpointRegion = .run body ∧ checkpointReads = true ∧ s.straps.skipSettings = false ∧
      settingsReads = true := by
  refine ⟨runLoad_restored h, ?_⟩
  unfold State.runGiven State.settingsGiven settingsLoad runLoad at h
  cases hskip : s.straps.skipSettings <;> cases settingsReads <;> cases checkpointReads <;> simp [hskip] at h ⊢
  split at h <;> simp at h

end

/-! ### The first scan without a probe (R9, R22) -/

theorem State.eligibleProbes_of_cleared {s : State} (h : ∀ p, s.probe p = .cleared) : s.eligibleProbes = [] := by
  simp [State.eligibleProbes, h, ProbeRecord.eligible, ProbeRecord.cleared]

/-- R9, R11, R22, R56: the scan start at READY of a part that has just been powered, with no probe assigned. -/
theorem State.firstScan_empty {u : State} (hrun : u.run = .cleared) (hs : u.settings = .default)
    (hscanner : u.scanner = .powerOn) (hp : ∀ p, u.probe p = .cleared) :
    u.startScan =
        { u with scanner := u.startScan.scanner, statistics := u.startScan.statistics, history := u.startScan.history } ∧
      u.startScan.scanner = { Scanner.powerOn with state := .waiting, scanNumber := 1 } ∧
      u.startScan.statistics.keptQuorum = .lost ∧
      u.startScan.history.sequence = (u.history.sequence + 1) % 65536 := by
  have hnone : u.nextProbe 0 = none := State.nextProbe_zero_of_none fun p => by rw [hp]; rfl
  obtain ⟨hkept, hsequence⟩ := State.startScan_idle (s := u) (by rw [hrun]; rfl) hnone
  refine ⟨hkept, ?_, ?_, hsequence⟩
  · rw [State.startScan_of_none_scanner hnone, hscanner, hs]; rfl
  · have hprobes : ∀ p, u.startScan.probe p = .cleared := fun p => by rw [← hp p]; simp [State.probe]
    have hsettings : u.startScan.settings = .default := by simpa using hs
    rw [(State.startScan_of_none_stands hnone).1, State.publicationNow_quorum,
      State.eligibleProbes_of_cleared hprobes, hsettings]
    rfl

/-- Settles O4: the load's settings, probes and notices stand at READY; and of a part without a run, with its defaults and
with contacts that conform, the scan start is all of READY. -/
theorem loadEndReachesReady : Obligations.LoadEndReachesReady := by
  unfold Obligations.LoadEndReachesReady
  refine ⟨fun s settingsReads checkpointReads ha hr hop hwaits => ?_, ?_⟩
  · refine ⟨_, exec_loadEnd ha hr hop _ _, by simp, State.finishEvent_op ?_, by simp, by simp, by simp, by simp, by simp,
      ?_, s.loaded_reachReady_notices _ _, fun image hregion hskip hreads => ?_, fun hdefault => ?_⟩
    · simpa using Memory.startNext_op hwaits
    · simpa using ha.1
    · obtain ⟨hsettings, hprobes⟩ :=
        State.loaded_of_image (checkpointReads := checkpointReads) hregion hskip hreads
      refine ⟨by simpa only [State.finishEvent_frame, State.reachReady_frame] using hsettings, fun p => ?_⟩
      have hkept : (s.loaded settingsReads checkpointReads).reachReady.finishEvent.probe p =
          (s.loaded settingsReads checkpointReads).probe p := by
        simp only [State.probe, State.finishEvent_frame, State.reachReady_frame]
      rw [hkept, hprobes]
      unfold SavedProbe.record
      cases (getTable image.probes p).assignment <;> rfl
    · simpa only [State.finishEvent_frame, State.reachReady_frame] using State.loaded_of_default hdefault
  · intro s settingsReads checkpointReads ha hr hop hwaits hcheckpoint hsave hrun hs hscanner hnotices hfans hp hlive himage
      hbody
    have hdefault : (∀ image, s.memory.settingsRegion ≠ .image image) ∨ s.straps.skipSettings = true ∨
        settingsReads = false := by
      by_contra hnot
      rw [not_or] at hnot
      exact hnot.1 fun image hregion => hnot.2 (himage image hregion)
    have hnorun (body : CheckpointBody) : s.runGiven settingsReads checkpointReads ≠ .restored body := fun hgiven => by
      obtain ⟨hregion, hreads, hskip, hsettings⟩ := State.runGiven_restored hgiven
      simpa [hreads, hskip, hsettings] using hbody body hregion
    obtain ⟨u, hu⟩ : ∃ u, u =
        ({ (s.loaded settingsReads checkpointReads).driven with
            draws := (s.loaded settingsReads checkpointReads).draws + 1 } : State) := ⟨_, rfl⟩
    have hloaded := State.loaded_of_nothing hdefault hnorun
    have hready : (s.loaded settingsReads checkpointReads).reachReady = u.startScan := by
      rw [hu]
      refine State.reachReady_of_one _ (State.readyActions_calm ?_ ?_ ?_ ?_) <;> rw [hloaded]
      · exact hs
      · exact congrArg (fun r => r.state.going) hrun
      · exact congrArg Fans.compareActive hfans
      · exact hlive
    rw [hloaded] at hu
    obtain ⟨hkept, hwaiting, hquorum, hsequence⟩ := State.firstScan_empty (u := u) (by rw [hu]; exact hrun)
      (by rw [hu]; exact hs) (by rw [hu]; exact hscanner) (by rw [hu]; exact hp)
    obtain ⟨-, -, -, hidle⟩ := s.memory.startNext_goesOn
    have hdue : u.startScan.due = .none := by rw [hkept, hu]; exact ha.due_none
    refine ⟨_, exec_loadEnd ha hr hop _ _, ?_⟩
    rw [hready, State.finishEvent_of_due_none _ hdue]
    refine ⟨?_, ?_, ?_, hwaiting, ?_, hquorum, ?_⟩
    · rw [hkept, hu]; rfl
    · rw [hkept, hu]; exact hrun
    · rw [hkept, hu]
      exact congrArg Memory.op (hidle hcheckpoint hwaits hsave)
    · rw [hkept, hu]; rfl
    · rw [hsequence, hu]; rfl

end Sys2Proof.Machine
end

section
/-! SUPPORT. A restored run at READY (R82, R97, R101, R134, R174): RESTORED holds it, so no action of READY ends, resumes or
moves it, whatever their order. -/

namespace Sys2Proof.Machine

/-! ### The fans keep what the step has handed over (R134, R138) -/

/-- R134, R138: what a step hands over to the Fan Sequencer. -/
def Fans.handed (f : Fans) : Nat × Speed := (f.reversalInterval, f.speed)

section
variable (s : State)

@[simp] theorem State.fansEnterStopped_handed : s.fansEnterStopped.fans.handed = s.fans.handed := rfl

@[simp] theorem State.fansEnterFailed_handed : s.fansEnterFailed.fans.handed = s.fans.handed := by
  rw [State.fansEnterFailed_fans]; rfl

@[simp] theorem State.fansEnterRunning_handed : s.fansEnterRunning.fans.handed = s.fans.handed := by
  rw [State.fansEnterRunning_eq, State.checkReversal]
  split <;> rfl

@[simp] theorem State.fansEnterStarting_handed : s.fansEnterStarting.fans.handed = s.fans.handed := by
  simp only [State.fansEnterStarting]
  split
  · exact State.fansEnterRunning_handed _
  · rfl

@[simp] theorem State.fansStart_handed : s.fansStart.fans.handed = s.fans.handed := by
  simp only [State.fansStart]
  split
  · exact State.fansEnterFailed_handed _
  · exact State.fansEnterStarting_handed _

@[simp] theorem State.fansFollowRun_handed : s.fansFollowRun.fans.handed = s.fans.handed := by
  unfold State.fansFollowRun
  (repeat' split) <;> simp

@[simp] theorem State.fansOnLatchSet_handed : s.fansOnLatchSet.fans.handed = s.fans.handed := by
  unfold State.fansOnLatchSet
  split <;> simp

end

/-! ### RESTORED stays among the reasons (R97) -/

theorem State.judgeReason_of_restored {s : State} (hs : s.run.state = .held ∨ s.run.state = .safe)
    (hr : s.run.reasons.restored = true) {q : HoldReason} (hq : q ≠ .restored) (present : Bool) :
    ∃ x : HoldSet, x.restored = true ∧ (s.judgeReason q present).run = { s.run with reasons := x } := by
  have hp : s.run.state.inProgress = true := by obtain h | h := hs <;> simp [h, RunState.inProgress]
  have hput (b : Bool) : (s.run.reasons.put q b).restored = true := (HoldSet.has_put_ne _ _ _ b hq.symm).trans hr
  cases present with
  | true =>
    have hjudge : s.judgeReason q true = s.addReason q := by simp [State.judgeReason, hp]
    rw [hjudge]
    cases hhas : s.run.reasons.has q with
    | true => exact ⟨_, hr, by rw [State.addReason_of_present hhas]⟩
    | false =>
      refine ⟨_, hput true, ?_⟩
      obtain h | h := hs
      · rw [State.addReason_of_held hhas h]; rfl
      · rw [State.addReason_of_safe hhas h]
  | false =>
    have hjudge : s.judgeReason q false = s.removeReason q := by simp [State.judgeReason, hp]
    rw [hjudge]
    cases hhas : s.run.reasons.has q with
    | true =>
      have hstays : s.run.reasons.put q false ≠ .empty := fun he => by simpa [he, HoldSet.empty] using hput false
      exact ⟨_, hput false, by rw [State.removeReason_stays hhas (.inr hstays)]⟩
    | false => exact ⟨_, hr, by rw [State.removeReason_of_absent hhas]⟩

/-- R82, R101, R174: since the load the run is HELD or SAFE with RESTORED among its reasons, and nothing else of it, of its
schedule, of the zones or of what its step has handed to the fans has changed. -/
structure State.StaysRestored (loaded t : State) : Prop where
  state : t.run.state = .held ∨ t.run.state = .safe
  restored : t.run.reasons.restored = true
  inBand : t.run.inBand = false
  run : t.run = { loaded.run with state := t.run.state, reasons := t.run.reasons }
  schedule : t.schedule = loaded.schedule
  zones : t.zones = loaded.zones
  fans : t.fans.handed = loaded.fans.handed

section
variable {u s t : State} (h : u.StaysRestored s)
include h

theorem State.StaysRestored.congr (hr : t.run = s.run) (hs : t.schedule = s.schedule) (hz : t.zones = s.zones)
    (hf : t.fans.handed = s.fans.handed) : u.StaysRestored t := by
  obtain ⟨hstate, hrestored, hband, hrun, hschedule, hzones, hfans⟩ := h
  rw [← hr] at hstate hrestored hband hrun
  exact ⟨hstate, hrestored, hband, hrun, hs.trans hschedule, hz.trans hzones, hf.trans hfans⟩

theorem State.StaysRestored.judgeReason {q : HoldReason} (hq : q ≠ .restored) (present : Bool) :
    u.StaysRestored (s.judgeReason q present) := by
  obtain ⟨x, hx, hrun⟩ := State.judgeReason_of_restored h.state h.restored hq present
  refine ⟨?_, ?_, ?_, ?_, by simpa using h.schedule, by simpa using h.zones, by simpa using h.fans⟩ <;> rw [hrun]
  · exact h.state
  · exact hx
  · exact h.inBand
  · rw [h.run]

theorem State.StaysRestored.judgeInterlock : u.StaysRestored s.judgeInterlock := h.judgeReason (by simp) _

theorem State.StaysRestored.fansFollowRun : u.StaysRestored s.fansFollowRun :=
  h.congr (by simp) (by simp) (by simp) (by simp)

theorem State.StaysRestored.fansOnLatchSet : u.StaysRestored s.fansOnLatchSet :=
  h.congr (by simp) (by simp) (by simp) (by simp)

/-- R101: a restored run may enter SAFE. -/
theorem State.StaysRestored.runEntersSafe (i : Input) : u.StaysRestored (s.runEntersSafe i) := by
  have hrun : (s.runEntersSafe i).run = { s.run with state := .safe } :=
    congrArg (fun inBand => ({ s.run with state := .safe, inBand } : Run)) h.inBand.symm
  refine ⟨?_, ?_, ?_, ?_, h.schedule, h.zones, h.fans⟩ <;> rw [hrun]
  · exact .inr rfl
  · exact h.restored
  · exact h.inBand
  · rw [h.run]

theorem State.StaysRestored.runOnLatchSignal (i : Input) : u.StaysRestored (s.runOnLatchSignal i) := by
  unfold State.runOnLatchSignal
  split
  · exact ((h.runEntersSafe i).fansFollowRun).judgeInterlock
  · exact h.judgeInterlock

theorem State.StaysRestored.signalLatchSet (i : Input) : u.StaysRestored (s.signalLatchSet i) := by
  have hdrawn : u.StaysRestored s.drawn := h.congr rfl rfl rfl rfl
  unfold State.signalLatchSet
  split
  · split
    · exact hdrawn.fansOnLatchSet.runOnLatchSignal i
    · split
      · exact ((hdrawn.runEntersSafe .fanRun).fansOnLatchSet.fansFollowRun).judgeInterlock
      · exact (hdrawn.runOnLatchSignal i).fansOnLatchSet
    · exact (hdrawn.runOnLatchSignal i).fansOnLatchSet
  · exact h.runOnLatchSignal i

theorem State.StaysRestored.trip (i : Input) : u.StaysRestored (s.trip i) := by
  simp only [State.trip]
  split
  · exact h.congr rfl rfl rfl rfl
  · refine State.StaysRestored.signalLatchSet (s := State.setInput _ _ _) ?_ i
    exact h.congr rfl rfl rfl rfl

/-- R88, R94: a publication judges QUORUM, and no advance test of a run that is not RUNNING. -/
theorem State.StaysRestored.publish (n : Nat) : u.StaysRestored (s.publish n) := by
  have hjudged : u.StaysRestored (s.publicationJudged (s.publicationNow n)) :=
    State.StaysRestored.judgeReason (h.congr (by simp) (by simp) (by simp) (by simp)) (by simp) _
  have hnotRunning : (s.publicationJudged (s.publicationNow n)).run.state ≠ .running := by
    obtain hs | hs := hjudged.state <;> simp [hs]
  rw [State.publish_eq_judged, State.testAtPublication_of_none (State.evaluatedStep_of_not_running hnotRunning)]
  exact hjudged.congr rfl rfl rfl rfl

theorem State.StaysRestored.publishScan : u.StaysRestored s.publishScan := by
  refine State.StaysRestored.publish (s := s.setScanner _) ?_ _
  exact h.congr rfl rfl rfl rfl

theorem State.StaysRestored.startScan : u.StaysRestored s.startScan := by
  cases hnext : s.nextProbe 0 with
  | some p => rw [State.startScan_of_next hnext]; exact h.congr rfl rfl rfl rfl
  | none =>
    rw [State.startScan_of_none hnext]
    have hbegun : u.StaysRestored (s.setScanner (s.scanner.begin s.settings.scanEnable)) := h.congr rfl rfl rfl rfl
    exact hbegun.publishScan.congr rfl rfl rfl rfl

theorem State.StaysRestored.takeReadyAction (a : ReadyAction) : u.StaysRestored (s.takeReadyAction a) := by
  cases a with
  | scanStart => exact h.startScan
  | trip i => exact h.trip i
  | fanStart => exact h.fansFollowRun

end

/-- R171, R174: a run that the load has restored is still so once READY's actions have been taken. -/
theorem State.reachReady_staysRestored {u : State} (hstate : u.run.state = .held) (hr : u.run.reasons.restored = true)
    (hband : u.run.inBand = false) : u.StaysRestored u.reachReady :=
  State.reachReady_keeps u (fun _ => ⟨.inl hstate, hr, hband, rfl, rfl, rfl, rfl⟩) fun _ a ht => ht.takeReadyAction a

end Sys2Proof.Machine
end

section
/-! LoadEndRestoresTheRun. -/

namespace Sys2Proof.Machine

section
variable {s : State} {b : CheckpointBody} (hskip : s.straps.skipSettings = false)
  (hregion : s.memory.checkpointRegion = .run b)
include hskip hregion

/-- R174: with both regions read, the run that the checkpoint marks is restored, whatever the settings region gives. -/
theorem State.runGiven_of_run : s.runGiven true true = .restored b := by
  unfold State.runGiven State.settingsGiven settingsLoad runLoad
  rw [hskip, hregion]
  cases s.memory.settingsRegion <;> rfl

theorem loadNotices_of_run :
    loadNotices s true true =
      (defaultedCause s true).toList.map (fun cause => (.settingsDefaulted, cause, 0)) ++
        [(.runRestored, b.stepIndex, 0)] := by
  rw [loadNotices_eq, State.runGiven_of_run hskip hregion]; rfl

/-- R174: the load restores the run on the settings that it has given. -/
theorem State.loaded_of_run :
    s.loaded true true =
      { (s.applySettings (s.settingsGiven true)).restoreRun b with memory := s.memory.startNext } := by
  rw [State.loaded, State.runGiven_of_run hskip hregion]
  simp [State.applyRun]

end

/-- Settles O5: the load leaves the run HELD by RESTORED on its schedule, its zones and its fans' settings, and READY's
actions leave it so but for SAFE and for other reasons. -/
theorem loadEndRestoresTheRun : Obligations.LoadEndRestoresTheRun := by
  unfold Obligations.LoadEndRestoresTheRun
  intro s b ha hr hop hwaits hskip hregion
  obtain ⟨u, hu⟩ : ∃ u, u = s.applySettings (s.settingsGiven true) := ⟨_, rfl⟩
  have hloaded := State.loaded_of_run hskip hregion
  rw [← hu] at hloaded
  obtain ⟨hrun, hschedule, -⟩ := u.restoreRun_loads b
  obtain ⟨l, hl⟩ : ∃ l, l = s.loaded true true := ⟨_, rfl⟩
  have hlrun : l.run = b.run := by rw [hl, hloaded]; exact hrun
  have hstays : l.StaysRestored l.reachReady.finishEvent :=
    (State.reachReady_staysRestored (by rw [hlrun]; rfl) (by rw [hlrun]; rfl) (by rw [hlrun]; rfl)).congr (by simp)
      (by simp) (by simp) (by simp)
  obtain ⟨more, hnotices⟩ := s.loaded_reachReady_notices true true
  rw [loadNotices_of_run hskip hregion, List.append_assoc] at hnotices
  have hexec := exec_loadEnd ha hr hop true true
  rw [← hl] at hexec hnotices
  obtain ⟨t, ht⟩ : ∃ t, t = l.reachReady.finishEvent := ⟨_, rfl⟩
  rw [← ht] at hexec hnotices hstays
  have hkept := hstays.run
  rw [hlrun] at hkept
  refine ⟨t, hexec, by rw [ht]; simp, ?_, ⟨more, hnotices⟩, hstays.state, hstays.restored, ?_, ?_, ?_, ?_, ?_, ?_, ?_,
    ?_, ?_, ?_, ?_, fun step hstep => ?_⟩
  · rw [hstays.schedule, hl, hloaded]; exact hschedule
  iterate 11 · rw [hkept]; rfl
  · obtain ⟨⟨hinterval, hspeed⟩, hramps⟩ := u.restoreRun_step b hstep
    have hfans : t.fans.handed = (step.reversalInterval, step.speed) := by
      rw [hstays.fans, hl, hloaded, ← hinterval, ← hspeed]; rfl
    refine ⟨congrArg Prod.fst hfans, congrArg Prod.snd hfans, fun z hz => ?_⟩
    have hsettings : t.settings = u.settings := by rw [ht, hu, hl]; simp
    have hzone : t.zone z = (u.restoreRun b).zone z := by
      rw [State.zone, hstays.zones, hl, hloaded]; rfl
    rw [hzone, hramps z (by rw [← hz]; exact congrFun (State.zoneActive_congr (congrArg Settings.zones hsettings.symm)) z)]
    rfl

end Sys2Proof.Machine
end
